-- ==== Sys2Proof/Word.lean ====
section
/-! DEFINITION. The word types of the Arpejo 240 and the plainest operations on tables of fixed size. -/

namespace Sys2Proof

/-- One byte of a link, of the glyph memory or of a text block. -/
abbrev Byte := BitVec 8

/-- Entry `i` of a table of `n` entries. -/
def tget {α : Type} {n : Nat} (v : Vector α n) (i : Fin n) : α := v[i.val]'i.isLt

/-- The table with entry `i` replaced. -/
def tset {α : Type} {n : Nat} (v : Vector α n) (i : Fin n) (x : α) : Vector α n :=
  v.set i.val x i.isLt

/-- The table with `f` applied to entry `i`. -/
def tupd {α : Type} {n : Nat} (v : Vector α n) (i : Fin n) (f : α → α) : Vector α n :=
  tset v i (f (tget v i))

/-- The table with `f` applied to every entry. It goes through the list of entries, so that the kernel can evaluate it. -/
def tmap {α β : Type} {n : Nat} (f : α → β) (v : Vector α n) : Vector β n :=
  ⟨⟨v.toArray.toList.map f⟩, by simp⟩

/-- The entries in index order. -/
def tlist {α : Type} {n : Nat} (v : Vector α n) : List α := v.toArray.toList

end Sys2Proof
end

