-- ==== Sys2Proof/Syntax.lean ====
section
/-! DEFINITION. The commands of the Arpejo 240: one constructor of `Instr` for each row of spec/opcode_table.json, with
the row's operands. Numbers that a link partner sends are held as sent (a `Nat` or `Int` read most significant byte
first, R181), so that a value out of range can be written and is judged by the rule of the command. -/

namespace Sys2Proof

/-- The straps sampled at the release of the RESET pin (R191). -/
structure Straps where
  /-- LINES: the 2160-line raster (`true`) or the 1080-line raster. -/
  lines2160 : Bool
  /-- RATE: 59.94 frames per second (`true`) or 50. -/
  rate5994 : Bool
  /-- TALLYMODE high (R165). -/
  tallyMode : Bool
  /-- PANELADDR1 and PANELADDR0 (R177). -/
  panelAddr : Fin 4
  deriving DecidableEq, Repr

/-- What the link reads of every editorial command block: the tag and the data length (R183). -/
structure EdHeader where
  tag : Byte
  dataLength : Nat
  deriving DecidableEq, Repr

/-- A reference: an index (or id) and a generation. -/
structure Ref where
  index : Nat
  gen : Nat
  deriving DecidableEq, Repr

/-- Parameters of DEFINE QUOTE (R185): the target lane, the symbol length of the flags, the eight symbol bytes, the
scale, the display decimals and the reference when the flags give one. -/
structure DefineArgs where
  lane : Nat
  symLen : Nat
  symbol : List Byte
  scale : Nat
  decimals : Nat
  reference : Option Int
  deriving DecidableEq, Repr

/-- Parameters of LOAD FACE (R185). -/
structure FaceArgs where
  face : Nat
  lineHeight : Nat
  baseline : Nat
  substitute : Nat
  count : Nat
  deriving DecidableEq, Repr

/-- One palette entry: three 10-bit components (R102). -/
structure Rgb where
  r : Nat
  g : Nat
  b : Nat
  deriving DecidableEq, Repr

/-- A configuration record as received (R183), with every coded field still a number. -/
structure ConfigRecord where
  presentation : Nat
  yOrigin : Nat
  height : Nat
  face : Nat
  baseline : Nat
  palette : Vector Rgb 10
  backKey : Nat
  gap : Nat
  quantum : Nat
  speed : Nat
  accel : Nat
  clearSpeed : Nat
  fade : Nat
  changeStyle : Nat
  smooth : Nat
  flipHold : Nat
  flipTransition : Nat
  rollFrames : Nat
  arrowUp : Nat
  arrowDown : Nat
  arrowSame : Nat
  arrowHalt : Nat
  deriving DecidableEq, Repr

/-- The mode of a commit (R92). -/
inductive CommitMode where
  | immediate
  | loopEnd
  deriving DecidableEq, Repr

/-- The urgency of a break (R126). -/
inductive Urgency where
  | next
  | now
  deriving DecidableEq, Repr

/-- A band request as it stands in a band's request queue (R105). -/
inductive BandRequest where
  | configure (record : ConfigRecord)
  | release
  | takeOn (fromTop : Bool)
  | takeOffDrain
  | takeOffCut
  | halt
  | resume
  | setSpeed (value : Nat)
  | nudge (up : Bool)
  | commit (mode : CommitMode)
  | brk (story : Ref) (repeats : Nat) (urgency : Urgency)
  | breakClear
  deriving DecidableEq, Repr

/-- Who sent a band request: the editorial master, in the exchange with this ticket, or the panel master. The ticket is
the model's own (log entry 20): it tells whether the exchange that sent the request is the one still in EXECUTING. -/
inductive Origin where
  | editorial (ticket : Nat)
  | panel
  deriving DecidableEq, Repr

/-- A band request as an editorial command carries it (R185). -/
inductive EdRequest where
  | configure
  | release
  | takeOn (fromTop : Bool)
  | takeOff (mode : Nat)
  | halt
  | resume
  | setSpeed (value : Nat)
  | commit (mode : Nat)
  | brk (story : Ref) (repeats : Nat) (urgency : Nat)
  | breakClear
  deriving DecidableEq, Repr

/-- A band request that the panel master sends to one band (R105). -/
inductive PanelRequest where
  | takeOn (fromTop : Bool)
  | takeOffDrain
  | takeOffCut
  | halt
  | resume
  | nudge (up : Bool)
  deriving DecidableEq, Repr

/-- A band request on its way to a band's request queue (R105). -/
inductive RequestArrival where
  | editorial (h : EdHeader) (band : Nat) (r : EdRequest)
  | panel (band : Fin 4) (r : PanelRequest)
  deriving DecidableEq, Repr

/-- What POWER_ON finds at the pins: the straps (R191), and whether an editorial frame whose select went low before the release
of RESET is still in progress (R169, log entry 36). -/
structure ReleaseLevels where
  straps : Straps
  selected : Bool
  deriving DecidableEq, Repr

/-- The way a command that both masters have reaches its block: in an editorial command block, or in a panel write. -/
inductive Via where
  | editorial (h : EdHeader)
  | panel
  deriving DecidableEq, Repr

/-- The commands of the editorial catalogue (R185) with their targets, flags and parameters. -/
inductive EdCommand where
  | defineQuote (a : DefineArgs)
  | retireQuote (r : Ref)
  | setSource (r : Ref) (source : Nat)
  | setReference (r : Ref) (remove : Bool) (scale : Nat) (mantissa : Int)
  | setFlash (value : Nat)
  | readQuotes (start count direction : Nat)
  | laneHold (lane : Nat)
  | laneRelease (lane : Nat)
  | laneFlush (lane : Nat)
  | linkRelease
  | setSilenceLimit (lane limit : Nat)
  | readLanes
  | loadStory
  | deleteStory (r : Ref)
  | readStories (start count : Nat)
  | loadFace (a : FaceArgs)
  | unloadFace (face : Nat)
  | loadImages (offset : Nat)
  | readFace (face start count : Nat)
  | edit (band op pos count : Nat)
  | copyBank (band : Nat)
  | readRunList (band bank start count direction : Nat)
  | request (band : Nat) (r : EdRequest)
  | readBand (band : Nat)
  | readWindow (band : Nat)
  | softClean (value : Nat)
  | setPin (pin mode select level : Nat)
  | readOutput
  | setLevels (master : Nat) (levels : List Nat)
  | setThreshold (value : Nat)
  | readEvents
  | deviceReset
  deriving DecidableEq, Repr

/-- The commands of the block: one constructor for each row of spec/opcode_table.json, in the table's order. -/
inductive Instr where
  /-- The RESET pin is released at time `time` (nanoseconds) with these levels of the straps and of ED SEL. -/
  | powerOn (levels : ReleaseLevels) (time : Nat)
  | resetAsserted
  | initDone
  | deviceResetStart
  /-- A pulse on the REF pin at time `time` (nanoseconds). -/
  | referencePulse (time : Nat)
  | lossLimit
  | freeRunPeriod
  | flashExpired (index : Fin 1024)
  | laneSilent (lane : Fin 4)
  | drainEnd (band : Fin 4)
  | clearingEnd (band : Fin 4)
  | holdExpired (band : Fin 4)
  | rollEnd (band : Fin 4)
  | leavingEnd (band : Fin 4)
  | fadeOutComplete (band : Fin 4)
  | fadeInComplete (band : Fin 4)
  | bankSwap (band : Fin 4)
  | retiringRecordFreed (index : Fin 1024)
  | deletingStoryFreed (id : Fin 256)
  | cleanRequest (level : Bool)
  /-- Bytes arriving on FEED RX. -/
  | feedPacket (bytes : List Byte)
  | feedStatusRecordSent
  | updateEngineTurn
  /-- A COMMAND frame: the bytes after its kind byte. -/
  | commandFrame (bytes : List Byte)
  /-- A DATA OUT frame: the bytes after its kind byte. -/
  | dataOutFrame (bytes : List Byte)
  /-- A DATA IN frame: how many bytes the master clocks after the kind byte. -/
  | dataInFrame (count : Nat)
  /-- A STATUS frame: how many bytes the master clocks after the kind byte. -/
  | statusFrame (count : Nat)
  | linkReset
  | defineQuote (h : EdHeader) (a : DefineArgs)
  | retireQuote (h : EdHeader) (r : Ref)
  | setSource (h : EdHeader) (r : Ref) (source : Nat)
  /-- A DATA OUT frame of one byte, the last of the override text. -/
  | setSourceDataComplete (last : Byte)
  | setReference (h : EdHeader) (r : Ref) (remove : Bool) (scale : Nat) (mantissa : Int)
  | setFlash (h : EdHeader) (value : Nat)
  | readQuotes (h : EdHeader) (start count direction : Nat)
  | laneHold (via : Via) (lane : Nat)
  | laneRelease (via : Via) (lane : Nat)
  | laneFlush (h : EdHeader) (lane : Nat)
  | linkRelease (via : Via)
  | setSilenceLimit (h : EdHeader) (lane limit : Nat)
  | readLanes (h : EdHeader)
  | loadStory (h : EdHeader)
  /-- A DATA OUT frame of one byte, the last of the story. -/
  | loadStoryComplete (last : Byte)
  | deleteStory (h : EdHeader) (r : Ref)
  | readStories (h : EdHeader) (start count : Nat)
  | loadFace (h : EdHeader) (a : FaceArgs)
  /-- A DATA OUT frame of one byte, the last of the glyph entries. -/
  | loadFaceComplete (last : Byte)
  | unloadFace (h : EdHeader) (face : Nat)
  | loadGlyphImages (h : EdHeader) (offset : Nat)
  /-- A DATA OUT frame of one byte, the last image byte. -/
  | loadGlyphImagesComplete (last : Byte)
  | readFace (h : EdHeader) (face start count : Nat)
  | editInsert (h : EdHeader) (band pos count : Nat)
  | editDelete (h : EdHeader) (band pos count : Nat)
  | editReplace (h : EdHeader) (band pos count : Nat)
  | editClear (h : EdHeader) (band pos count : Nat)
  /-- A DATA OUT frame of one byte, the last of the item entries. -/
  | editDataComplete (last : Byte)
  | copyBank (h : EdHeader) (band : Nat)
  | readRunList (h : EdHeader) (band bank start count direction : Nat)
  | readBand (h : EdHeader) (band : Nat)
  | readWindow (h : EdHeader) (band : Nat)
  | softClean (via : Via) (value : Nat)
  | setPin (h : EdHeader) (pin mode select level : Nat)
  | readOutput (h : EdHeader)
  | setLevels (h : EdHeader) (master : Nat) (levels : List Nat)
  | setThreshold (via : Via) (value : Nat)
  | readEvents (h : EdHeader)
  | readEventsComplete
  | deviceReset (h : EdHeader)
  | bandRequestQueued (a : RequestArrival)
  | configure (ticket : Nat) (band : Fin 4) (record : ConfigRecord)
  | release (ticket : Nat) (band : Fin 4)
  | takeOn (origin : Origin) (band : Fin 4) (fromTop : Bool)
  | takeOffDrain (origin : Origin) (band : Fin 4)
  | takeOffCut (origin : Origin) (band : Fin 4)
  | halt (origin : Origin) (band : Fin 4)
  | resume (origin : Origin) (band : Fin 4)
  | setSpeed (ticket : Nat) (band : Fin 4) (value : Nat)
  | nudge (band : Fin 4) (up : Bool)
  | commit (ticket : Nat) (band : Fin 4) (mode : CommitMode)
  | breakNext (ticket : Nat) (band : Fin 4) (story : Ref) (repeats : Nat)
  | breakNow (ticket : Nat) (band : Fin 4) (story : Ref) (repeats : Nat)
  | breakClear (ticket : Nat) (band : Fin 4)
  | allTakeOff (cut : Bool)
  | allHalt
  | allResume
  /-- Bytes that the bus partner sends on the panel bus in the transfer in progress. -/
  | panelWrite (bytes : List Byte)
  | startCondition
  | stopCondition
  /-- The device's address with the read direction, then this many whole bytes clocked by the partner. -/
  | panelStatusRead (clocked : Nat)
  /-- The partner clocks the rest of the status block, up to the eighth bit of byte 7. -/
  | panelStatusReadComplete
  /-- An editorial frame with this kind byte. -/
  | frameOfUnknownKind (kind : Byte)
  deriving DecidableEq, Repr

end Sys2Proof
end

