-- ==== Sys2Proof/Config.lean ====
section
/-! DEFINITION. What the manual leaves open, as free values without a body, and the sizes the manual fixes. -/

namespace Sys2Proof.Config

/-- FREE VALUE (log entry 3). The order in which the blocks take one frame start: R154 says that the blocks "are not
ordered against one another". The number is read as a permutation of the seven blocks. -/
opaque frameOrder : Nat → Nat

/-- FREE VALUE (log entry 9). The roll step held after a roll has ended: R146 and R147 do not state it. -/
opaque rollStepAfterRoll : Nat → Nat

/-- FREE VALUE (log entry 9). The outgoing count held after a LEAVING roll has ended: R147 does not state it. -/
opaque outgoingAfterLeaving : Nat → Nat

/-- FREE VALUE (log entry 10). The effective target that READ BAND reports for a band that is not a CRAWL band: R113
defines the effective target of a CRAWL band alone. -/
opaque reportedTarget : Nat → Nat

/-- R48: records one intake queue holds at most. -/
abbrev intakeSize : Nat := 512
/-- R105: requests one band's request queue holds at most. -/
abbrev requestQueueSize : Nat := 8
/-- R101: instances one window holds at most. -/
abbrev windowSize : Nat := 64
/-- R126: entries one break queue holds at most. -/
abbrev breakQueueSize : Nat := 4
/-- R84: items one bank holds at most. -/
abbrev bankSize : Nat := 256
/-- R139: instances one page holds at most. -/
abbrev pageSize : Nat := 32
/-- R67: text blocks in the pool. -/
abbrev blockCount : Nat := 4096
/-- R67: codes in one text block. -/
abbrev blockCodes : Nat := 32
/-- R69: codes in the longest story. -/
abbrev storyCodes : Nat := 2048
/-- R74: bytes of glyph memory. -/
abbrev glyphBytes : Nat := 4194304
/-- R1: the largest magnitude of a price mantissa. -/
abbrev mantissaMax : Nat := 999999999
/-- R28: the largest magnitude of a percent, in basis points. -/
abbrev percentMax : Nat := 99999
/-- R102: the largest speed, speed target and clear speed, and the largest accel. -/
abbrev speedMax : Nat := 8192
/-- R183: bytes of a configuration record. -/
abbrev configBytes : Nat := 96

end Sys2Proof.Config
end

