-- ==== Sys2Proof/Machine/State.lean ====
section
/-! DEFINITION. The state of the Arpejo 240: everything the manual gives its fourteen blocks, as plain data, with the
power-on values; and the reasons for which a step can stop. -/

namespace Sys2Proof.Machine

/-- Why a step stops with a fault. -/
inductive Fault where
  /-- Raised by a data byte of LOAD GLYPH IMAGES whose range would reach outside the 4,194,304 bytes of glyph memory
  (R74, R77). R77 refuses such a command before its data phase, so no run reaches it. SAFE: the machine stops. -/
  | glyphAddress
  deriving DecidableEq, Repr

/-- Why a step is refused. -/
inductive Refusal where
  /-- Raised by `exec` for a row without a meaning. No arm of this model raises it. SAFE: the machine stops. -/
  | notModelled (mnemonic : String)
  deriving DecidableEq, Repr

/-! ### Reset and timing -/

/-- Whether the device is held by the RESET pin, initialising, or running (R191). -/
inductive RunMode where
  | held
  | initialising
  | running
  deriving DecidableEq, Repr

/-- The lock state of the timing unit (R151). -/
inductive LockState where
  | seeking
  | locked
  | freeRun
  deriving DecidableEq, Repr

/-- The timing unit (R151). Times are nanoseconds. -/
structure Tu where
  lock : LockState
  lastFrame : Nat
  deriving DecidableEq, Repr

/-! ### Quote table -/

inductive QuoteState where
  | free
  | live
  | retiring
  deriving DecidableEq, Repr

/-- The source of a quote (R11). -/
inductive Source where
  | live
  | frozen
  | overridden
  deriving DecidableEq, Repr

inductive Sign where
  | zero
  | plus
  | minus
  deriving DecidableEq, Repr

inductive Tick where
  | none
  | up
  | down
  deriving DecidableEq, Repr

/-- A quote record, with the fields of the table of R1 in its order. -/
structure Quote where
  state : QuoteState
  gen : Nat
  symbol : Option (List Byte)
  lane : Option (Fin 4)
  scale : Nat
  decimals : Nat
  pendSource : Source
  pendText : Option (List Byte)
  pendLast : Option Int
  pendRef : Option Int
  pendHalted : Bool
  dirty : Bool
  dispLast : Option Int
  dispRef : Option Int
  dispHalted : Bool
  dispSource : Source
  dispText : Option (List Byte)
  stale : Bool
  change : Option Int
  percent : Option Int
  netSign : Sign
  tick : Tick
  flash : Nat
  count : Nat
  deriving DecidableEq, Repr

/-- R1, R8: a FREE record with this generation, every other field at its cleared value. -/
def Quote.free (gen : Nat) : Quote where
  state := .free
  gen := gen
  symbol := none
  lane := none
  scale := 0
  decimals := 0
  pendSource := .live
  pendText := none
  pendLast := none
  pendRef := none
  pendHalted := false
  dirty := false
  dispLast := none
  dispRef := none
  dispHalted := false
  dispSource := .live
  dispText := none
  stale := false
  change := none
  percent := none
  netSign := .zero
  tick := .none
  flash := 0
  count := 0

/-! ### Feed link interface, intake queues, update engine -/

/-- An update record of lanes 1 to 4 (R182); bytes 10 and 11 are not read. -/
structure Update where
  kind : Byte
  scale : Nat
  index : Nat
  gen : Nat
  mantissa : Int
  deriving DecidableEq, Repr

/-- A lane with its intake queue (R48, R50), oldest record first. Lane 1 is entry 0 of the table of lanes. -/
structure Lane where
  active : Bool
  held : Bool
  counter : Nat
  limit : Nat
  queue : List Update
  deriving DecidableEq, Repr

/-- What waits on FEED TX (R168): a reply byte, or the bytes still to be sent of a feed status record, and whether that
record is the end of a read of the feed master's pending set (R190). -/
inductive TxItem where
  | reply (code : Byte)
  | record (bytes : List Byte) (ownsRead : Bool)
  deriving DecidableEq, Repr

/-- The feed link interface (R44, R50, R167, R168). `rx` is the framing state: `none` is HUNT, and `some l` holds the
bytes taken since the delimiter. `txOut` is the model's own record of the bytes that FEED TX sent last. -/
structure Fli where
  fault : Bool
  bad : Nat
  lanes : Vector Lane 4
  rx : Option (List Byte)
  tx : List TxItem
  txOut : List Byte
  deriving DecidableEq, Repr

def Lane.reset : Lane := ⟨false, false, 0, 150, []⟩

/-- R65, R167. -/
def Fli.reset : Fli := ⟨false, 0, Vector.replicate 4 Lane.reset, none, [], []⟩

/-! ### Stores -/

/-- A memory as the listed (address, byte) pairs, addresses strictly rising, no pair equal to what an unlisted address
reads as, which is 0 (R83 for the glyph memory; log entry 8 for the text blocks). -/
abbrev Memory := List Host.Cell

inductive StoryState where
  | free
  | loaded
  | deleting
  deriving DecidableEq, Repr

/-- A story record (R66). -/
structure Story where
  state : StoryState
  gen : Nat
  length : Nat
  blocks : List Nat
  count : Nat
  deriving DecidableEq, Repr

/-- R66: a FREE story record with this generation. -/
def Story.free (gen : Nat) : Story := ⟨.free, gen, 0, [], 0⟩

/-- The designated id and blocks of a load in progress (R69). -/
structure LoadTarget where
  id : Fin 256
  blocks : List Nat
  deriving DecidableEq, Repr

/-- The text store (R66, R67, R69). The code at place k of block b stands in the two bytes of `text` from address
64 b + 2 k, high byte first. `freeBlocks` is in ascending number. -/
structure TextStore where
  stories : Vector Story 256
  freeBlocks : List Nat
  text : Memory
  loadTarget : Option LoadTarget
  deriving DecidableEq, Repr

/-- R83. -/
def TextStore.reset (text : Memory) : TextStore :=
  ⟨Vector.replicate 256 (Story.free 0), List.range Config.blockCount, text, none⟩

/-- A glyph record (R74). -/
structure Glyph where
  present : Bool
  advance : Nat
  bearingX : Int
  bearingY : Int
  width : Nat
  height : Nat
  offset : Nat
  deriving DecidableEq, Repr

def Glyph.absent : Glyph := ⟨false, 0, 0, 0, 0, 0, 0⟩

/-- A face record (R74). -/
structure Face where
  loaded : Bool
  lineHeight : Nat
  baseline : Nat
  substitute : Nat
  glyphs : Vector Glyph 1024
  deriving DecidableEq, Repr

/-- R74: an EMPTY face. -/
def Face.empty : Face := ⟨false, 0, 0, 0, Vector.replicate 1024 Glyph.absent⟩

/-- The glyph store (R74) with its face staging area (R76). -/
structure GlyphStore where
  faces : Vector Face 4
  mem : Memory
  staging : List Byte
  deriving DecidableEq, Repr

/-- R83, power-on. -/
def GlyphStore.reset : GlyphStore := ⟨Vector.replicate 4 Face.empty, [], []⟩

/-! ### Run lists -/

/-- What an item shows (R85). -/
inductive ItemKind where
  | quote (r : Ref)
  | story (r : Ref)
  | glyph (code : Nat)
  | spacer (width : Nat)
  deriving DecidableEq, Repr

/-- A run-list item (R85). -/
structure Item where
  kind : ItemKind
  gap : Option Nat
  colour : Option Nat
  deriving DecidableEq, Repr

/-- One band's banks, on-air selector and pending-commit record (R84, R86, R93). -/
structure RunLists where
  bankA : List Item
  bankB : List Item
  onAirB : Bool
  commit : Option CommitMode
  deriving DecidableEq, Repr

/-- R100. -/
def RunLists.reset : RunLists := ⟨[], [], false, none⟩

/-! ### Band engines -/

inductive Presentation where
  | crawl
  | flip
  deriving DecidableEq, Repr

inductive ChangeStyle where
  | abs
  | pct
  | both
  deriving DecidableEq, Repr

inductive Transition where
  | cut
  | roll
  deriving DecidableEq, Repr

/-- A stored configuration record (R102). -/
structure BandConfig where
  presentation : Presentation
  yOrigin : Nat
  height : Nat
  face : Fin 4
  baseline : Nat
  palette : Vector Rgb 10
  backKey : Nat
  gap : Nat
  quantum : Nat
  speedTarget : Nat
  accel : Nat
  clearSpeed : Nat
  fade : Nat
  changeStyle : ChangeStyle
  smooth : Bool
  flipHold : Nat
  flipTransition : Transition
  rollFrames : Nat
  arrowUp : Nat
  arrowDown : Nat
  arrowSame : Nat
  arrowHalt : Nat
  deriving DecidableEq, Repr

/-- The program state of a band (R101). -/
inductive Prog where
  | off
  | ready
  | running
  | draining
  | clearing
  | breaking
  deriving DecidableEq, Repr

/-- The reference of an instance (R101). -/
inductive InstKind where
  | quote (r : Ref)
  | story (r : Ref)
  | glyph (code : Nat)
  | spacer
  deriving DecidableEq, Repr

/-- An instance of a window (R101). -/
structure Inst where
  kind : InstKind
  x : Int
  slot : Nat
  gap : Nat
  colour : Option Nat
  voffset : Int
  brk : Bool
  deriving DecidableEq, Repr

/-- A break entry (R126). -/
structure BreakEntry where
  story : Ref
  urgency : Urgency
  repeats : Nat
  deriving DecidableEq, Repr

inductive PagePhase where
  | empty
  | holding
  | rolling
  | leaving
  deriving DecidableEq, Repr

/-- The flip page state (R139). -/
structure Page where
  phase : PagePhase
  hold : Nat
  roll : Nat
  outgoing : Nat
  deriving DecidableEq, Repr

/-- R139: the page state after reset and in OFF and READY. -/
def Page.initial : Page := ⟨.empty, 0, 0, 0⟩

/-- A queued band request with its sender (R105). -/
structure QueuedRequest where
  origin : Origin
  request : BandRequest
  deriving DecidableEq, Repr

/-- A band engine (R101). -/
structure Band where
  config : Option BandConfig
  prog : Prog
  halted : Bool
  speed : Nat
  queue : List QueuedRequest
  cursor : Nat
  window : List Inst
  deferral : Bool
  breaks : List BreakEntry
  saved : Option Nat
  page : Page
  deriving DecidableEq, Repr

/-- R101. -/
def Band.reset : Band := ⟨none, .off, false, 0, [], 0, [], false, [], none, Page.initial⟩

/-! ### Compositor and output pins -/

inductive VisState where
  | shown
  | fadingOut
  | hidden
  | fadingIn
  deriving DecidableEq, Repr

/-- The visibility of a band (R160). -/
structure Visibility where
  state : VisState
  step : Nat
  deriving DecidableEq, Repr

/-- R161: the visibility of a band that is not in a drawing state. -/
def Visibility.off : Visibility := ⟨.hidden, 0⟩

/-- The compositor (R159, R160, R162). -/
structure Compositor where
  edFlag : Bool
  panelFlag : Bool
  sampled : Bool
  ack : Bool
  vis : Vector Visibility 4
  deriving DecidableEq, Repr

/-- R159, R161, R162. -/
def Compositor.reset : Compositor := ⟨false, false, false, false, Vector.replicate 4 Visibility.off⟩

/-- The function select of an output pin (R164). -/
inductive PinSelect where
  | attentionFeed
  | attentionEditorial
  | attentionPanel
  | tally (band : Fin 4)
  | cleanAck
  deriving DecidableEq, Repr

/-- An output pin (R164): FUNCTION mode, function select, level high. -/
structure Pin where
  function : Bool
  select : PinSelect
  level : Bool
  deriving DecidableEq, Repr

/-- R165: the pins from the TALLYMODE strap as it was sampled. -/
def Pin.initial (tallyMode : Bool) : Vector Pin 4 :=
  ⟨#[⟨tallyMode, .tally 0, false⟩, ⟨tallyMode, .tally 1, false⟩,
     ⟨tallyMode, .tally 2, false⟩, ⟨tallyMode, .tally 3, false⟩], rfl⟩

/-! ### Attention unit -/

/-- The three masters. -/
inductive Master where
  | feed
  | editorial
  | panel
  deriving DecidableEq, Repr

/-- The kinds of events, in the order of their numbers. -/
inductive EventKind where
  | initDone
  | feedRefused
  | linkFault
  | laneSilent
  | laneActive
  | updateDiscarded
  | badPrice
  | bandState
  | loopEnd
  | bankSwapped
  | itemSkipped
  | starved
  | windowFull
  | breakDone
  | timing
  | commandRefused
  deriving DecidableEq, Repr

/-- The source of an event. -/
inductive EventSource where
  | none
  | lane (n : Fin 4)
  | band (b : Fin 4)
  | master (m : Master)
  deriving DecidableEq, Repr

/-- An event pair (R186). -/
structure Event where
  kind : EventKind
  source : EventSource
  deriving DecidableEq, Repr

/-- What the attention unit holds for one master (R186). `latch` holds the latched pairs while a read of the pending set
is in progress (R189). -/
structure MasterSet where
  levels : Vector Nat 16
  threshold : Nat
  pending : List Event
  hold : List Event
  latch : Option (List Event)
  deriving DecidableEq, Repr

/-- The attention unit. -/
structure Au where
  feed : MasterSet
  editorial : MasterSet
  panel : MasterSet
  deriving DecidableEq, Repr

/-- R187: the default level table of each master. -/
def MasterSet.defaultLevels : Master → Vector Nat 16
  | .feed => ⟨#[1, 1, 1, 1, 1, 1, 1, 0, 0, 0, 0, 0, 0, 0, 0, 0], rfl⟩
  | .editorial => ⟨#[1, 1, 1, 1, 1, 1, 1, 1, 0, 1, 1, 1, 1, 1, 1, 1], rfl⟩
  | .panel => ⟨#[1, 0, 1, 1, 0, 0, 0, 1, 0, 0, 0, 1, 0, 1, 1, 1], rfl⟩

def MasterSet.reset (m : Master) : MasterSet := ⟨MasterSet.defaultLevels m, 0, [], [], none⟩

/-- R187, R188. -/
def Au.reset : Au := ⟨MasterSet.reset .feed, MasterSet.reset .editorial, MasterSet.reset .panel⟩

/-! ### Editorial link interface -/

/-- The phases of the editorial link (R174). -/
inductive EdPhase where
  | idle
  | dataOut
  | dataIn
  | executing
  | statusReady
  | phaseError
  deriving DecidableEq, Repr

/-- The result codes of the status block (R183). -/
inductive Result where
  | good
  | pending
  | busy
  | badParam
  | notFound
  | full
  | exists_
  | wrongMode
  | lengthError
  | phaseError
  | notReady
  deriving DecidableEq, Repr

/-- The status of a command: result, residue and the five bytes of returned values (R173). -/
structure Status where
  result : Result
  residue : Nat
  values : List Byte
  deriving DecidableEq, Repr

/-- The editorial link interface (R170 to R176): the phase, the tag, command and data length of the current command
block, the data counter, the data received for SET SOURCE or CONFIGURE, the number of the next report of a read and what
is unsent of the latched one, and the status of a command in STATUS READY. `ticket` and `dout` are the model's own (log
entries 20 and 13): the number of the last editorial band request queued, and the bytes driven on ED DOUT in the last
frame. `straddles`: ED SEL has been low since before RESET was released, in a frame that is ignored until it goes high (R169). -/
structure Eli where
  phase : EdPhase
  tag : Byte
  command : Option EdCommand
  dataLength : Nat
  counter : Nat
  data : List Byte
  reportNo : Nat
  latch : List Byte
  status : Option Status
  ticket : Nat
  dout : List Byte
  straddles : Bool
  deriving DecidableEq, Repr

/-- R176: IDLE, with no command block, data counters at 0 and no status. The model's own fields and the level of ED SEL
are kept. -/
def Eli.toIdle (e : Eli) : Eli :=
  { phase := .idle, tag := 0, command := none, dataLength := 0, counter := 0, data := [], reportNo := 0, latch := [],
    status := none, ticket := e.ticket, dout := e.dout, straddles := e.straddles }

/-- R176. ED SEL is high: the model's choice at `State.reset` (log entry 5), and POWER_ON says it itself. -/
def Eli.reset : Eli := ⟨.idle, 0, none, 0, 0, [], 0, [], none, 0, [], false⟩

/-! ### Panel bus interface -/

/-- The transfer state of the panel bus interface (R180). `address` follows a start condition and awaits the address
byte. A write holds the bytes acknowledged so far and whether the whole write is to be discarded (R177). -/
inductive Transfer where
  | notAddressed
  | address
  | write (bytes : List Byte) (discard : Bool)
  | broadcast (bytes : List Byte) (discard : Bool)
  | read (position : Nat)
  deriving DecidableEq, Repr

/-- The panel bus interface (R180): the transfer state and the latched status block. `acks` and `out` are the model's
own (log entry 13): the acknowledge bits that the device gave to the last bytes it received, and the bytes it sent in
the last clocking of a read. -/
structure Pbi where
  transfer : Transfer
  block : List Byte
  acks : List Bool
  out : List Byte
  deriving DecidableEq, Repr

/-- R180. -/
def Pbi.reset : Pbi := ⟨.notAddressed, [], [], []⟩

/-! ### The whole machine -/

/-- The state of the device, with the queue of commands that wait (`pending`, first in, first out). `freeIndex` is the
model's own: the number of free values read so far (log entries 3, 9 and 10). `frames` counts the frames that the pixel
port has begun since the release of the RESET pin (R155). -/
structure State where
  run : RunMode
  straps : Straps
  cleanPin : Bool
  tu : Tu
  quotes : Vector Quote 1024
  flashSetting : Nat
  fli : Fli
  uePointer : Fin 4
  ts : TextStore
  gs : GlyphStore
  rls : Vector RunLists 4
  editStaging : List Byte
  bands : Vector Band 4
  cmp : Compositor
  pins : Vector Pin 4
  au : Au
  eli : Eli
  pbi : Pbi
  frames : Nat
  freeIndex : Nat
  pending : List Instr
  deriving DecidableEq, Repr

/-- R191: every block at its power-on values, in mode `run`, with these straps, the time of the last frame start at
`time` (R151), and the pins and the model's own fields that no reset touches. -/
def State.powerOnValues (run : RunMode) (straps : Straps) (time : Nat) (cleanPin : Bool) (freeIndex : Nat)
    (pending : List Instr) : State where
  run := run
  straps := straps
  cleanPin := cleanPin
  tu := ⟨.seeking, time⟩
  quotes := Vector.replicate 1024 (Quote.free 0)
  flashSetting := 25
  fli := Fli.reset
  uePointer := 3
  ts := TextStore.reset []
  gs := GlyphStore.reset
  rls := Vector.replicate 4 RunLists.reset
  editStaging := []
  bands := Vector.replicate 4 Band.reset
  cmp := Compositor.reset
  pins := Pin.initial straps.tallyMode
  au := Au.reset
  eli := Eli.reset
  pbi := Pbi.reset
  frames := 0
  freeIndex := freeIndex
  pending := pending

/-- The strap levels of `State.reset`: all low (DESIGN CHOICE, log entry 5). -/
def Straps.low : Straps := ⟨false, false, false, 0⟩

/-- The machine right after reset: the RESET pin has just been released, and the initialisation period runs (R191).
The straps, the levels of CLEAN REQUEST and ED SEL and the origin of time are DESIGN CHOICES (log entry 5). -/
def State.reset : State := State.powerOnValues .initialising Straps.low 0 false 0 []

end Sys2Proof.Machine
end

