-- ==== Sys2Proof/Machine/Arith.lean ====
section
/-! DEFINITION. Quote arithmetic: normalisation, change, percent and net sign (R25 to R29). -/

namespace Sys2Proof.Machine

/-- Conventions: the quotient rounded to the nearest integer, with halves rounded away from zero. -/
def roundDiv (a : Int) (b : Nat) : Int :=
  let q : Int := ((2 * a.natAbs + b) / (2 * b) : Nat)
  if a < 0 then -q else q

/-- Conventions: a value outside a range is replaced by the nearer end. -/
def clampInt (lo hi z : Int) : Int := max lo (min hi z)

/-- R1: the value lies within −999,999,999..+999,999,999. -/
def inRange (m : Int) : Bool := decide (m.natAbs ≤ Config.mantissaMax)

/-- R25: a mantissa at update scale `u` brought to scale `s`. -/
def rescale (u s : Nat) (m : Int) : Int :=
  if u ≤ s then m * (10 ^ (s - u) : Nat) else roundDiv m (10 ^ (u - s))

/-- R25, R26: the normalised mantissa, or none when normalisation fails. -/
def normalise (u s : Nat) (m : Int) : Option Int :=
  if u > 6 then none
  else if inRange (rescale u s m) then some (rescale u s m) else none

/-- R27: displayed last minus displayed reference, when both are present. -/
def changeOf : Option Int → Option Int → Option Int
  | some l, some r => some (l - r)
  | _, _ => none

/-- R28: the change in basis points of a reference above 0, rounded and then clamped. -/
def percentOf (change ref : Option Int) : Option Int :=
  match change, ref with
  | some c, some r =>
    if r > 0 then some (clampInt (-(Config.percentMax : Int)) Config.percentMax (roundDiv (c * 10000) r.toNat))
    else none
  | _, _ => none

/-- R29: the change at `d` decimals. -/
def shownChange (s d : Nat) (change : Option Int) : Option Int :=
  change.map (fun c => roundDiv c (10 ^ (s - d)))

/-- R29: the net sign of a displayed change. -/
def signOf : Option Int → Sign
  | none => .zero
  | some c => if c > 0 then .plus else if c < 0 then .minus else .zero

/-- R2, R68: the generation after an increase: 65535 goes to 1. -/
def nextGen (g : Nat) : Nat := if g ≥ 65535 then 1 else g + 1

/-- The smallest multiple of `q` at or above `w`. -/
def ceilTo (q w : Nat) : Nat := (w + q - 1) / q * q

end Sys2Proof.Machine
end

