-- ==== Sys2Proof/Machine/Bits.lean ====
section
/-! DEFINITION. Byte order and two's complement (R181), and bits of a byte. -/

namespace Sys2Proof.Machine

/-- R181: the number that bytes spell, most significant byte first. -/
def natOf (bs : List Byte) : Nat := bs.foldl (fun a b => a * 256 + b.toNat) 0

/-- R181: the signed number that bytes spell, two's complement, most significant byte first. -/
def intOf (bs : List Byte) : Int :=
  let n := natOf bs
  if 2 * n < 256 ^ bs.length then (n : Int) else (n : Int) - (256 ^ bs.length : Nat)

/-- R181: the low `k` bytes of a number, most significant byte first. -/
def bytesOf : Nat → Nat → List Byte
  | 0, _ => []
  | k + 1, v => BitVec.ofNat 8 (v / 256 ^ k) :: bytesOf k v

/-- R181: a signed number in `k` bytes, two's complement, most significant byte first. -/
def bytesOfInt (k : Nat) (z : Int) : List Byte :=
  bytesOf k (z % ((256 ^ k : Nat) : Int)).toNat

/-- The `k` bytes from byte `i` on. -/
def slice (bs : List Byte) (i k : Nat) : List Byte := (bs.drop i).take k

/-- The unsigned field of `k` bytes from byte `i` on. -/
def field (bs : List Byte) (i k : Nat) : Nat := natOf (slice bs i k)

/-- Byte `i`, or 0 past the end. -/
def byteAt (bs : List Byte) (i : Nat) : Byte := bs.getD i 0

/-- Bit `i` of a byte; bit 0 is the least significant (R181). -/
def bitAt (b : Byte) (i : Nat) : Bool := b.getLsbD i

/-- R183: a flag, a level and every field that is yes or no is 0 or 1. -/
def bit (b : Bool) : Nat := if b then 1 else 0

/-- One byte holding a number. -/
def byteOf (v : Nat) : Byte := BitVec.ofNat 8 v

end Sys2Proof.Machine
end

