-- ==== Sys2Proof/Machine/Ops.lean ====
section
/-! DEFINITION. The named operations over the state: memory, the tables of records, the attention unit's sets, the
on-screen counts, bank swaps and changes of program state. Every meaning goes through these. -/

namespace Sys2Proof.Machine

/-! ### Memory -/

/-- The byte at an address; an unlisted address reads as 0. -/
def Memory.read : Memory → Nat → Byte
  | [], _ => 0
  | (k, v) :: t, a => if a = k then v else if a < k then 0 else Memory.read t a

/-- The memory with the byte at an address replaced, in canonical form. -/
def Memory.write : Memory → Nat → Byte → Memory
  | [], a, b => if b = 0 then [] else [(a, b)]
  | (k, v) :: t, a, b =>
    if a = k then (if b = 0 then t else (a, b) :: t)
    else if a < k then (if b = 0 then (k, v) :: t else (a, b) :: (k, v) :: t)
    else (k, v) :: Memory.write t a b

/-- The canonical form from a lower bound on: addresses strictly rising from `lo`, no listed byte 0. -/
def Memory.wfFrom : Nat → Memory → Bool
  | _, [] => true
  | lo, (k, v) :: t => decide (lo ≤ k) && decide (v ≠ 0) && Memory.wfFrom (k + 1) t

/-- The canonical form of a memory. -/
def Memory.wf (m : Memory) : Bool := Memory.wfFrom 0 m

/-- The address of place `k` of text block `b`, in bytes: two bytes a code, 32 codes a block (R67). -/
def textAddress (b k : Nat) : Nat := 2 * Config.blockCodes * b + 2 * k

/-! ### Attention unit -/

/-- The number of an event kind (chapter 11). -/
def EventKind.number : EventKind → Fin 16
  | .initDone => 0
  | .feedRefused => 1
  | .linkFault => 2
  | .laneSilent => 3
  | .laneActive => 4
  | .updateDiscarded => 5
  | .badPrice => 6
  | .bandState => 7
  | .loopEnd => 8
  | .bankSwapped => 9
  | .itemSkipped => 10
  | .starved => 11
  | .windowFull => 12
  | .breakDone => 13
  | .timing => 14
  | .commandRefused => 15

/-- R186: a set never holds two equal pairs, and a pair already present keeps its place. -/
def addEvent (l : List Event) (e : Event) : List Event := if e ∈ l then l else l ++ [e]

/-- R186: the level a master gives a kind. -/
def MasterSet.level (m : MasterSet) (k : EventKind) : Nat := tget m.levels k.number

/-- R186: what a raised pair does to one master's sets. -/
def MasterSet.record (m : MasterSet) (e : Event) : MasterSet :=
  if m.level e.kind = 0 then m
  else if m.latch.isSome then { m with hold := addEvent m.hold e }
  else { m with pending := addEvent m.pending e }

/-- R189: the beginning of a read latches the pending set. -/
def MasterSet.beginRead (m : MasterSet) : MasterSet := { m with latch := some m.pending }

/-- R189: the hold set is merged into the pending set and emptied, and no read is in progress. -/
def MasterSet.mergeHold (m : MasterSet) : MasterSet :=
  { m with pending := m.hold.foldl addEvent m.pending, hold := [], latch := none }

/-- R189: a completed read removes the latched pairs and merges the hold set. -/
def MasterSet.completeRead (m : MasterSet) : MasterSet :=
  MasterSet.mergeHold { m with pending := m.pending.filter (fun e => !(m.latch.getD []).contains e) }

/-- R189: an incomplete read removes nothing and merges the hold set. -/
def MasterSet.abandonRead (m : MasterSet) : MasterSet := m.mergeHold

/-- R188: the master's attention line. -/
def MasterSet.attention (m : MasterSet) : Bool := m.pending.any (fun e => decide (m.level e.kind > m.threshold))

/-- The set of one master. -/
def Au.get (a : Au) : Master → MasterSet
  | .feed => a.feed
  | .editorial => a.editorial
  | .panel => a.panel

/-- The attention unit with `f` applied to one master's set. -/
def Au.upd (a : Au) (m : Master) (f : MasterSet → MasterSet) : Au :=
  match m with
  | .feed => { a with feed := f a.feed }
  | .editorial => { a with editorial := f a.editorial }
  | .panel => { a with panel := f a.panel }

/-- R186: AU takes a raised pair, for each master separately. -/
def Au.raise (a : Au) (e : Event) : Au := ⟨a.feed.record e, a.editorial.record e, a.panel.record e⟩

def State.raise (s : State) (k : EventKind) (src : EventSource) : State := { s with au := s.au.raise ⟨k, src⟩ }

def State.updMaster (s : State) (m : Master) (f : MasterSet → MasterSet) : State := { s with au := s.au.upd m f }

/-! ### Tables of records -/

def State.quote (s : State) (i : Fin 1024) : Quote := tget s.quotes i

def State.updQuote (s : State) (i : Fin 1024) (f : Quote → Quote) : State := { s with quotes := tupd s.quotes i f }

/-- The record at an index, when the index is 0 to 1023. -/
def State.quoteAt (s : State) (i : Nat) : Option Quote := if h : i < 1024 then some (s.quote ⟨i, h⟩) else none

/-- `f` applied to the record at an index, when the index is 0 to 1023. -/
def State.updQuoteAt (s : State) (i : Nat) (f : Quote → Quote) : State :=
  if h : i < 1024 then s.updQuote ⟨i, h⟩ f else s

def State.story (s : State) (i : Fin 256) : Story := tget s.ts.stories i

def State.storyAt (s : State) (i : Nat) : Option Story := if h : i < 256 then some (s.story ⟨i, h⟩) else none

def State.updStory (s : State) (i : Fin 256) (f : Story → Story) : State :=
  { s with ts := { s.ts with stories := tupd s.ts.stories i f } }

def State.face (s : State) (i : Fin 4) : Face := tget s.gs.faces i

def State.setFace (s : State) (i : Fin 4) (f : Face) : State :=
  { s with gs := { s.gs with faces := tset s.gs.faces i f } }

def State.lane (s : State) (n : Fin 4) : Lane := tget s.fli.lanes n

def State.updLane (s : State) (n : Fin 4) (f : Lane → Lane) : State :=
  { s with fli := { s.fli with lanes := tupd s.fli.lanes n f } }

def State.band (s : State) (b : Fin 4) : Band := tget s.bands b

def State.updBand (s : State) (b : Fin 4) (f : Band → Band) : State := { s with bands := tupd s.bands b f }

def State.lists (s : State) (b : Fin 4) : RunLists := tget s.rls b

def State.updLists (s : State) (b : Fin 4) (f : RunLists → RunLists) : State := { s with rls := tupd s.rls b f }

def State.vis (s : State) (b : Fin 4) : Visibility := tget s.cmp.vis b

def State.setVis (s : State) (b : Fin 4) (v : Visibility) : State :=
  { s with cmp := { s.cmp with vis := tset s.cmp.vis b v } }

def State.pin (s : State) (n : Fin 4) : Pin := tget s.pins n

/-- The next free value is read. -/
def State.bumpFree (s : State) : State := { s with freeIndex := s.freeIndex + 1 }

/-! ### Operands as table indices -/

/-- A number as a band, face or pin: 0 to 3. -/
def four (n : Nat) : Option (Fin 4) := if h : n < 4 then some ⟨n, h⟩ else none

/-- A lane number 1 to 4 as an entry of the table of lanes. -/
def laneOf (n : Nat) : Option (Fin 4) := if n = 0 then none else four (n - 1)

/-- The number 1 to 4 of a lane. -/
def laneNumber (n : Fin 4) : Nat := n.val + 1

/-! ### Banks -/

/-- R86: the on-air bank. -/
def RunLists.onAir (r : RunLists) : List Item := if r.onAirB then r.bankB else r.bankA

/-- R86: the shadow bank. -/
def RunLists.shadow (r : RunLists) : List Item := if r.onAirB then r.bankA else r.bankB

/-- R86: edits and copies write only the shadow bank. -/
def RunLists.setShadow (r : RunLists) (l : List Item) : RunLists :=
  if r.onAirB then { r with bankA := l } else { r with bankB := l }

/-- R95: the five effects of a swap. -/
def swapBanks (b : Fin 4) (s : State) : State :=
  ((s.updLists b (fun r => { r with onAirB := !r.onAirB, commit := none })).updBand b
    (fun d => { d with cursor := 0, saved := d.saved.map (fun _ => 0) })).raise .bankSwapped (.band b)

/-- A swap, when a pending-commit record of a mode accepted by `p` is held. -/
def swapIf (p : CommitMode → Bool) (b : Fin 4) (s : State) : State :=
  if (s.lists b).commit.any p then swapBanks b s else s

/-! ### On-screen counts -/

/-- R8: a RETIRING record whose count is 0 becomes FREE with its generation kept. -/
def Quote.freeIfGone (q : Quote) : Quote := if q.state = .retiring ∧ q.count = 0 then Quote.free q.gen else q

/-- R10: the table counts one instance less. -/
def Quote.dropInstance (q : Quote) : Quote := Quote.freeIfGone { q with count := q.count - 1 }

/-- The number placed in an ascending list of numbers (R67). -/
def insertBlock (n : Nat) : List Nat → List Nat
  | [] => [n]
  | m :: t => if n ≤ m then n :: m :: t else m :: insertBlock n t

/-- R72: a DELETING story whose count is 0 becomes FREE, and its blocks return to the free set. -/
def freeStoryIfGone (i : Fin 256) (s : State) : State :=
  let st := s.story i
  if st.state = .deleting ∧ st.count = 0 then
    let s' := s.updStory i (fun st => Story.free st.gen)
    { s' with ts := { s'.ts with freeBlocks := st.blocks.foldr insertBlock s'.ts.freeBlocks } }
  else s

/-- R72: the store counts one instance less. -/
def dropStory (i : Nat) (s : State) : State :=
  if h : i < 256 then
    freeStoryIfGone ⟨i, h⟩ (s.updStory ⟨i, h⟩ (fun st => { st with count := st.count - 1 }))
  else s

/-- R10, R72: the removal of an instance is reported to the quote table or the text store. -/
def reportRemoval (i : Inst) (s : State) : State :=
  match i.kind with
  | .quote r => s.updQuoteAt r.index Quote.dropInstance
  | .story r => dropStory r.index s
  | .glyph _ => s
  | .spacer => s

/-- Several removals, in window order. -/
def reportRemovals : List Inst → State → State
  | [], s => s
  | i :: t, s => reportRemovals t (reportRemoval i s)

/-- R10, R72: the creation of an instance is reported to the quote table or the text store. -/
def reportCreation (i : Inst) (s : State) : State :=
  match i.kind with
  | .quote r => s.updQuoteAt r.index (fun q => { q with count := q.count + 1 })
  | .story r => if h : r.index < 256 then s.updStory ⟨r.index, h⟩ (fun st => { st with count := st.count + 1 }) else s
  | .glyph _ => s
  | .spacer => s

/-- R118: an instance joins the end of a band's window, and its creation is reported. -/
def addInstance (b : Fin 4) (i : Inst) (s : State) : State :=
  reportCreation i (s.updBand b (fun d => { d with window := d.window ++ [i] }))

/-- The first `n` instances leave the window of a band, each removal reported. -/
def removeFront (b : Fin 4) (n : Nat) (s : State) : State :=
  reportRemovals ((s.band b).window.take n) (s.updBand b (fun d => { d with window := d.window.drop n }))

/-! ### Program states -/

/-- R107: a change of program state raises BAND STATE with the band as source. -/
def changeProg (b : Fin 4) (p : Prog) (s : State) : State :=
  (s.updBand b (fun d => { d with prog := p })).raise .bandState (.band b)

/-- R96, R139, R161: a band enters READY: the page state takes its READY values, the visibility is HIDDEN with step 0,
BAND STATE is raised, and a pending-commit record is then carried out whatever its mode. -/
def enterReady (b : Fin 4) (s : State) : State :=
  swapIf (fun _ => true) b
    (changeProg b .ready ((s.updBand b (fun d => { d with page := Page.initial })).setVis b Visibility.off))

/-- R129: the saved context is restored: the cursor is set to the saved cursor and the context becomes absent. -/
def Band.restoreContext (d : Band) : Band := { d with cursor := d.saved.getD d.cursor, saved := none }

end Sys2Proof.Machine
end

