-- ==== Sys2Proof/Machine/Flags.lean ====
section
/-! DEFINITION. The conditions and indications that the blocks derive from the state: resolution of references, drawing
states, motion, effective target, use of faces, clean request, tally, attention lines and driven pins. -/

namespace Sys2Proof.Machine

/-- R3: a quote reference resolves. A reference kept through a device reset is judged by this test as any other, against the words of
R24: the model's choice (log entry 35). -/
def State.resolvesQuote (s : State) (r : Ref) : Bool :=
  match s.quoteAt r.index with
  | some q => decide (q.state = .live) && decide (q.gen = r.gen) && decide (r.gen ≠ 0)
  | none => false

/-- R68: a story reference resolves. R83 says that a reference kept through a device reset stays failing after stories are loaded
again; by this test one whose generation the record reaches again resolves: the model's choice (log entry 35). -/
def State.resolvesStory (s : State) (r : Ref) : Bool :=
  match s.storyAt r.index with
  | some st => decide (st.state = .loaded) && decide (st.gen = r.gen) && decide (r.gen ≠ 0)
  | none => false

/-- R117: an item is admissible. -/
def State.admissible (s : State) : ItemKind → Bool
  | .quote r => s.resolvesQuote r
  | .story r => s.resolvesStory r
  | .glyph _ => true
  | .spacer _ => true

/-- R101: the drawing states are all but OFF and READY. -/
def Prog.drawing : Prog → Bool
  | .off => false
  | .ready => false
  | .running => true
  | .draining => true
  | .clearing => true
  | .breaking => true

/-- The presentation a band is configured with. -/
def Band.presentation (d : Band) : Option Presentation := d.config.map BandConfig.presentation

/-- The band is in a CRAWL drawing state. -/
def Band.crawling (d : Band) : Bool := d.prog.drawing && decide (d.presentation = some .crawl)

/-- The band is in a FLIP drawing state. -/
def Band.flipping (d : Band) : Bool := d.prog.drawing && decide (d.presentation = some .flip)

/-- R113: the effective target of a CRAWL band with this configuration. -/
def Band.effectiveTarget (d : Band) (c : BandConfig) : Nat :=
  if d.halted then 0 else if d.prog = .clearing then c.clearSpeed else c.speedTarget

/-- R113: the speed moved one step of at most `accel` toward a target. -/
def rampToward (target accel speed : Nat) : Nat :=
  if speed < target then min target (speed + accel) else max target (speed - accel)

/-- R111: the motion, in the codes of the panel status block: MOVING 0, STOPPING 1, STOPPED 2. -/
def Band.motionCode (d : Band) : Nat := if d.halted then (if d.speed > 0 then 1 else 2) else 0

/-- R75: the face is in drawing use. -/
def State.drawingUse (s : State) (f : Fin 4) : Bool :=
  (tlist s.bands).any (fun d => d.prog.drawing && decide (d.config.map BandConfig.face = some f))

/-- R75: the face is in configured use. -/
def State.configuredUse (s : State) (f : Fin 4) : Bool :=
  (tlist s.bands).any (fun d => decide (d.prog ≠ .off) && decide (d.config.map BandConfig.face = some f))

/-- R159: clean is requested. -/
def State.cleanRequested (s : State) : Bool := s.cleanPin || s.cmp.edFlag || s.cmp.panelFlag

/-- The step of a fully shown band with fade frames `f` (R160: 1 when F is 0). -/
def fullStep (f : Nat) : Nat := max 1 f

/-- R163: a band's tally. -/
def State.tally (s : State) (b : Fin 4) : Bool :=
  (s.band b).prog.drawing && decide ((s.vis b).state ≠ .hidden)

/-- R188: a master's attention line. -/
def State.attention (s : State) (m : Master) : Bool := (s.au.get m).attention

/-- R164: the level that a function select names. -/
def State.selected (s : State) : PinSelect → Bool
  | .attentionFeed => s.attention .feed
  | .attentionEditorial => s.attention .editorial
  | .attentionPanel => s.attention .panel
  | .tally b => s.tally b
  | .cleanAck => s.cmp.ack

/-- R164: the level that an output pin drives. -/
def State.driven (s : State) (n : Fin 4) : Bool :=
  if (s.pin n).function then s.selected (s.pin n).select else (s.pin n).level

/-- R6, R19: the lane is SILENT and not held. -/
def Lane.quiet (l : Lane) : Bool := !l.active && !l.held

/-- The raster width in pixels (R102). -/
def State.width (s : State) : Nat := if s.straps.lines2160 then 3840 else 1920

/-- The raster height in lines (R151, R155). -/
def State.lines (s : State) : Nat := if s.straps.lines2160 then 2160 else 1080

/-- R116: the right edge of the band, in scroll units. -/
def State.limit (s : State) : Nat := s.width * 256

/-- R151: the nominal period, in microseconds (R183). -/
def State.periodMicros (s : State) : Nat := if s.straps.rate5994 then 16683 else 20000

/-- R151: the nominal period, in nanoseconds. -/
def State.period (s : State) : Nat := s.periodMicros * 1000

/-- The codes of the panel status block for the program state (R184). -/
def Prog.code : Prog → Nat
  | .off => 0
  | .ready => 1
  | .running => 2
  | .draining => 3
  | .clearing => 4
  | .breaking => 5

/-- The codes of the panel status block for the visibility state (R184). -/
def VisState.code : VisState → Nat
  | .shown => 0
  | .fadingOut => 1
  | .hidden => 2
  | .fadingIn => 3

/-- The codes of the panel status block for the lock state (R184). -/
def LockState.code : LockState → Nat
  | .seeking => 0
  | .locked => 1
  | .freeRun => 2

/-- The code of an event source (R183). -/
def EventSource.code : EventSource → Nat
  | .none => 0
  | .lane n => laneNumber n
  | .band b => 16 + b.val
  | .master .feed => 32
  | .master .editorial => 33
  | .master .panel => 34

/-- The code of a result (R183). -/
def Result.code : Result → Nat
  | .good => 0
  | .pending => 1
  | .busy => 2
  | .badParam => 3
  | .notFound => 4
  | .full => 5
  | .exists_ => 6
  | .wrongMode => 7
  | .lengthError => 8
  | .phaseError => 9
  | .notReady => 10

/-- The two bytes of a pending-kinds field: bit k is set when kind k has a pair in the list (R182, R184). -/
def kindBits (l : List Event) : Nat :=
  ((List.range 16).map (fun k => if l.any (fun e => e.kind.number.val == k) then 2 ^ k else 0)).sum

/-- Bits 0 to 3 lanes 1 to 4 ACTIVE, bits 4 to 7 lanes 1 to 4 held (R182, R184). -/
def State.laneBits (s : State) : Nat :=
  ((List.finRange 4).map (fun n => bit (s.lane n).active * 2 ^ n.val + bit (s.lane n).held * 2 ^ (n.val + 4))).sum

end Sys2Proof.Machine
end

