-- ==== Sys2Proof/Machine/Operands.lean ====
section
/-! DEFINITION. The operand forms: the layouts of R182 and R183 read from bytes and written to bytes, the coded fields,
and the command block. -/

namespace Sys2Proof.Machine

/-! ### Coded fields -/

/-- The kinds of editorial frames (R169). -/
inductive FrameKind where
  | command
  | dataOut
  | dataIn
  | status
  | linkReset
  deriving DecidableEq, Repr

/-- R183: the code of a frame kind. -/
def FrameKind.code : FrameKind → Byte
  | .command => 0x01
  | .dataOut => 0x02
  | .dataIn => 0x03
  | .status => 0x04
  | .linkReset => 0x0F

/-- R169, R183: the frame kind of a kind byte, or none for a byte that is none of the five. -/
def frameKindOf (b : Byte) : Option FrameKind :=
  [FrameKind.command, .dataOut, .dataIn, .status, .linkReset].find? (fun k => k.code == b)

/-- R185: the source codes of SET SOURCE. -/
def sourceOf : Nat → Option Source
  | 0 => some .live
  | 1 => some .frozen
  | 2 => some .overridden
  | _ => none

def Source.code : Source → Nat
  | .live => 0
  | .frozen => 1
  | .overridden => 2

/-- R185: the mode codes of COMMIT. -/
def commitModeOf : Nat → Option CommitMode
  | 0 => some .immediate
  | 1 => some .loopEnd
  | _ => none

/-- R185: the urgency codes of BREAK. -/
def urgencyOf : Nat → Option Urgency
  | 0 => some .next
  | 1 => some .now
  | _ => none

/-- R185: the master codes of SET LEVELS. -/
def masterOf : Nat → Option Master
  | 0 => some .feed
  | 1 => some .editorial
  | 2 => some .panel
  | _ => none

/-- R185: the function select codes of SET PIN. -/
def pinSelectOf : Nat → Option PinSelect
  | 0 => some .attentionFeed
  | 1 => some .attentionEditorial
  | 2 => some .attentionPanel
  | 4 => some (.tally 0)
  | 5 => some (.tally 1)
  | 6 => some (.tally 2)
  | 7 => some (.tally 3)
  | 8 => some .cleanAck
  | _ => none

def PinSelect.code : PinSelect → Nat
  | .attentionFeed => 0
  | .attentionEditorial => 1
  | .attentionPanel => 2
  | .tally b => 4 + b.val
  | .cleanAck => 8

/-- A code that is 0 or 1. -/
def yesNoOf : Nat → Option Bool
  | 0 => some false
  | 1 => some true
  | _ => none

/-! ### Feed link -/

/-- R182: an update record. -/
def updateOf (bs : List Byte) : Update :=
  { kind := byteAt bs 0, scale := (byteAt bs 1).toNat, index := field bs 2 2, gen := field bs 4 2,
    mantissa := intOf (slice bs 6 4) }

/-- The records of 12 bytes that a packet's record bytes hold. -/
def recordsOf : Nat → List Byte → List (List Byte)
  | 0, _ => []
  | n + 1, bs => bs.take 12 :: recordsOf n (bs.drop 12)

/-! ### Run-list items -/

/-- R183, R85, R88 check 3: an item entry of 9 bytes, or none when a field is out of range or not carried by the kind. -/
def itemOf (bs : List Byte) : Option Item :=
  let flags := byteAt bs 1
  let hasGap := bitAt flags 0
  let hasColour := bitAt flags 1
  let a := field bs 2 2
  let g := field bs 4 2
  let gap := if hasGap then some (field bs 6 2) else none
  let colour := if hasColour then some (byteAt bs 8).toNat else none
  let kind : Option ItemKind :=
    match (byteAt bs 0).toNat with
    | 1 => if a ≤ 1023 ∧ 1 ≤ g then some (.quote ⟨a, g⟩) else none
    | 2 => if a ≤ 255 ∧ 1 ≤ g then some (.story ⟨a, g⟩) else none
    | 3 => if g = 0 then some (.glyph a) else none
    | 4 => if g = 0 ∧ 1 ≤ a ∧ a ≤ 4096 then some (.spacer a) else none
    | _ => none
  match kind with
  | none => none
  | some k =>
    let isStory := match k with
      | .story _ => true
      | _ => false
    if gap.all (fun v => decide (v ≤ 1024)) && colour.all (fun v => decide (v ≤ 9)) && (isStory || !hasColour) then
      some ⟨k, gap, colour⟩
    else none

/-- R183: the 9 bytes of an item entry. -/
def itemBytes (i : Item) : List Byte :=
  let flags := bit i.gap.isSome + 2 * bit i.colour.isSome
  let k := match i.kind with
    | .quote r => (1, r.index, r.gen)
    | .story r => (2, r.index, r.gen)
    | .glyph c => (3, c, 0)
    | .spacer w => (4, w, 0)
  byteOf k.1 :: byteOf flags :: (bytesOf 2 k.2.1 ++ bytesOf 2 k.2.2 ++ bytesOf 2 (i.gap.getD 0) ++ [byteOf (i.colour.getD 0)])

/-- The entries of `k` bytes that the data of a command holds. -/
def entriesOf (k : Nat) : Nat → List Byte → List (List Byte)
  | 0, _ => []
  | n + 1, bs => bs.take k :: entriesOf k n (bs.drop k)

/-! ### Glyph entries -/

/-- R183: the code that a glyph entry names. -/
def entryCode (bs : List Byte) : Nat := field bs 0 2

/-- R183: the glyph record that a glyph entry gives. -/
def entryGlyph (bs : List Byte) : Glyph :=
  { present := true, advance := (byteAt bs 2).toNat, bearingX := intOf (slice bs 3 1), bearingY := intOf (slice bs 4 1),
    width := (byteAt bs 5).toNat, height := (byteAt bs 6).toNat, offset := field bs 7 4 }

/-- R183: a glyph report. -/
def glyphBytes (code : Nat) (g : Glyph) : List Byte :=
  bytesOf 2 code ++ [byteOf g.advance] ++ bytesOfInt 1 g.bearingX ++ bytesOfInt 1 g.bearingY ++
    [byteOf g.width, byteOf g.height] ++ bytesOf 4 g.offset ++ [byteOf (bit g.present)]

/-! ### Configuration records -/

/-- The low 10 bits of a 2-byte field (R183). -/
def tenBits (bs : List Byte) (i : Nat) : Nat := field bs i 2 % 1024

/-- R183: a palette entry from its six bytes. -/
def rgbOf (bs : List Byte) (i : Nat) : Rgb := ⟨tenBits bs i, tenBits bs (i + 2), tenBits bs (i + 4)⟩

/-- R183: a configuration record of 96 bytes. -/
def configOf (bs : List Byte) : ConfigRecord where
  presentation := field bs 0 1
  yOrigin := field bs 1 2
  height := field bs 3 2
  face := field bs 5 1
  baseline := field bs 6 2
  palette := ⟨#[rgbOf bs 8, rgbOf bs 14, rgbOf bs 20, rgbOf bs 26, rgbOf bs 32, rgbOf bs 38, rgbOf bs 44, rgbOf bs 50,
    rgbOf bs 56, rgbOf bs 62], rfl⟩
  backKey := tenBits bs 68
  gap := field bs 70 2
  quantum := field bs 72 1
  speed := field bs 73 2
  accel := field bs 75 2
  clearSpeed := field bs 77 2
  fade := field bs 79 1
  changeStyle := field bs 80 1
  smooth := field bs 81 1
  flipHold := field bs 82 2
  flipTransition := field bs 84 1
  rollFrames := field bs 85 1
  arrowUp := field bs 86 2
  arrowDown := field bs 88 2
  arrowSame := field bs 90 2
  arrowHalt := field bs 92 2

def presentationOf : Nat → Option Presentation
  | 0 => some .crawl
  | 1 => some .flip
  | _ => none

def Presentation.code : Presentation → Nat
  | .crawl => 0
  | .flip => 1

def changeStyleOf : Nat → Option ChangeStyle
  | 0 => some .abs
  | 1 => some .pct
  | 2 => some .both
  | _ => none

def ChangeStyle.code : ChangeStyle → Nat
  | .abs => 0
  | .pct => 1
  | .both => 2

def transitionOf : Nat → Option Transition
  | 0 => some .cut
  | 1 => some .roll
  | _ => none

def Transition.code : Transition → Nat
  | .cut => 0
  | .roll => 1

/-- R102: the tests of the rows marked BAD PARAM, each with its row number (R103). `faceLoaded` tells whether the face of
the record is LOADED. -/
def configTests (lines : Nat) (faceLoaded : Bool) (c : ConfigRecord) : List (Nat × Bool) :=
  [(1, (presentationOf c.presentation).isSome),
   (2, decide (c.yOrigin + c.height ≤ lines)),
   (3, decide (16 ≤ c.height) && decide (c.height ≤ 256)),
   (4, faceLoaded),
   (5, decide (c.baseline < c.height)),
   (13, (changeStyleOf c.changeStyle).isSome),
   (14, (yesNoOf c.smooth).isSome),
   (15, decide (1 ≤ c.flipHold)),
   (16, (transitionOf c.flipTransition).isSome),
   (17, decide (1 ≤ c.rollFrames) && decide (c.rollFrames ≤ 64))]

/-- R103: the number of the row of R102 that holds the first failing field. -/
def firstBadRow (lines : Nat) (faceLoaded : Bool) (c : ConfigRecord) : Option Nat :=
  ((configTests lines faceLoaded c).find? (fun t => !t.2)).map Prod.fst

/-- R102: the configuration stored for a record whose coded fields are in range, with the clamped fields clamped. -/
def storedConfig (c : ConfigRecord) : Option BandConfig :=
  match presentationOf c.presentation, four c.face, changeStyleOf c.changeStyle, yesNoOf c.smooth,
      transitionOf c.flipTransition with
  | some p, some f, some st, some sm, some tr =>
    some
      { presentation := p, yOrigin := c.yOrigin, height := c.height, face := f, baseline := c.baseline,
        palette := c.palette, backKey := c.backKey, gap := min 1024 c.gap,
        quantum := if c.quantum = 0 then 16 else min 64 c.quantum,
        speedTarget := min Config.speedMax c.speed,
        accel := if c.accel = 0 then 1 else min Config.speedMax c.accel,
        clearSpeed := min Config.speedMax c.clearSpeed, fade := min 64 c.fade, changeStyle := st, smooth := sm,
        flipHold := c.flipHold, flipTransition := tr, rollFrames := c.rollFrames, arrowUp := c.arrowUp,
        arrowDown := c.arrowDown, arrowSame := c.arrowSame, arrowHalt := c.arrowHalt }
  | _, _, _, _, _ => none

def rgbBytes (c : Rgb) : List Byte := bytesOf 2 c.r ++ bytesOf 2 c.g ++ bytesOf 2 c.b

/-- R183: the 96 bytes of a stored configuration record. -/
def configBytes (c : BandConfig) : List Byte :=
  [byteOf c.presentation.code] ++ bytesOf 2 c.yOrigin ++ bytesOf 2 c.height ++ [byteOf c.face.val] ++
    bytesOf 2 c.baseline ++ (tlist c.palette).flatMap rgbBytes ++ bytesOf 2 c.backKey ++ bytesOf 2 c.gap ++
    [byteOf c.quantum] ++ bytesOf 2 c.speedTarget ++ bytesOf 2 c.accel ++ bytesOf 2 c.clearSpeed ++ [byteOf c.fade] ++
    [byteOf c.changeStyle.code, byteOf (bit c.smooth)] ++ bytesOf 2 c.flipHold ++
    [byteOf c.flipTransition.code, byteOf c.rollFrames] ++ bytesOf 2 c.arrowUp ++ bytesOf 2 c.arrowDown ++
    bytesOf 2 c.arrowSame ++ bytesOf 2 c.arrowHalt ++ [0, 0]

/-! ### The command block -/

/-- R185: the sixteen levels of SET LEVELS, two kinds a byte, the even kind in bits 4 to 7. -/
def levelsOf : List Byte → List Nat
  | [] => []
  | b :: t => b.toNat / 16 :: b.toNat % 16 :: levelsOf t

/-- R185: the command that a code, a target, the flags and the 14 parameter bytes spell, when the code is one of the
catalogue. -/
def commandOf (code target : Nat) (flags : Byte) (p : List Byte) : Option EdCommand :=
  let n := fun i k => field p i k
  let ref := fun i : Nat => (⟨n i 2, n (i + 2) 2⟩ : Ref)
  match code with
  | 0x10 => some (.defineQuote ⟨target, flags.toNat % 16, slice p 0 8, n 8 1, n 9 1,
      if bitAt flags 7 then some (intOf (slice p 10 4)) else none⟩)
  | 0x11 => some (.retireQuote (ref 0))
  | 0x12 => some (.setSource (ref 0) (n 4 1))
  | 0x13 => some (.setReference (ref 0) (bitAt flags 0) (n 4 1) (intOf (slice p 5 4)))
  | 0x14 => some (.setFlash (n 0 1))
  | 0x15 => some (.readQuotes (n 0 2) (n 2 2) (n 4 1))
  | 0x20 => some (.laneHold target)
  | 0x21 => some (.laneRelease target)
  | 0x22 => some (.laneFlush target)
  | 0x23 => some .linkRelease
  | 0x24 => some (.setSilenceLimit target (n 0 2))
  | 0x25 => some .readLanes
  | 0x30 => some .loadStory
  | 0x31 => some (.deleteStory ⟨n 0 1, n 1 2⟩)
  | 0x32 => some (.readStories (n 0 1) (n 1 2))
  | 0x38 => some (.loadFace ⟨target, n 0 2, n 2 2, n 4 2, n 6 2⟩)
  | 0x39 => some (.unloadFace target)
  | 0x3A => some (.loadImages (n 0 4))
  | 0x3B => some (.readFace target (n 0 2) (n 2 2))
  | 0x40 => some (.edit target (n 0 1) (n 1 2) (n 3 2))
  | 0x41 => some (.copyBank target)
  | 0x42 => some (.request target (.commit (n 0 1)))
  | 0x43 => some (.readRunList target (n 0 1) (n 1 1) (n 2 2) (n 4 1))
  | 0x50 => some (.request target .configure)
  | 0x51 => some (.request target .release)
  | 0x52 => some (.request target (.takeOn (bitAt flags 0)))
  | 0x53 => some (.request target (.takeOff (n 0 1)))
  | 0x54 => some (.request target .halt)
  | 0x55 => some (.request target .resume)
  | 0x56 => some (.request target (.setSpeed (n 0 2)))
  | 0x57 => some (.request target (.brk ⟨n 0 1, n 1 2⟩ (n 3 1) (n 4 1)))
  | 0x58 => some (.request target .breakClear)
  | 0x59 => some (.readBand target)
  | 0x5A => some (.readWindow target)
  | 0x60 => some (.softClean (n 0 1))
  | 0x61 => some (.setPin target (n 0 1) (n 1 1) (n 2 1))
  | 0x62 => some .readOutput
  | 0x70 => some (.setLevels target (levelsOf (slice p 0 8)))
  | 0x71 => some (.setThreshold (n 0 1))
  | 0x72 => some .readEvents
  | 0x7F => some .deviceReset
  | _ => none

/-- R183: tag and data length of a command block of 24 bytes. -/
def headerOf (bs : List Byte) : EdHeader := ⟨byteAt bs 1, field bs 5 4⟩

/-- R170 checks 1 to 3: the command of a block whose signature is 4Dh, whose last byte is 0 and whose code is one of the
catalogue. -/
def blockCommand (bs : List Byte) : Option EdCommand :=
  if byteAt bs 0 = 0x4D ∧ byteAt bs 23 = 0 then
    commandOf (byteAt bs 2).toNat (byteAt bs 3).toNat (byteAt bs 4) (slice bs 9 14)
  else none

/-- How a command uses its data length (R170 checks 4 and 5). -/
inductive DataUse where
  /-- The command carries no data. -/
  | none
  /-- The command carries data to the device; its owner judges the length. -/
  | out
  /-- A read of this length, whose parameters are in range. -/
  | read (length : Nat)
  /-- A read whose parameters are out of range. -/
  | badRead
  deriving DecidableEq, Repr

/-- R23, R99, R185: the direction codes. -/
def directionOk (d : Nat) : Bool := decide (d ≤ 2)

/-- R183: the length of each read, when its parameters are in range by the owner's rule (R23, R64, R73, R79, R99, R123,
R124, R166, R190). -/
def dataUse : EdCommand → DataUse
  | .setSource _ _ => .out
  | .loadStory => .out
  | .loadFace _ => .out
  | .loadImages _ => .out
  | .edit _ _ _ _ => .out
  | .request _ .configure => .out
  | .readQuotes start count d =>
    if start ≤ 1023 ∧ 1 ≤ count ∧ count ≤ 1024 ∧ directionOk d then .read (32 * count) else .badRead
  | .readLanes => .read 39
  | .readStories start count => if start ≤ 255 ∧ 1 ≤ count ∧ count ≤ 256 then .read (9 * count + 4) else .badRead
  | .readFace face start count =>
    if face ≤ 3 ∧ start ≤ 1023 ∧ 1 ≤ count ∧ count ≤ 1024 then .read (10 + 12 * count) else .badRead
  | .readRunList band bank start count d =>
    if band ≤ 3 ∧ bank ≤ 1 ∧ start ≤ 255 ∧ 1 ≤ count ∧ count ≤ 256 ∧ directionOk d then .read (6 + 11 * count)
    else .badRead
  | .readBand band => if band ≤ 3 then .read 119 else .badRead
  | .readWindow band => if band ≤ 3 then .read (1 + 64 * 25) else .badRead
  | .readOutput => .read 36
  | .readEvents => .read 129
  | .defineQuote _ => .none
  | .retireQuote _ => .none
  | .setReference _ _ _ _ => .none
  | .setFlash _ => .none
  | .laneHold _ => .none
  | .laneRelease _ => .none
  | .laneFlush _ => .none
  | .linkRelease => .none
  | .setSilenceLimit _ _ => .none
  | .deleteStory _ => .none
  | .unloadFace _ => .none
  | .copyBank _ => .none
  | .request _ _ => .none
  | .softClean _ => .none
  | .setPin _ _ _ _ => .none
  | .setLevels _ _ => .none
  | .setThreshold _ => .none
  | .deviceReset => .none

/-- R170 checks 4 and 5. -/
def lengthOk (c : EdCommand) (dataLength : Nat) : Bool :=
  match dataUse c with
  | .none => decide (dataLength = 0)
  | .out => true
  | .read n => decide (dataLength = n)
  | .badRead => false

end Sys2Proof.Machine
end

