-- ==== Sys2Proof/Machine/Quotes.lean ====
section
/-! DEFINITION. The quote table: definition, retirement, source and reference commands, and the frame-start latch
(chapter 1). -/

namespace Sys2Proof.Machine

/-- The outcome of a command's command phase (R170): an answer, a data phase towards the device, a read, or a band
request that joined its queue. -/
inductive Reply where
  | answer (r : Result) (values : List Byte)
  | receive
  | send
  | wait
  deriving DecidableEq, Repr

/-- R173: returned values of zero. -/
def noValues : List Byte := [0, 0, 0, 0, 0]

/-- R183: an index or id in bytes 7 and 8, a generation in bytes 9 and 10. -/
def refValues (i g : Nat) : List Byte := bytesOf 2 i ++ bytesOf 2 g ++ [0]

/-- R183: a number in bytes 7 and 8. -/
def numberValues (n : Nat) : List Byte := bytesOf 2 n ++ [0, 0, 0]

def badParam : Reply := .answer .badParam noValues
def good : Reply := .answer .good noValues

/-- The lowest index whose record satisfies `p`. -/
def State.findQuote (s : State) (p : Quote → Bool) : Option (Fin 1024) :=
  (List.finRange 1024).find? (fun i => p (s.quote i))

/-- R5: the first check of DEFINE QUOTE. -/
def DefineValid (a : DefineArgs) : Bool :=
  decide (1 ≤ a.symLen) && decide (a.symLen ≤ 8) && (laneOf a.lane).isSome && decide (a.scale ≤ 6) &&
    decide (a.decimals ≤ a.scale) && a.reference.all inRange

/-- R6: the record that a definition makes of a FREE record. -/
def definedQuote (q : Quote) (a : DefineArgs) (lane : Fin 4) (quiet : Bool) : Quote :=
  { Quote.free (nextGen q.gen) with
    state := .live, symbol := some (a.symbol.take a.symLen), lane := some lane, scale := a.scale,
    decimals := a.decimals, pendRef := a.reference, dispRef := a.reference, stale := quiet }

/-- R4: the LIVE record that holds a symbol. -/
def holdsSymbol (sym : List Byte) (q : Quote) : Bool := decide (q.state = .live) && decide (q.symbol = some sym)

/-- R5, R6: DEFINE QUOTE. -/
def defineQuote (a : DefineArgs) (s : State) : Reply × State :=
  match laneOf a.lane with
  | none => (badParam, s)
  | some lane =>
    if !DefineValid a then (badParam, s)
    else
      match s.findQuote (holdsSymbol (a.symbol.take a.symLen)) with
      | some i => (.answer .exists_ (refValues i.val (s.quote i).gen), s)
      | none =>
        match s.findQuote (fun q => decide (q.state = .free)) with
        | none => (.answer .full noValues, s)
        | some i =>
          (.answer .good (refValues i.val (nextGen (s.quote i).gen)),
            s.updQuote i (fun q => definedQuote q a lane (s.lane lane).quiet))

/-- R7: what a retirement makes of the record. -/
def retiredQuote (q : Quote) : Quote :=
  if q.count = 0 then Quote.free (nextGen q.gen)
  else
    { q with
      state := .retiring, gen := nextGen q.gen, pendSource := .live, pendText := none, pendLast := none,
      pendRef := none, pendHalted := false, dirty := false }

/-- R7: RETIRE QUOTE. -/
def retireQuote (r : Ref) (s : State) : Reply × State :=
  if s.resolvesQuote r then
    (.answer .good (refValues r.index (nextGen r.gen)), s.updQuoteAt r.index retiredQuote)
  else (.answer .notFound noValues, s)

/-- R11 check 4 and effect: the pending source and override text are set. -/
def applySource (r : Ref) (src : Source) (text : List Byte) (s : State) : Result × State :=
  if s.resolvesQuote r then
    (.good, s.updQuoteAt r.index (fun q =>
      { q with pendSource := src, pendText := if src = .overridden then some text else none }))
  else (.notFound, s)

/-- R11: SET SOURCE at its command phase. -/
def setSource (r : Ref) (code dataLength : Nat) (s : State) : Reply × State :=
  match sourceOf code with
  | none => (badParam, s)
  | some src =>
    if src = .overridden ∧ (dataLength < 1 ∨ 16 < dataLength) then (badParam, s)
    else if src ≠ .overridden ∧ dataLength ≠ 0 then (badParam, s)
    else if dataLength = 0 then
      let t := applySource r src [] s
      (.answer t.1 noValues, t.2)
    else (.receive, s)

/-- R12: SET REFERENCE. -/
def setReference (r : Ref) (remove : Bool) (u : Nat) (m : Int) (s : State) : Reply × State :=
  if !remove && decide (u > 6) then (badParam, s)
  else if !s.resolvesQuote r then (.answer .notFound noValues, s)
  else
    match s.quoteAt r.index with
    | none => (.answer .notFound noValues, s)
    | some q =>
      if remove then (good, s.updQuoteAt r.index (fun q => { q with pendRef := none, dirty := true }))
      else
        match normalise u q.scale m with
        | none => (badParam, s)
        | some v => (good, s.updQuoteAt r.index (fun q => { q with pendRef := some v, dirty := true }))

/-- R18: SET FLASH. -/
def setFlash (v : Nat) (s : State) : Reply × State := (good, { s with flashSetting := v })

/-- R17: the flash countdown of one record. -/
def countdown (q : Quote) : Quote :=
  if q.flash = 0 then q
  else { q with flash := q.flash - 1, tick := if q.flash = 1 then .none else q.tick }

/-- R15: tick and flash remaining after a copy, from the old and the new displayed last. -/
def tickAfter (setting : Nat) (old new : Option Int) (t : Tick × Nat) : Tick × Nat :=
  let lit := fun k : Tick => if setting = 0 then (Tick.none, 0) else (k, setting)
  match old, new with
  | _, none => (.none, 0)
  | some o, some n => if n > o then lit .up else if n < o then lit .down else t
  | none, some _ => t

/-- R14: the copy is made. -/
def Quote.copies (q : Quote) : Bool := decide (q.pendSource = .live) && (q.dirty || decide (q.dispSource ≠ .live))

/-- R14, R15, R30: the copy of a latch. -/
def copyQuote (setting : Nat) (q : Quote) : Quote :=
  let ch := changeOf q.pendLast q.pendRef
  let t := tickAfter setting q.dispLast q.pendLast (q.tick, q.flash)
  { q with
    dispLast := q.pendLast, dispRef := q.pendRef, dispHalted := q.pendHalted, change := ch,
    percent := percentOf ch q.pendRef, netSign := signOf (shownChange q.scale q.decimals ch), tick := t.1,
    flash := t.2, dirty := false }

/-- R14, R16, R19: the latch of one record; `quiet` tells whether the record's lane is SILENT and not held. -/
def latchQuote (setting : Nat) (quiet : Bool) (q : Quote) : Quote :=
  if q.state = .live then
    let q' := if q.copies then copyQuote setting q else q
    { q' with dispSource := q.pendSource, dispText := q.pendText, stale := quiet }
  else q

/-- R19: the lane of a record is SILENT and not held. -/
def State.quietLane (s : State) (q : Quote) : Bool := (q.lane.map (fun n => (s.lane n).quiet)).getD false

/-- R14, R17: the frame-start action of the quote table on one record. -/
def frameStartQuote (s : State) (q : Quote) : Quote :=
  latchQuote s.flashSetting (s.quietLane q) (countdown q)

/-- R14, R17: the frame-start action of the quote table. -/
def quoteFrameStart (s : State) : State := { s with quotes := tmap (frameStartQuote s) s.quotes }

/-- R17: the countdown step at which one record's flash remaining reaches 0 (log entry 6). -/
def flashExpiry (q : Quote) : Quote := if q.flash = 1 then countdown q else q

end Sys2Proof.Machine
end

