-- ==== Sys2Proof/Machine/Feed.lean ====
section
/-! DEFINITION. The feed link interface, the intake queues and the update engine (chapter 3, R167, R168). -/

namespace Sys2Proof.Machine

/-! ### CRC and framing -/

/-- R167: one of the eight steps of the CRC register. -/
def crcShift (r : BitVec 16) : BitVec 16 := if r.getLsbD 15 then (r <<< 1) ^^^ 0x1021#16 else r <<< 1

/-- R167: one covered byte. -/
def crcByte (r : BitVec 16) (b : Byte) : BitVec 16 :=
  crcShift (crcShift (crcShift (crcShift (crcShift (crcShift (crcShift (crcShift (r ^^^ (b.setWidth 16 <<< 8)))))))))

/-- R167: the CRC over the covered bytes. -/
def crcOf (bs : List Byte) : BitVec 16 := bs.foldl crcByte 0xFFFF#16

/-- R167: a count field of 1 to 32. -/
def countOk (n : Nat) : Bool := decide (1 ≤ n) && decide (n ≤ 32)

/-- R167: the bytes after the delimiter make a whole packet. -/
def packetComplete (bs : List Byte) : Bool :=
  let n := (byteAt bs 1).toNat
  decide (2 ≤ bs.length) && (!countOk n || decide (bs.length = 4 + 12 * n))

/-! ### Lanes -/

/-- R51: a lane is heard from. -/
def hearLane (n : Fin 4) (s : State) : State :=
  if (s.lane n).active then s.updLane n (fun l => { l with counter := 0 })
  else (s.updLane n (fun l => { l with counter := 0, active := true })).raise .laneActive (.lane n)

/-- R52. -/
def holdLane (n : Fin 4) (s : State) : State := s.updLane n (fun l => { l with held := true })

/-- R52. -/
def releaseLane (n : Fin 4) (s : State) : State := s.updLane n (fun l => { l with held := false, counter := 0 })

/-- R45: LINK RELEASE ends LINK FAULT with the consecutive-bad count at 0; with no fault it changes nothing. -/
def releaseLink (s : State) : State :=
  if s.fli.fault then { s with fli := { s.fli with fault := false, bad := 0 } } else s

/-- R50: the frame-start count of one lane. -/
def countSilence (n : Fin 4) (s : State) : State :=
  let l := s.lane n
  if l.active && !l.held then
    if l.limit ≤ l.counter + 1 then
      (s.updLane n (fun l => { l with counter := l.counter + 1, active := false })).raise .laneSilent (.lane n)
    else s.updLane n (fun l => { l with counter := l.counter + 1 })
  else s

/-- R50: the frame-start action of the feed link interface. The order in which lanes that turn SILENT at one frame start
raise LANE SILENT is the model's choice, lanes 1 to 4 (log entry 29). -/
def feedFrameStart (s : State) : State := countSilence 3 (countSilence 2 (countSilence 1 (countSilence 0 s)))

/-- R50: the count at which one lane reaches its silence limit (log entry 6). -/
def silenceLane (n : Fin 4) (s : State) : State :=
  let l := s.lane n
  if l.active && !l.held && decide (l.limit ≤ l.counter + 1) then countSilence n s else s

/-! ### Verdicts and replies -/

/-- R168: an item waits on FEED TX. -/
def queueTx (items : List TxItem) (s : State) : State := { s with fli := { s.fli with tx := s.fli.tx ++ items } }

/-- R182: the reply codes. -/
def replyTaken : Byte := 0x01
def replyFull : Byte := 0x02
def replyHeld : Byte := 0x03
def replyBad : Byte := 0x04
def replyNotReady : Byte := 0x05

/-- R44: a BAD reply. -/
def badVerdict (s : State) : State :=
  queueTx [.reply replyBad]
    (if s.fli.fault then s
     else if 8 ≤ s.fli.bad + 1 then
       ({ s with fli := { s.fli with fault := true, bad := 0 } }).raise .linkFault .none
     else { s with fli := { s.fli with bad := s.fli.bad + 1 } })

/-- R44: a reply of any other kind sets the consecutive-bad count to 0. -/
def otherVerdict (items : List TxItem) (s : State) : State :=
  queueTx items { s with fli := { s.fli with bad := 0 } }

/-- R43: HELD or FULL, with FEED REFUSED for the lane. -/
def refusePacket (code : Byte) (n : Fin 4) (s : State) : State :=
  otherVerdict [.reply code] (s.raise .feedRefused (.lane n))

/-- R46: the whole packet joins the lane's intake queue, and the lane is heard from. -/
def takePacket (n : Fin 4) (us : List Update) (s : State) : State :=
  otherVerdict [.reply replyTaken] (hearLane n (s.updLane n (fun l => { l with queue := l.queue ++ us })))

/-! ### Lane 0 -/

def kindHeartbeat : Byte := 0x81
def kindStatusQuery : Byte := 0x82
def kindSetThreshold : Byte := 0x83

/-- R54: the checks of a lane-0 packet's control records. -/
def controlsOk (rs : List (List Byte)) : Bool :=
  rs.all (fun r => byteAt r 0 == kindHeartbeat || byteAt r 0 == kindStatusQuery || byteAt r 0 == kindSetThreshold) &&
    decide ((rs.filter (fun r => byteAt r 0 == kindStatusQuery)).length ≤ 1)

/-- R55: a HEARTBEAT with this lane mask. -/
def heartbeat (mask : Byte) (s : State) : State :=
  (List.finRange 4).foldl (fun s n => if bitAt mask n.val then hearLane n s else s) s

/-- R56: the fill of a queue in units of 16 records. -/
def queueFill (n : Nat) : Nat := (n + 15) / 16

/-- R56, R182: the feed status record, with these pending kinds. -/
def feedStatusRecord (s : State) (kinds : List Event) : List Byte :=
  byteOf (1 + 2 * bit s.fli.fault + 4 * bit (s.attention .feed)) :: byteOf s.laneBits ::
    ((List.finRange 4).map (fun n => byteOf (queueFill (s.lane n).queue.length)) ++ bytesOf 2 (kindBits kinds))

/-- R56, R190: a STATUS QUERY is served. While a read of the feed master's set is in progress it begins none of its own,
and its record reports the pending and hold sets together. A query served when that read is over begins a read, though the
record of a query that began none may still wait: the model's choice (log entry 34). -/
def statusQuery (s : State) : TxItem × State :=
  if s.au.feed.latch.isSome then
    (.record (feedStatusRecord s (s.au.feed.pending ++ s.au.feed.hold)) false, s)
  else (.record (feedStatusRecord s s.au.feed.pending) true, s.updMaster .feed MasterSet.beginRead)

/-- R57: the feed master's threshold, a value above 7 stored as 7. -/
def feedThreshold (v : Nat) (s : State) : State := s.updMaster .feed (fun m => { m with threshold := min 7 v })

/-- R54: the control records are served in order; the feed status record of a STATUS QUERY is returned. -/
def serveControls : List (List Byte) → State → List TxItem × State
  | [], s => ([], s)
  | r :: t, s =>
    if byteAt r 0 = kindHeartbeat then serveControls t (heartbeat (byteAt r 1) s)
    else if byteAt r 0 = kindSetThreshold then serveControls t (feedThreshold (byteAt r 1).toNat s)
    else
      let q := statusQuery s
      let u := serveControls t q.2
      (q.1 :: u.1, u.2)

/-- R43 orders 5 to 8: a data packet that passed the first checks. -/
def judgeData (n : Fin 4) (rs : List (List Byte)) (s : State) : State :=
  if s.fli.fault then refusePacket replyHeld n s
  else if (s.lane n).held then refusePacket replyHeld n s
  else if Config.intakeSize < (s.lane n).queue.length + rs.length then refusePacket replyFull n s
  else takePacket n (rs.map updateOf) s

/-- R43: the verdict on a framed packet, given as the bytes after its delimiter. -/
def judgePacket (bs : List Byte) (s : State) : State :=
  let lane := (byteAt bs 0).toNat
  let count := (byteAt bs 1).toNat
  let records := recordsOf count (bs.drop 2)
  match s.run with
  | .held => s
  | .initialising => otherVerdict [.reply replyNotReady] s
  | .running =>
    if !countOk count || decide (4 < lane) ||
        decide ((crcOf (bs.take (2 + 12 * count))).toNat ≠ field bs (2 + 12 * count) 2) then badVerdict s
    else
      match laneOf lane with
      | none =>
        if controlsOk records then
          let u := serveControls records s
          otherVerdict (.reply replyTaken :: u.1) u.2
        else badVerdict s
      | some n => judgeData n records s

/-- R167: one byte arrives on FEED RX. -/
def feedByte (b : Byte) (s : State) : State :=
  match s.fli.rx with
  | none => if b = 0x7E#8 then { s with fli := { s.fli with rx := some [] } } else s
  | some bs =>
    if packetComplete (bs ++ [b]) then judgePacket (bs ++ [b]) { s with fli := { s.fli with rx := none } }
    else { s with fli := { s.fli with rx := some (bs ++ [b]) } }

/-- R167: bytes arrive on FEED RX; nothing is received while the RESET pin is held (R191). -/
def feedBytes : List Byte → State → State
  | [], s => s
  | b :: t, s => feedBytes t (feedByte b s)

/-- Meaning of FEED_PACKET. -/
def execFeedPacket (bytes : List Byte) (s : State) : Host.Outcome State Fault Refusal :=
  .next (if s.run = .held then s else feedBytes bytes s)

/-! ### FEED TX -/

/-- R168: what FEED TX sends up to the last byte of the first waiting feed status record: the bytes, whether the record
ends a read, and what still waits. -/
def throughRecord : List TxItem → Option (List Byte × Bool × List TxItem)
  | [] => none
  | .reply c :: t => (throughRecord t).map (fun u => (c :: u.1, u.2))
  | .record bs own :: t => some (bs, own, t)

/-- R56, R189: the feed master's read completes when `own` says so. -/
def endRecord (own : Bool) (s : State) : State :=
  if own then s.updMaster .feed MasterSet.completeRead else s

/-- Meaning of FEED_STATUS_RECORD_SENT: the last byte of the feed status record has been sent, and every byte before
it. With no record waiting there is no such event, and nothing changes. -/
def execFeedStatusRecordSent (s : State) : Host.Outcome State Fault Refusal :=
  .next
    (match throughRecord s.fli.tx with
     | none => s
     | some (sent, own, rest) => endRecord own { s with fli := { s.fli with tx := rest, txOut := sent } })

/-- R168: FEED TX sends its next waiting byte (the idle step, log entry 2). -/
def sendFeedByte (s : State) : State :=
  match s.fli.tx with
  | [] => s
  | .reply c :: t => { s with fli := { s.fli with tx := t, txOut := [c] } }
  | .record [] own :: t => endRecord own { s with fli := { s.fli with tx := t, txOut := [] } }
  | .record [c] own :: t => endRecord own { s with fli := { s.fli with tx := t, txOut := [c] } }
  | .record (c :: d :: bs) own :: t => { s with fli := { s.fli with tx := .record (d :: bs) own :: t, txOut := [c] } }

/-! ### Update engine -/

def kindTrade : Byte := 0x01
def kindReference : Byte := 0x02
def kindHalt : Byte := 0x03
def kindResume : Byte := 0x04
def kindNoTrade : Byte := 0x05

/-- R59, R60, R61: a record taken from a lane's queue is checked and applied, or discarded with its event. -/
def applyUpdate (n : Fin 4) (u : Update) (s : State) : State :=
  let discard := s.raise .updateDiscarded (.lane n)
  let known := u.kind = kindTrade ∨ u.kind = kindReference ∨ u.kind = kindHalt ∨ u.kind = kindResume ∨ u.kind = kindNoTrade
  if ¬ known then discard
  else if !s.resolvesQuote ⟨u.index, u.gen⟩ then discard
  else
    match s.quoteAt u.index with
    | none => discard
    | some q =>
      if q.lane ≠ some n then discard
      else if u.kind = kindTrade then
        match normalise u.scale q.scale u.mantissa with
        | none => s.raise .badPrice (.lane n)
        | some v => s.updQuoteAt u.index (fun q => { q with pendLast := some v, dirty := true })
      else if u.kind = kindReference then
        match normalise u.scale q.scale u.mantissa with
        | none => s.raise .badPrice (.lane n)
        | some v => s.updQuoteAt u.index (fun q => { q with pendRef := some v, dirty := true })
      else if u.kind = kindHalt then s.updQuoteAt u.index (fun q => { q with pendHalted := true, dirty := true })
      else if u.kind = kindResume then s.updQuoteAt u.index (fun q => { q with pendHalted := false, dirty := true })
      else s.updQuoteAt u.index (fun q => { q with pendLast := none, dirty := true })

/-- R58: the lanes in the order that follows the pointer, ending with the pointer's own. -/
def rotation (p : Fin 4) : List (Fin 4) := [p + 1, p + 2, p + 3, p]

/-- R58: one turn of the update engine; with all four queues empty it waits. -/
def engineTurn (s : State) : State :=
  match (rotation s.uePointer).find? (fun n => !(s.lane n).queue.isEmpty) with
  | none => s
  | some n =>
    match (s.lane n).queue with
    | [] => s
    | u :: rest => applyUpdate n u ({ (s.updLane n (fun l => { l with queue := rest })) with uePointer := n })

/-- Meaning of UPDATE_ENGINE_TURN. -/
def execUpdateEngineTurn (s : State) : Host.Outcome State Fault Refusal := .next (engineTurn s)

/-! ### Lane commands -/

/-- R63: a lane command with this lane number: BAD PARAM outside 1 to 4. -/
def laneCommand (lane : Nat) (f : Fin 4 → State → State) (s : State) : Reply × State :=
  match laneOf lane with
  | none => (badParam, s)
  | some n => (good, f n s)

/-- R49. -/
def flushLane (n : Fin 4) (s : State) : State := s.updLane n (fun l => { l with queue := [] })

/-- R53: SET SILENCE LIMIT. -/
def setSilenceLimit (lane limit : Nat) (s : State) : Reply × State :=
  if 1 ≤ limit ∧ limit ≤ 65535 then laneCommand lane (fun n s => s.updLane n (fun l => { l with limit := limit })) s
  else (badParam, s)

/-- R63: a panel lane command outside lanes 1 to 4 raises COMMAND REFUSED with the panel master as source. -/
def panelLaneCommand (lane : Nat) (f : Fin 4 → State → State) (s : State) : State :=
  match laneOf lane with
  | none => s.raise .commandRefused (.master .panel)
  | some n => f n s

end Sys2Proof.Machine
end

