-- ==== Sys2Proof/Machine/Text.lean ====
section
/-! DEFINITION. Price and change texts, the four forms of a quote, its arrow and its colours (R31 to R39). A text is a
list of character codes. -/

namespace Sys2Proof.Machine

def codeSpace : Nat := 0x20
def codePlus : Nat := 0x2B
def codeMinus : Nat := 0x2D
def codePoint : Nat := 0x2E
def codeComma : Nat := 0x2C
def codePercent : Nat := 0x25

/-- The decimal digits of a number, with `fuel` above the number of its digits. -/
def digitsFrom : Nat → Nat → List Nat → List Nat
  | 0, _, acc => acc
  | fuel + 1, n, acc =>
    if n < 10 then (0x30 + n % 10) :: acc else digitsFrom fuel (n / 10) ((0x30 + n % 10) :: acc)

/-- A number in decimal, with no leading zeros and with "0" for 0 (R31). -/
def decimalText (n : Nat) : List Nat := digitsFrom (n + 1) n []

/-- A number as exactly `d` digits, with leading zeros (R31). -/
def paddedText : Nat → Nat → List Nat
  | 0, _ => []
  | d + 1, n => (0x30 + n / 10 ^ d % 10) :: paddedText d n

/-- R31: a comma between each group of three integer digits, counted from the right. -/
def separated : List Nat → List Nat
  | [] => []
  | c :: t => if t.length % 3 = 0 ∧ t ≠ [] then c :: codeComma :: separated t else c :: separated t

/-- Steps 2 and 3 of R31 for a magnitude at `d` decimals. -/
def magnitudeText (sep : Bool) (d v : Nat) : List Nat :=
  let whole := decimalText (v / 10 ^ d)
  (if sep then separated whole else whole) ++ (if d > 0 then codePoint :: paddedText d (v % 10 ^ d) else [])

/-- The text "--". -/
def dashes : List Nat := [codeMinus, codeMinus]

/-- R31: the price text, separated or plain. -/
def priceText (sep : Bool) (q : Quote) : List Nat :=
  match q.dispLast with
  | none => dashes
  | some l =>
    let p := roundDiv l (10 ^ (q.scale - q.decimals))
    (if p < 0 then [codeMinus] else []) ++ magnitudeText sep q.decimals p.natAbs

/-- '+' above 0, '−' below 0 and nothing for 0 (R32, R33). -/
def signText (z : Int) : List Nat := if z > 0 then [codePlus] else if z < 0 then [codeMinus] else []

/-- R32: the absolute change text. -/
def absText (q : Quote) : List Nat :=
  match shownChange q.scale q.decimals q.change with
  | none => dashes
  | some c => signText c ++ magnitudeText false q.decimals c.natAbs

/-- R33: the percent change text. -/
def pctText (q : Quote) : List Nat :=
  match q.percent with
  | none => dashes
  | some p => signText p ++ magnitudeText false 2 p.natAbs ++ [codePercent]

/-- R33: the change text of a change style. -/
def changeText (style : ChangeStyle) (q : Quote) : List Nat :=
  match style with
  | .abs => absText q
  | .pct => pctText q
  | .both => absText q ++ [codeSpace] ++ pctText q

/-- R34: the arrow. -/
def arrowCode (c : BandConfig) (q : Quote) : Nat :=
  let net := match q.netSign with
    | .plus => c.arrowUp
    | .minus => c.arrowDown
    | .zero => c.arrowSame
  if q.dispHalted then c.arrowHalt
  else if q.flash > 0 then
    match q.tick with
    | .up => c.arrowUp
    | .down => c.arrowDown
    | .none => net
  else net

/-- The symbol's codes. -/
def symbolText (q : Quote) : List Nat := (q.symbol.getD []).map (fun b => b.toNat)

/-- A text in two parts for placement (R35): the head, and the tail after the space that follows the head. -/
structure Form where
  head : List Nat
  tail : List Nat
  deriving DecidableEq, Repr

/-- The whole text of a form. -/
def Form.text (f : Form) : List Nat := f.head ++ [codeSpace] ++ f.tail

/-- R35: the form F0, the fullest. -/
def formF0 (c : BandConfig) (q : Quote) : Form :=
  ⟨symbolText q, priceText true q ++ [codeSpace, arrowCode c q, codeSpace] ++ changeText c.changeStyle q⟩

/-- R35: the form F1. -/
def formF1 (c : BandConfig) (q : Quote) : Form :=
  ⟨symbolText q, priceText false q ++ [codeSpace, arrowCode c q, codeSpace] ++ changeText c.changeStyle q⟩

/-- R35: the form F2. -/
def formF2 (c : BandConfig) (q : Quote) : Form := ⟨symbolText q, priceText false q ++ [codeSpace, arrowCode c q]⟩

/-- R35: the form F3, the barest. -/
def formF3 (c : BandConfig) (q : Quote) : Form := ⟨symbolText q, [arrowCode c q]⟩

/-- R38: what is drawn in place of any form under OVERRIDE. -/
def overrideForm (q : Quote) : Form := ⟨symbolText q, (q.dispText.getD []).map (fun b => b.toNat)⟩

/-- R41: the form that sizes the slot at admission. -/
def sizingForm (c : BandConfig) (q : Quote) : Form :=
  if q.dispSource = .overridden then overrideForm q else formF0 c q

/-- R36, R38: the form drawn in a slot, given the width of a text in the band's face. -/
def drawnForm (width : List Nat → Nat) (slot : Nat) (c : BandConfig) (q : Quote) : Form :=
  if q.dispSource = .overridden then overrideForm q
  else if width (formF0 c q).text ≤ slot then formF0 c q
  else if width (formF1 c q).text ≤ slot then formF1 c q
  else if width (formF2 c q).text ≤ slot then formF2 c q
  else formF3 c q

/-- R39: the palette entry of everything but the symbol. -/
def quoteColour (q : Quote) : Fin 10 :=
  let net : Fin 10 := match q.netSign with
    | .plus => 2
    | .minus => 3
    | .zero => 4
  if q.dispSource = .overridden then 9
  else if q.dispHalted then 8
  else if q.stale then 7
  else if q.flash > 0 then
    match q.tick with
    | .up => 5
    | .down => 6
    | .none => net
  else net

end Sys2Proof.Machine
end

