-- ==== Sys2Proof/Machine/Measure.lean ====
section
/-! DEFINITION. Measurement of texts and the slots of items (R41, R80, R81). -/

namespace Sys2Proof.Machine

/-- The glyph record of a code, when the code is 0 to 1023 and the record is present. -/
def presentGlyph (f : Face) (code : Nat) : Option Glyph :=
  if h : code < 1024 then
    let g := tget f.glyphs ⟨code, h⟩
    if g.present then some g else none
  else none

/-- R80: the glyph that draws a code: its own, or the substitute's when the code is missing. -/
def glyphOf (f : Face) (code : Nat) : Option Glyph :=
  match presentGlyph f code with
  | some g => some g
  | none => presentGlyph f f.substitute

/-- R80: a code's effective advance. -/
def effectiveAdvance (f : Face) (code : Nat) : Nat := ((glyphOf f code).map Glyph.advance).getD 0

/-- R80: the width of a code sequence in a face. -/
def textWidth (f : Face) (codes : List Nat) : Nat := (codes.map (effectiveAdvance f)).sum

/-- The two bytes of a code in the text blocks, read as a number. -/
def State.textCode (s : State) (block k : Nat) : Nat :=
  (Memory.read s.ts.text (textAddress block k)).toNat * 256 + (Memory.read s.ts.text (textAddress block k + 1)).toNat

/-- R66: the codes of a story, 32 to a block in the order of its block list. -/
def State.storyText (s : State) (id : Nat) : List Nat :=
  match s.storyAt id with
  | none => []
  | some st => (List.range st.length).map (fun k =>
      s.textCode (st.blocks.getD (k / Config.blockCodes) 0) (k % Config.blockCodes))

/-- R41, R81: the slot of an item at admission. -/
def State.slotOf (s : State) (c : BandConfig) (k : ItemKind) : Nat :=
  match k with
  | .quote r =>
    match s.quoteAt r.index with
    | some q => ceilTo c.quantum (textWidth (s.face c.face) (sizingForm c q).text)
    | none => 0
  | .story r => textWidth (s.face c.face) (s.storyText r.index)
  | .glyph code => effectiveAdvance (s.face c.face) code
  | .spacer w => w

end Sys2Proof.Machine
end

