-- ==== Sys2Proof/Machine/Stores.lean ====
section
/-! DEFINITION. The text store and the glyph store: loads, deletions and unloads (chapter 4). -/

namespace Sys2Proof.Machine

/-! ### Stories -/

/-- The lowest id whose story record satisfies `p`. -/
def State.findStory (s : State) (p : Story → Bool) : Option (Fin 256) :=
  (List.finRange 256).find? (fun i => p (s.story i))

/-- R69: the blocks that a story of this length needs. -/
def blocksFor (codes : Nat) : Nat := (codes + (Config.blockCodes - 1)) / Config.blockCodes

/-- R69: LOAD STORY at its command phase: refused, or its load target designated. -/
def loadStory (dataLength : Nat) (s : State) : Reply × State :=
  if dataLength = 0 ∨ dataLength % 2 = 1 ∨ 2 * Config.storyCodes < dataLength then (badParam, s)
  else
    match s.findStory (fun st => decide (st.state = .free)) with
    | none => (.answer .full noValues, s)
    | some i =>
      if s.ts.freeBlocks.length < blocksFor (dataLength / 2) then (.answer .full noValues, s)
      else
        let target : LoadTarget := ⟨i, s.ts.freeBlocks.take (blocksFor (dataLength / 2))⟩
        (.receive, { s with ts := { s.ts with loadTarget := some target } })

/-- R70: byte `k` of a story's data is written into the designated blocks, two bytes a code. -/
def writeStoryByte (k : Nat) (b : Byte) (s : State) : State :=
  match s.ts.loadTarget with
  | none => s
  | some t =>
    let address := textAddress (t.blocks.getD (k / (2 * Config.blockCodes)) 0) 0 + k % (2 * Config.blockCodes)
    { s with ts := { s.ts with text := Memory.write s.ts.text address b } }

/-- R70: the last byte of a story has arrived. -/
def completeStory (dataLength : Nat) (s : State) : Status × State :=
  match s.ts.loadTarget with
  | none => (⟨.good, 0, noValues⟩, s)
  | some t =>
    let g := nextGen (s.story t.id).gen
    let s' := s.updStory t.id (fun _ => ⟨.loaded, g, dataLength / 2, t.blocks, 0⟩)
    let rest := s'.ts.freeBlocks.filter (fun b => !t.blocks.contains b)
    (⟨.good, 0, refValues t.id.val g⟩, { s' with ts := { s'.ts with freeBlocks := rest, loadTarget := none } })

/-- R71: DELETE STORY. -/
def deleteStory (r : Ref) (s : State) : Reply × State :=
  if h : r.index < 256 then
    if s.resolvesStory r then
      (.answer .good (refValues r.index (nextGen r.gen)),
        freeStoryIfGone ⟨r.index, h⟩ (s.updStory ⟨r.index, h⟩ (fun st => { st with state := .deleting, gen := nextGen st.gen })))
    else (.answer .notFound noValues, s)
  else (.answer .notFound noValues, s)

/-! ### Faces -/

/-- R76: LOAD FACE at its command phase. -/
def loadFace (a : FaceArgs) (dataLength : Nat) (s : State) : Reply × State :=
  match four a.face with
  | none => (badParam, s)
  | some f =>
    if a.lineHeight = 0 ∨ 256 < a.lineHeight ∨ a.lineHeight < a.baseline ∨ 1023 < a.substitute ∨ 1024 < a.count ∨
        dataLength ≠ 12 * a.count then (badParam, s)
    else if s.drawingUse f then (.answer .busy noValues, s)
    else (.receive, s)

/-- R76: an entry in range by the first completion check. -/
def glyphEntryOk (bs : List Byte) : Bool :=
  let g := entryGlyph bs
  decide (entryCode bs ≤ 1023) && decide (-64 ≤ g.bearingX) && decide (g.bearingX ≤ 63) && decide (-128 ≤ g.bearingY) &&
    decide (g.bearingY ≤ 127) && decide (g.offset < Config.glyphBytes)

/-- R76: an image within glyph memory, or none. -/
def imageFits (g : Glyph) : Bool := decide (g.width = 0) || decide (g.height = 0) ||
  decide (g.offset + g.width * g.height ≤ Config.glyphBytes)

/-- R76: the glyph table with one entry's glyph placed. -/
def placeGlyph (v : Vector Glyph 1024) (bs : List Byte) : Vector Glyph 1024 :=
  if h : entryCode bs < 1024 then tset v ⟨entryCode bs, h⟩ (entryGlyph bs) else v

/-- R76: the face that replaces the target: a present glyph for each entry, and no other. -/
def builtFace (a : FaceArgs) (entries : List (List Byte)) : Face :=
  { loaded := true, lineHeight := a.lineHeight, baseline := a.baseline, substitute := a.substitute,
    glyphs := entries.foldl placeGlyph (Vector.replicate 1024 Glyph.absent) }

/-- R76: the last byte of a face's entries has arrived. -/
def completeFace (a : FaceArgs) (s : State) : Result × State :=
  let entries := entriesOf 12 a.count s.gs.staging
  let s' : State := { s with gs := { s.gs with staging := [] } }
  match four a.face with
  | none => (.badParam, s')
  | some f =>
    if !entries.all glyphEntryOk || !decide (entries.map entryCode).Nodup then (.badParam, s')
    else if !entries.all (fun e => imageFits (entryGlyph e)) then (.badParam, s')
    else if s.drawingUse f then (.busy, s')
    else (.good, s'.setFace f (builtFace a entries))

/-- R77: the image of a present glyph shares a byte with a range of glyph memory. -/
def imageMeets (offset length : Nat) (g : Glyph) : Bool :=
  g.present && decide (0 < g.width) && decide (0 < g.height) && decide (g.offset < offset + length) &&
    decide (offset < g.offset + g.width * g.height)

/-- R77: the range shares a byte with an image of a face in drawing use. -/
def State.imagesInUse (s : State) (offset length : Nat) : Bool :=
  (List.finRange 4).any (fun f => s.drawingUse f && (tlist (s.face f).glyphs).any (imageMeets offset length))

/-- R77: LOAD GLYPH IMAGES at its command phase. -/
def loadImages (offset dataLength : Nat) (s : State) : Reply × State :=
  if dataLength = 0 ∨ Config.glyphBytes < offset + dataLength then (badParam, s)
  else if s.imagesInUse offset dataLength then (.answer .busy noValues, s)
  else (.receive, s)

/-- R77: an image byte is written as it arrives. -/
def writeImageByte (address : Nat) (b : Byte) (s : State) : State :=
  { s with gs := { s.gs with mem := Memory.write s.gs.mem address b } }

/-- R78: UNLOAD FACE. -/
def unloadFace (face : Nat) (s : State) : Reply × State :=
  match four face with
  | none => (badParam, s)
  | some f => if s.configuredUse f then (.answer .busy noValues, s) else (good, s.setFace f Face.empty)

end Sys2Proof.Machine
end

