-- ==== Sys2Proof/Machine/RunLists.lean ====
section
/-! DEFINITION. The run-list store: edits and copies of the shadow bank, and commits (chapter 5). -/

namespace Sys2Proof.Machine

/-- R185: the operations of EDIT RUN LIST. -/
def opInsert : Nat := 0
def opDelete : Nat := 1
def opReplace : Nat := 2
def opClear : Nat := 3

/-- R183: bytes of an item entry. -/
def itemEntryBytes : Nat := 9

/-- R87 check 1, but for the target band. -/
def editParamsOk (op count dataLength : Nat) : Bool :=
  if op = opInsert ∨ op = opReplace then
    decide (1 ≤ count) && decide (count ≤ 256) && decide (dataLength = itemEntryBytes * count)
  else if op = opDelete then decide (1 ≤ count) && decide (count ≤ 256) && decide (dataLength = 0)
  else decide (op = opClear) && decide (dataLength = 0)

/-- R87 checks 3 and 4 against a shadow bank of length `n`. -/
def editFit (op pos count n : Nat) : Option Result :=
  if op = opInsert then
    if n < pos then some .badParam else if Config.bankSize < n + count then some .full else none
  else if op = opDelete ∨ op = opReplace then
    if n < pos + count then some .badParam else none
  else none

/-- R89: the shadow bank after an edit that passes. -/
def editedBank (op pos count : Nat) (items bank : List Item) : List Item :=
  if op = opInsert then bank.take pos ++ items ++ bank.drop pos
  else if op = opDelete then bank.take pos ++ bank.drop (pos + count)
  else if op = opReplace then bank.take pos ++ items ++ bank.drop (pos + count)
  else []

/-- R89: an edit is applied to the shadow bank in one step; the returned values carry its length. -/
def applyEdit (b : Fin 4) (op pos count : Nat) (items : List Item) (s : State) : List Byte × State :=
  let bank := editedBank op pos count items (s.lists b).shadow
  (numberValues bank.length, s.updLists b (fun r => r.setShadow bank))

/-- R87: EDIT RUN LIST at its command phase. -/
def editRunList (band op pos count dataLength : Nat) (s : State) : Reply × State :=
  match four band with
  | none => (badParam, s)
  | some b =>
    if !editParamsOk op count dataLength then (badParam, s)
    else if (s.lists b).commit.isSome then (.answer .busy noValues, s)
    else
      match editFit op pos count (s.lists b).shadow.length with
      | some r => (.answer r noValues, s)
      | none =>
        if op = opInsert ∨ op = opReplace then (.receive, s)
        else
          let t := applyEdit b op pos count [] s
          (.answer .good t.1, t.2)

/-- R88 check 4: the item names nothing that fails to resolve. -/
def State.itemResolves (s : State) (i : Item) : Bool := s.admissible i.kind

/-- R88: the last byte of an INSERT or REPLACE has arrived. BUSY is judged by the record that the band now holds, so that an
edit whose IMMEDIATE commit was created and carried out at one frame start of its data phase is applied, against the words
of R90: the model's choice (log entry 30). -/
def completeEdit (band op pos count : Nat) (s : State) : Status × State :=
  let entries := entriesOf itemEntryBytes count s.editStaging
  let s' : State := { s with editStaging := [] }
  match four band with
  | none => (⟨.badParam, 0, noValues⟩, s')
  | some b =>
    if (s.lists b).commit.isSome then (⟨.busy, 0, noValues⟩, s')
    else
      match editFit op pos count (s.lists b).shadow.length with
      | some r => (⟨r, 0, noValues⟩, s')
      | none =>
        match entries.findIdx? (fun e => (itemOf e).isNone) with
        | some k => (⟨.badParam, 0, numberValues k⟩, s')
        | none =>
          match entries.findIdx? (fun e => !(itemOf e).all s.itemResolves) with
          | some k => (⟨.notFound, 0, numberValues k⟩, s')
          | none =>
            let t := applyEdit b op pos count (entries.filterMap itemOf) s'
            (⟨.good, 0, t.1⟩, t.2)

/-- R91: COPY BANK. -/
def copyBank (band : Nat) (s : State) : Reply × State :=
  match four band with
  | none => (badParam, s)
  | some b =>
    if (s.lists b).commit.isSome then (.answer .busy noValues, s)
    else
      (.answer .good (numberValues (s.lists b).onAir.length), s.updLists b (fun r => r.setShadow r.onAir))

/-- R93: RLS acts on a commit by the band's program state. -/
def takeCommit (b : Fin 4) (m : CommitMode) (s : State) : State :=
  if (s.band b).prog.drawing then s.updLists b (fun r => { r with commit := some m }) else swapBanks b s

/-- R119: the cursor advances past the item just considered. It wraps to 0 past the last item of the on-air bank, LOOP
END is raised, and a pending LOOP END commit is carried out. -/
def advanceCursor (b : Fin 4) (s : State) : State :=
  if (s.lists b).onAir.length ≤ (s.band b).cursor + 1 then
    swapIf (fun m => decide (m = .loopEnd)) b
      ((s.updBand b (fun d => { d with cursor := 0 })).raise .loopEnd (.band b))
  else s.updBand b (fun d => { d with cursor := d.cursor + 1 })

/-- R119: the cursor wraps when the item at it has been considered. -/
def State.wraps (s : State) (b : Fin 4) : Bool := decide ((s.lists b).onAir.length ≤ (s.band b).cursor + 1)

/-- R95, R119: the wrap is also a swap. -/
def State.wrapSwaps (s : State) (b : Fin 4) : Bool := s.wraps b && decide ((s.lists b).commit = some .loopEnd)

end Sys2Proof.Machine
end

