-- ==== Sys2Proof/Machine/Crawl.lean ====
section
/-! DEFINITION. The frame-start steps of a CRAWL band: ramp, move, admission, break admission and the end of a drain or
of a clearing (chapters 6 and 7). -/

namespace Sys2Proof.Machine

/-- R113: the ramp step. -/
def rampStep (c : BandConfig) (b : Fin 4) (s : State) : State :=
  s.updBand b (fun d => { d with speed := rampToward (d.effectiveTarget c) c.accel d.speed })

/-- R115: the right end of an instance, in scroll units. -/
def Inst.rightEnd (i : Inst) : Int := i.x + ((i.slot * 256 : Nat) : Int)

/-- R115: an instance has left when its right end has reached or passed the band's left edge. -/
def Inst.gone (i : Inst) : Bool := decide (i.rightEnd ≤ 0)

/-- R115: the instances that leave, from the front. -/
def exitCount (w : List Inst) : Nat := (w.takeWhile Inst.gone).length

/-- R115: the X of every instance decreases by the speed. -/
def Band.shifted (d : Band) : Band := { d with window := d.window.map (fun i => { i with x := i.x - (d.speed : Int) }) }

/-- R115: the move step. -/
def moveStep (b : Fin 4) (s : State) : State :=
  let s' := s.updBand b Band.shifted
  removeFront b (exitCount (s'.band b).window) s'

/-- R116: the tail T behind the window's last instance, or the limit for an empty window. -/
def State.tailX (s : State) (b : Fin 4) : Int :=
  match (s.band b).window.getLast? with
  | none => (s.limit : Int)
  | some i => i.x + (((i.slot + i.gap) * 256 : Nat) : Int)

/-- R116, R121: where the next instance is placed: at the tail, or at the limit into an empty window or after a
deferral. -/
def State.placeX (s : State) (b : Fin 4) : Int := if (s.band b).deferral then (s.limit : Int) else s.tailX b

/-- R118: what an item's instance refers to. -/
def ItemKind.toInst : ItemKind → InstKind
  | .quote r => .quote r
  | .story r => .story r
  | .glyph c => .glyph c
  | .spacer _ => .spacer

/-- R118: the colour override of a STORY item, and none for another. -/
def Item.instColour (i : Item) : Option Nat :=
  match i.kind with
  | .quote _ => none
  | .story _ => i.colour
  | .glyph _ => none
  | .spacer _ => none

/-- R118: the instance of an item at `x`. -/
def itemInstance (c : BandConfig) (i : Item) (x : Int) (slot : Nat) (voffset : Int) : Inst :=
  { kind := i.kind.toInst, x := x, slot := slot, gap := i.gap.getD c.gap, colour := i.instColour, voffset := voffset, brk := false }

/-- R132: the instance of a break entry at `x`. -/
def breakInstance (c : BandConfig) (e : BreakEntry) (x : Int) (slot : Nat) : Inst :=
  { kind := .story e.story, x := x, slot := slot, gap := c.gap, colour := none, voffset := 0, brk := true }

/-- R118, R121: an admission clears the deferral flag and adds the instance. -/
def admitInst (b : Fin 4) (i : Inst) (s : State) : State :=
  addInstance b i (s.updBand b (fun d => { d with deferral := false }))

/-- R121: the loop stops at a full window: WINDOW FULL is raised when the flag goes from 0 to 1. -/
def deferAdmission (b : Fin 4) (s : State) : State :=
  if (s.band b).deferral then s
  else (s.updBand b (fun d => { d with deferral := true })).raise .windowFull (.band b)

/-- R132: one repeat of the head entry is admitted; at 0 the entry leaves the queue. -/
def useRepeat (b : Fin 4) (e : BreakEntry) (rest : List BreakEntry) (s : State) : State :=
  s.updBand b (fun d => { d with breaks := if e.repeats ≤ 1 then rest else { e with repeats := e.repeats - 1 } :: rest })

/-- R134: when the break queue has become empty, a BREAKING band restores its context and becomes RUNNING, and BREAK
DONE is raised. -/
def endBreaks (b : Fin 4) (s : State) : State :=
  if (s.band b).breaks = [] then
    (if (s.band b).prog = .breaking then changeProg b .running (s.updBand b Band.restoreContext) else s).raise
      .breakDone (.band b)
  else s

/-- R132, R133: the head of the break queue is considered: admitted, or dropped whole with ITEM SKIPPED. -/
def considerBreak (c : BandConfig) (b : Fin 4) (e : BreakEntry) (rest : List BreakEntry) (s : State) : State :=
  endBreaks b
    (if s.resolvesStory e.story then
      useRepeat b e rest (admitInst b (breakInstance c e (s.placeX b) (s.slotOf c (.story e.story))) s)
    else (s.updBand b (fun d => { d with breaks := rest })).raise .itemSkipped (.band b))

/-- R117, R118, R119: the item at the cursor is considered: admitted, or skipped with ITEM SKIPPED; the cursor advances. -/
def considerItem (c : BandConfig) (b : Fin 4) (i : Item) (s : State) : State :=
  advanceCursor b
    (if s.admissible i.kind then admitInst b (itemInstance c i (s.placeX b) (s.slotOf c i.kind) 0) s
     else s.raise .itemSkipped (.band b))

/-- R120: the run of skips after an item has been considered. -/
def skipsAfter (b : Fin 4) (i : Item) (skips : Nat) (s : State) : Nat :=
  if s.admissible i.kind then 0 else if s.wrapSwaps b then 0 else skips + 1

/-- R116 to R121, R132 to R134: the admission loop. `skips` counts the consecutive items skipped since the last admission
or swap, and the first argument bounds the number of candidates (`admissionFuel` is enough for every window and bank). -/
def admitLoop (c : BandConfig) (b : Fin 4) : Nat → Nat → State → State
  | 0, _, s => s
  | fuel + 1, skips, s =>
    if (s.limit : Int) < s.tailX b then s
    else if Config.windowSize ≤ (s.band b).window.length then deferAdmission b s
    else
      match (s.band b).breaks with
      | e :: rest => admitLoop c b fuel (if s.resolvesStory e.story then 0 else skips) (considerBreak c b e rest s)
      | [] =>
        if (s.lists b).onAir = [] then
          if (s.lists b).commit.isSome then admitLoop c b fuel 0 (swapBanks b s) else s.raise .starved (.band b)
        else if (s.lists b).onAir.length ≤ skips then s.raise .starved (.band b)
        else
          match (s.lists b).onAir[(s.band b).cursor]? with
          | none => s
          | some i => admitLoop c b fuel (skipsAfter b i skips s) (considerItem c b i s)

/-- More candidates than one admission step can consider: 64 admissions, a run of skips no longer than a bank before
each of them and after a swap, and each break entry once. -/
def admissionFuel (s : State) (b : Fin 4) : Nat :=
  66 * ((s.lists b).bankA.length + (s.lists b).bankB.length + 2) + (s.band b).breaks.length

/-- R116: the admission step. A pending IMMEDIATE commit is carried out in every drawing state (R94); items and break
entries are considered in RUNNING and BREAKING alone. -/
def admissionStep (c : BandConfig) (b : Fin 4) (s : State) : State :=
  let s' := swapIf (fun m => decide (m = .immediate)) b s
  if (s'.band b).prog = .running ∨ (s'.band b).prog = .breaking then admitLoop c b (admissionFuel s' b) 0 s' else s'

/-- R122, R148: a DRAINING band whose window is empty becomes READY. -/
def drainEndStep (b : Fin 4) (s : State) : State :=
  if (s.band b).prog = .draining ∧ (s.band b).window = [] then
    enterReady b (s.updBand b (fun d => { d with speed := 0, deferral := false }))
  else s

/-- R122, R130: a CLEARING band whose window is empty becomes BREAKING. -/
def clearingEndStep (b : Fin 4) (s : State) : State :=
  if (s.band b).prog = .clearing ∧ (s.band b).window = [] then changeProg b .breaking s else s

/-- R114 steps 2 to 5. -/
def crawlSteps (c : BandConfig) (b : Fin 4) (s : State) : State :=
  clearingEndStep b (drainEndStep b (admissionStep c b (moveStep b (rampStep c b s))))

end Sys2Proof.Machine
end

