-- ==== Sys2Proof/Machine/Flip.lean ====
section
/-! DEFINITION. The frame-start steps of a FLIP band: page builds, holds, rolls and exits (chapter 8). -/

namespace Sys2Proof.Machine

/-- R141: the candidates of a page build. `taken`, `used` and `lastGap` describe the page so far, `skips` the consecutive
candidates skipped, and the first argument bounds the number of candidates. Answers how many items were taken. R142: the
width that clips the first item of a page is its slot of R81, the quantum included: the model's choice (log entry 31). -/
def buildLoop (c : BandConfig) (b : Fin 4) (voffset : Int) : Nat → Nat → Nat → Nat → Nat → State → Nat × State
  | 0, taken, _, _, _, s => (taken, s)
  | fuel + 1, taken, used, lastGap, skips, s =>
    if (s.lists b).onAir.length ≤ skips then (taken, s)
    else
      match (s.lists b).onAir[(s.band b).cursor]? with
      | none => (taken, s)
      | some i =>
        if s.admissible i.kind then
          if 0 < taken ∧ s.width < used + lastGap + s.slotOf c i.kind then (taken, s)
          else
            let slot := if taken = 0 then min s.width (s.slotOf c i.kind) else s.slotOf c i.kind
            let left := if taken = 0 then 0 else used + lastGap
            let s' := advanceCursor b (addInstance b (itemInstance c i ((left * 256 : Nat) : Int) slot voffset) s)
            if s.wraps b ∨ taken + 1 = Config.pageSize then (taken + 1, s')
            else buildLoop c b voffset fuel (taken + 1) (left + slot) (i.gap.getD c.gap) 0 s'
        else
          let s' := advanceCursor b (s.raise .itemSkipped (.band b))
          if s.wraps b ∧ 0 < taken then (taken, s')
          else buildLoop c b voffset fuel taken used lastGap (if s.wrapSwaps b then 0 else skips + 1) s'

/-- More candidates than one page build can consider. -/
def buildFuel (s : State) (b : Fin 4) : Nat := 2 * ((s.lists b).bankA.length + (s.lists b).bankB.length) + 2

/-- R141, R143: a page build: pending commits first, then the candidates; a build that takes nothing is starved. -/
def pageBuild (c : BandConfig) (b : Fin 4) (voffset : Int) (s : State) : Nat × State :=
  let s1 := swapIf (fun m => decide (m = .immediate)) b s
  let s2 := if (s1.lists b).onAir = [] then swapIf (fun _ => true) b s1 else s1
  let r := buildLoop c b voffset (buildFuel s2 b) 0 0 0 0 s2
  if r.1 = 0 then (0, r.2.raise .starved (.band b)) else r

/-- The page state with `f` applied. -/
def updPage (b : Fin 4) (f : Page → Page) (s : State) : State := s.updBand b (fun d => { d with page := f d.page })

/-- The page after a build of `n` items outside a roll: HOLDING with the flip hold, or EMPTY when starved (R143 to R145). -/
def settlePage (c : BandConfig) (b : Fin 4) (n : Nat) (s : State) : State :=
  updPage b (fun p => if n = 0 then { p with phase := .empty, hold := 0 } else { p with phase := .holding, hold := c.flipHold }) s

/-- R146: lines that a page has moved at roll step `k`. -/
def rollLines (c : BandConfig) (k : Nat) : Nat := c.height * k / c.rollFrames

/-- R146: the window with the vertical offsets of roll step `k`; the first `m` instances are the outgoing page. -/
def rolledWindow (c : BandConfig) (k m : Nat) (w : List Inst) : List Inst :=
  (w.take m).map (fun i => { i with voffset := -(rollLines c k : Int) }) ++
    (w.drop m).map (fun i => { i with voffset := (c.height : Int) - (rollLines c k : Int) })

/-- R146, R147: the roll stands at step `k`. -/
def setRoll (c : BandConfig) (b : Fin 4) (k : Nat) (s : State) : State :=
  s.updBand b (fun d => { d with page := { d.page with roll := k }, window := rolledWindow c k d.page.outgoing d.window })

/-- R147: the page on screen becomes the outgoing page of a roll with no incoming page. -/
def enterLeaving (c : BandConfig) (b : Fin 4) (s : State) : State :=
  setRoll c b 1 (updPage b (fun p => { p with phase := .leaving, hold := 0, outgoing := (s.band b).window.length }) s)

/-- R145, R146, R148: the hold of the current page has expired. -/
def expirePage (c : BandConfig) (b : Fin 4) (s : State) : State :=
  let m := (s.band b).window.length
  if (s.band b).prog = .draining then
    match c.flipTransition with
    | .cut => updPage b (fun p => { p with phase := .empty, hold := 0 }) (removeFront b m s)
    | .roll => enterLeaving c b s
  else
    match c.flipTransition with
    | .cut =>
      let r := pageBuild c b 0 s
      settlePage c b r.1 (removeFront b m r.2)
    | .roll =>
      let r := pageBuild c b ((c.height : Int) - (rollLines c 1 : Int)) s
      if r.1 = 0 then enterLeaving c b r.2
      else setRoll c b 1 (updPage b (fun p => { p with phase := .rolling, hold := 0, outgoing := m }) r.2)

/-- R144: the hold count. -/
def holdStep (c : BandConfig) (b : Fin 4) (s : State) : State :=
  if (s.band b).halted then s
  else if (s.band b).page.hold ≤ 1 then expirePage c b s
  else updPage b (fun p => { p with hold := p.hold - 1 }) s

/-- R146: a roll past its last step: the outgoing page is removed and the incoming page holds. The roll step that remains
is a free value (log entry 9). -/
def endRoll (c : BandConfig) (b : Fin 4) (s : State) : State :=
  let k := Config.rollStepAfterRoll s.freeIndex % 65
  (updPage b (fun p => { p with phase := .holding, hold := c.flipHold, roll := k, outgoing := 0 })
    ((removeFront b (s.band b).page.outgoing s).updBand b
      (fun d => { d with window := d.window.map (fun i => { i with voffset := 0 }) }))).bumpFree

/-- R146: the roll advance of the phase ROLLING. -/
def rollStep (c : BandConfig) (b : Fin 4) (s : State) : State :=
  if (s.band b).halted then s
  else if (s.band b).page.roll < c.rollFrames then setRoll c b ((s.band b).page.roll + 1) s
  else endRoll c b s

/-- R147: the end of a LEAVING roll. The roll step and the outgoing count that remain are free values (log entry 9). -/
def endLeaving (c : BandConfig) (b : Fin 4) (s : State) : State :=
  let k := Config.rollStepAfterRoll s.freeIndex % 65
  let m := Config.outgoingAfterLeaving s.freeIndex % 33
  let s' := (updPage b (fun p => ⟨.empty, p.hold, k, m⟩) (removeFront b (s.band b).page.outgoing s)).bumpFree
  if (s.band b).prog = .running then
    let r := pageBuild c b 0 s'
    settlePage c b r.1 r.2
  else s'

/-- R147: the roll advance of the phase LEAVING. -/
def leavingStep (c : BandConfig) (b : Fin 4) (s : State) : State :=
  if (s.band b).halted then s
  else if (s.band b).page.roll < c.rollFrames then setRoll c b ((s.band b).page.roll + 1) s
  else endLeaving c b s

/-- R140: the page step. -/
def pageStep (c : BandConfig) (b : Fin 4) (s : State) : State :=
  match (s.band b).page.phase with
  | .empty =>
    if (s.band b).prog = .running then
      let r := pageBuild c b 0 s
      settlePage c b r.1 r.2
    else s
  | .holding => holdStep c b s
  | .rolling => rollStep c b s
  | .leaving => leavingStep c b s

/-- R140: the steps of a FLIP band after its requests. -/
def flipSteps (c : BandConfig) (b : Fin 4) (s : State) : State := drainEndStep b (pageStep c b s)

end Sys2Proof.Machine
end

