-- ==== Sys2Proof/Machine/Requests.lean ====
section
/-! DEFINITION. The band request queue and the taking of each band request (R92, R93, R102 to R112, R126 to R137, R148,
R149), with the meanings of the rows that are taken at a frame start. -/

namespace Sys2Proof.Machine

/-! ### Taking a request

Each operation judges one request against the state and answers the result with the returned values. `sampled` tells
whether the compositor has already taken the frame start in progress (R161). -/

/-- The answer of a request without returned values. -/
def resultOnly (r : Result) (s : State) : (Result × List Byte) × State := ((r, noValues), s)

/-- R103 check 3: the lines of two configurations meet. -/
def linesMeet (y h y' h' : Nat) : Bool := decide (y < y' + h') && decide (y' < y + h)

/-- R103 check 3: the lines meet the lines of another band whose program state is not OFF. -/
def State.overlaps (s : State) (b : Fin 4) (y h : Nat) : Bool :=
  (List.finRange 4).any (fun b' => decide (b' ≠ b) && decide ((s.band b').prog ≠ .off) &&
    (s.band b').config.any (fun c => linesMeet y h c.yOrigin c.height))

/-- R102: the face of the record is LOADED. -/
def State.faceLoaded (s : State) (face : Nat) : Bool := (four face).any (fun f => (s.face f).loaded)

/-- R103: CONFIGURE. -/
def takeConfigure (b : Fin 4) (c : ConfigRecord) (s : State) : (Result × List Byte) × State :=
  if (s.band b).prog ≠ .off ∧ (s.band b).prog ≠ .ready then resultOnly .busy s
  else
    match firstBadRow s.lines (s.faceLoaded c.face) c with
    | some n => ((.badParam, [byteOf n, 0, 0, 0, 0]), s)
    | none =>
      if s.overlaps b c.yOrigin c.height then ((.badParam, [19, 0, 0, 0, 0]), s)
      else
        let s' := s.updBand b (fun d => { d with config := storedConfig c })
        resultOnly .good (if (s.band b).prog = .off then enterReady b s' else s')

/-- R104: RELEASE. -/
def takeRelease (b : Fin 4) (s : State) : (Result × List Byte) × State :=
  if (s.band b).prog = .ready then
    resultOnly .good (changeProg b .off (s.updBand b (fun d => { d with config := none, halted := false, cursor := 0 })))
  else resultOnly .wrongMode s

/-- R161: the visibility of a band that enters a drawing state from READY. -/
def takeOnVisibility (sampled : Bool) (fade : Nat) (s : State) : Visibility :=
  if (if sampled then s.cmp.sampled else s.cleanRequested) then ⟨.hidden, 0⟩ else ⟨.shown, fullStep fade⟩

/-- R108: the speed of a band taken on from READY. -/
def takeOnSpeed (d : Band) (c : BandConfig) : Nat :=
  match c.presentation with
  | .crawl => d.effectiveTarget c
  | .flip => 0

/-- R108, R161: TAKE ON. -/
def takeTakeOn (sampled : Bool) (b : Fin 4) (fromTop : Bool) (s : State) : (Result × List Byte) × State :=
  let top := fun d : Band => { d with cursor := if fromTop then 0 else d.cursor }
  match (s.band b).prog with
  | .ready =>
    match (s.band b).config with
    | none => resultOnly .wrongMode s
    | some c =>
      resultOnly .good (changeProg b .running
        ((s.updBand b (fun d => { top d with speed := takeOnSpeed d c })).setVis b (takeOnVisibility sampled c.fade s)))
  | .draining => resultOnly .good (changeProg b .running (s.updBand b top))
  | .off => resultOnly .wrongMode s
  | .running => resultOnly .wrongMode s
  | .clearing => resultOnly .wrongMode s
  | .breaking => resultOnly .wrongMode s

/-- R109, R136: TAKE OFF DRAIN. -/
def takeTakeOffDrain (b : Fin 4) (s : State) : (Result × List Byte) × State :=
  match (s.band b).prog with
  | .running => resultOnly .good (changeProg b .draining (s.updBand b (fun d => { d with breaks := [] })))
  | .clearing | .breaking =>
    resultOnly .good (changeProg b .draining (s.updBand b (fun d => { d.restoreContext with breaks := [] })))
  | .off => resultOnly .wrongMode s
  | .ready => resultOnly .wrongMode s
  | .draining => resultOnly .wrongMode s

/-- R110, R137, R149: TAKE OFF CUT. -/
def takeTakeOffCut (b : Fin 4) (s : State) : (Result × List Byte) × State :=
  if (s.band b).prog.drawing then
    resultOnly .good (enterReady b
      ((removeFront b (s.band b).window.length s).updBand b
        (fun d => { d with breaks := [], saved := none, deferral := false, speed := 0 })))
  else resultOnly .wrongMode s

/-- R111: HALT and RESUME. -/
def takeHalted (b : Fin 4) (halted : Bool) (s : State) : (Result × List Byte) × State :=
  if (s.band b).prog = .off then resultOnly .wrongMode s
  else resultOnly .good (s.updBand b (fun d => { d with halted := halted }))

/-- R112: the speed target of a band's configuration changes. -/
def takeTarget (b : Fin 4) (f : Nat → Nat) (s : State) : (Result × List Byte) × State :=
  if (s.band b).prog = .off then resultOnly .wrongMode s
  else resultOnly .good (s.updBand b (fun d =>
    { d with config := d.config.map (fun c => { c with speedTarget := f c.speedTarget }) }))

/-- R112: a nudge of a speed target, saturating at 0 and at 8192. -/
def nudged (up : Bool) (v : Nat) : Nat := if up then min Config.speedMax (v + 256) else v - 256

/-- R92, R93: COMMIT. -/
def takeCommitRequest (b : Fin 4) (m : CommitMode) (s : State) : (Result × List Byte) × State :=
  resultOnly .good (takeCommit b m s)

/-- R126, R128: a NOW entry stands behind the last NOW entry, a NEXT entry at the back. -/
def placeBreak (e : BreakEntry) (l : List BreakEntry) : List BreakEntry :=
  match e.urgency with
  | .next => l ++ [e]
  | .now => l.takeWhile (fun x => decide (x.urgency = .now)) ++ e :: l.dropWhile (fun x => decide (x.urgency = .now))

/-- R127, R128: BREAK. -/
def takeBreak (b : Fin 4) (e : BreakEntry) (s : State) : (Result × List Byte) × State :=
  if (s.band b).presentation = some .flip ∨ (s.band b).prog = .off ∨ (s.band b).prog = .ready ∨ (s.band b).prog = .draining then
    resultOnly .wrongMode s
  else if !s.resolvesStory e.story then resultOnly .notFound s
  else if Config.breakQueueSize ≤ (s.band b).breaks.length then resultOnly .busy s
  else
    let s' := s.updBand b (fun d => { d with breaks := placeBreak e d.breaks })
    resultOnly .good
      (if e.urgency = .now ∧ (s.band b).prog = .running then
        changeProg b .clearing (s'.updBand b (fun d => { d with saved := some d.cursor }))
       else s')

/-- R135: BREAK CLEAR. -/
def takeBreakClear (b : Fin 4) (s : State) : (Result × List Byte) × State :=
  if (s.band b).presentation = some .flip then resultOnly .wrongMode s
  else
    match (s.band b).prog with
    | .clearing | .breaking =>
      resultOnly .good (changeProg b .running (s.updBand b (fun d => { d.restoreContext with breaks := [] })))
    | .running => resultOnly .good (s.updBand b (fun d => { d with breaks := [] }))
    | .off => resultOnly .wrongMode s
    | .ready => resultOnly .wrongMode s
    | .draining => resultOnly .wrongMode s

/-- R107: a request is judged by the band's program state at its turn. -/
def judgeRequest (sampled : Bool) (b : Fin 4) (r : BandRequest) (s : State) : (Result × List Byte) × State :=
  match r with
  | .configure c => takeConfigure b c s
  | .release => takeRelease b s
  | .takeOn fromTop => takeTakeOn sampled b fromTop s
  | .takeOffDrain => takeTakeOffDrain b s
  | .takeOffCut => takeTakeOffCut b s
  | .halt => takeHalted b true s
  | .resume => takeHalted b false s
  | .setSpeed v => takeTarget b (fun _ => min Config.speedMax v) s
  | .nudge up => takeTarget b (nudged up) s
  | .commit m => takeCommitRequest b m s
  | .brk story repeats urgency => takeBreak b ⟨story, urgency, repeats⟩ s
  | .breakClear => takeBreakClear b s

/-- R106, R170: the answer of a request reaches its sender: the exchange that is still in EXECUTING enters STATUS READY,
a refused panel request raises COMMAND REFUSED with the band as source, and any other answer is lost. -/
def deliver (o : Origin) (b : Fin 4) (r : Result) (v : List Byte) (s : State) : State :=
  match o with
  | .panel => if r = .good then s else s.raise .commandRefused (.band b)
  | .editorial t =>
    if s.eli.phase = .executing ∧ s.eli.ticket = t then
      { s with eli := { s.eli with phase := .statusReady, status := some ⟨r, 0, v⟩ } }
    else s

/-- R106: one request is taken. -/
def takeRequest (sampled : Bool) (o : Origin) (b : Fin 4) (r : BandRequest) (s : State) : State :=
  let t := judgeRequest sampled b r s
  deliver o b t.1.1 t.1.2 t.2

/-- R106: requests are taken oldest first. -/
def takeRequests (sampled : Bool) (b : Fin 4) : List QueuedRequest → State → State
  | [], s => s
  | q :: t, s => takeRequests sampled b t (takeRequest sampled q.origin b q.request s)

/-- R106: the requests that stand in the queue are taken, and the queue is then empty. -/
def takeQueue (sampled : Bool) (b : Fin 4) (s : State) : State :=
  takeRequests sampled b (s.band b).queue (s.updBand b (fun d => { d with queue := [] }))

/-- R114, R140: the frame-start action of a band engine. -/
def bandFrameStart (sampled : Bool) (b : Fin 4) (s : State) : State :=
  let s' := takeQueue sampled b s
  if (s'.band b).prog.drawing then
    match (s'.band b).config with
    | none => s'
    | some c =>
      match c.presentation with
      | .crawl => crawlSteps c b s'
      | .flip => flipSteps c b s'
  else s'

/-! ### Joining the queue -/

/-- R105: a request joins a band's queue when it holds fewer than 8; the answer tells whether it did. -/
def joinQueue (b : Fin 4) (q : QueuedRequest) (s : State) : Bool × State :=
  if (s.band b).queue.length < Config.requestQueueSize then
    (true, s.updBand b (fun d => { d with queue := d.queue ++ [q] }))
  else (false, s)

def PanelRequest.toBand : PanelRequest → BandRequest
  | .takeOn fromTop => .takeOn fromTop
  | .takeOffDrain => .takeOffDrain
  | .takeOffCut => .takeOffCut
  | .halt => .halt
  | .resume => .resume
  | .nudge up => .nudge up

/-- R105: a panel request arrives; a full queue raises COMMAND REFUSED with the band as source. -/
def panelRequest (b : Fin 4) (r : BandRequest) (s : State) : State :=
  let t := joinQueue b ⟨.panel, r⟩ s
  if t.1 then t.2 else t.2.raise .commandRefused (.band b)

/-- R105, R178: a broadcast places one request in each band's queue, in band order. -/
def panelBroadcast (r : BandRequest) (s : State) : State :=
  panelRequest 3 r (panelRequest 2 r (panelRequest 1 r (panelRequest 0 r s)))

/-- R170: an editorial request joins the queue under the next ticket. -/
def editorialJoin (b : Fin 4) (r : BandRequest) (s : State) : Bool × State :=
  let t := joinQueue b ⟨.editorial (s.eli.ticket + 1), r⟩ s
  if t.1 then (true, { t.2 with eli := { t.2.eli with ticket := t.2.eli.ticket + 1 } }) else t

/-- R105, R127: the request that an editorial command carries, when its codes are values of theirs. CONFIGURE carries its
record in its data. -/
def EdRequestValue (r : EdRequest) : Option BandRequest :=
  match r with
  | .configure => none
  | .release => some .release
  | .takeOn fromTop => some (.takeOn fromTop)
  | .takeOff 0 => some .takeOffDrain
  | .takeOff 1 => some .takeOffCut
  | .takeOff _ => none
  | .halt => some .halt
  | .resume => some .resume
  | .setSpeed v => some (.setSpeed v)
  | .commit m => (commitModeOf m).map .commit
  | .brk story repeats urgency =>
    if story.index ≤ 255 ∧ 1 ≤ repeats ∧ repeats ≤ 15 then (urgencyOf urgency).map (.brk story repeats) else none
  | .breakClear => some .breakClear

/-- R92, R103, R105, R127: an editorial band request at its command phase. -/
def editorialRequest (band : Nat) (r : EdRequest) (dataLength : Nat) (s : State) : Reply × State :=
  match four band with
  | none => (badParam, s)
  | some b =>
    if r = .configure then
      if dataLength ≠ Config.configBytes then (badParam, s)
      else if Config.requestQueueSize ≤ (s.band b).queue.length then (.answer .busy noValues, s)
      else (.receive, s)
    else
      match EdRequestValue r with
      | none => (badParam, s)
      | some req =>
        let t := editorialJoin b req s
        if t.1 then (.wait, t.2) else (.answer .busy noValues, t.2)

/-! ### The rows taken at a frame start

Each takes one request from its sender in the band's present state (log entry 7). No request is taken while the device is
in reset (R106). -/

/-- R106: the taking of one request outside a frame start's own run of its queue. -/
def takeAlone (o : Origin) (b : Fin 4) (r : BandRequest) (s : State) : State :=
  if s.run = .running then takeRequest false o b r s else s

/-- Meaning of CONFIGURE (R103). -/
def execConfigure (ticket : Nat) (b : Fin 4) (c : ConfigRecord) (s : State) : Host.Outcome State Fault Refusal :=
  .next (takeAlone (.editorial ticket) b (.configure c) s)

/-- Meaning of RELEASE (R104). -/
def execRelease (ticket : Nat) (b : Fin 4) (s : State) : Host.Outcome State Fault Refusal :=
  .next (takeAlone (.editorial ticket) b .release s)

/-- Meaning of TAKE_ON (R108). -/
def execTakeOn (o : Origin) (b : Fin 4) (fromTop : Bool) (s : State) : Host.Outcome State Fault Refusal :=
  .next (takeAlone o b (.takeOn fromTop) s)

/-- Meaning of TAKE_OFF_DRAIN (R109, R136, R148). -/
def execTakeOffDrain (o : Origin) (b : Fin 4) (s : State) : Host.Outcome State Fault Refusal :=
  .next (takeAlone o b .takeOffDrain s)

/-- Meaning of TAKE_OFF_CUT (R110, R137, R149). -/
def execTakeOffCut (o : Origin) (b : Fin 4) (s : State) : Host.Outcome State Fault Refusal :=
  .next (takeAlone o b .takeOffCut s)

/-- Meaning of HALT (R111). -/
def execHalt (o : Origin) (b : Fin 4) (s : State) : Host.Outcome State Fault Refusal :=
  .next (takeAlone o b .halt s)

/-- Meaning of RESUME (R111). -/
def execResume (o : Origin) (b : Fin 4) (s : State) : Host.Outcome State Fault Refusal :=
  .next (takeAlone o b .resume s)

/-- Meaning of SET_SPEED (R112). -/
def execSetSpeed (ticket : Nat) (b : Fin 4) (v : Nat) (s : State) : Host.Outcome State Fault Refusal :=
  .next (takeAlone (.editorial ticket) b (.setSpeed v) s)

/-- Meaning of NUDGE (R112). -/
def execNudge (b : Fin 4) (up : Bool) (s : State) : Host.Outcome State Fault Refusal :=
  .next (takeAlone .panel b (.nudge up) s)

/-- Meaning of COMMIT (R93). -/
def execCommit (ticket : Nat) (b : Fin 4) (m : CommitMode) (s : State) : Host.Outcome State Fault Refusal :=
  .next (takeAlone (.editorial ticket) b (.commit m) s)

/-- Meaning of BREAK_NEXT (R127, R128). -/
def execBreakNext (ticket : Nat) (b : Fin 4) (story : Ref) (repeats : Nat) (s : State) :
    Host.Outcome State Fault Refusal :=
  .next (takeAlone (.editorial ticket) b (.brk story repeats .next) s)

/-- Meaning of BREAK_NOW (R127, R128). -/
def execBreakNow (ticket : Nat) (b : Fin 4) (story : Ref) (repeats : Nat) (s : State) :
    Host.Outcome State Fault Refusal :=
  .next (takeAlone (.editorial ticket) b (.brk story repeats .now) s)

/-- Meaning of BREAK_CLEAR (R135). -/
def execBreakClear (ticket : Nat) (b : Fin 4) (s : State) : Host.Outcome State Fault Refusal :=
  .next (takeAlone (.editorial ticket) b .breakClear s)

/-- A panel request is taken from the bus from INIT DONE on (R177). -/
def whenRunning (f : State → State) (s : State) : State := if s.run = .running then f s else s

/-- Meaning of ALL_TAKE_OFF (R105, R178). -/
def execAllTakeOff (cut : Bool) (s : State) : Host.Outcome State Fault Refusal :=
  .next (whenRunning (panelBroadcast (if cut then .takeOffCut else .takeOffDrain)) s)

/-- Meaning of ALL_HALT (R105, R178). -/
def execAllHalt (s : State) : Host.Outcome State Fault Refusal := .next (whenRunning (panelBroadcast .halt) s)

/-- Meaning of ALL_RESUME (R105, R178). -/
def execAllResume (s : State) : Host.Outcome State Fault Refusal := .next (whenRunning (panelBroadcast .resume) s)

end Sys2Proof.Machine
end

