-- ==== Sys2Proof/Machine/Compositor.lean ====
section
/-! DEFINITION. The compositor's visibility and clean acknowledge, and the output pins (R159 to R165). -/

namespace Sys2Proof.Machine

/-- R160: one step of a band's visibility; `full` is the step of a shown band. -/
def moveVisibility (clean : Bool) (full : Nat) (v : Visibility) : Visibility :=
  let down : Visibility := if v.step ≤ 1 then ⟨.hidden, 0⟩ else ⟨.fadingOut, v.step - 1⟩
  let up : Visibility := if full ≤ v.step + 1 then ⟨.shown, full⟩ else ⟨.fadingIn, v.step + 1⟩
  match v.state, clean with
  | .shown, true => down
  | .shown, false => v
  | .fadingOut, true => down
  | .fadingOut, false => up
  | .hidden, true => v
  | .hidden, false => up
  | .fadingIn, true => down
  | .fadingIn, false => up

/-- R160: the visibility of one band moves at a frame start when the band is in a drawing state. -/
def moveBand (clean : Bool) (b : Fin 4) (s : State) : State :=
  match (s.band b).config with
  | none => s
  | some c => if (s.band b).prog.drawing then s.setVis b (moveVisibility clean (fullStep c.fade) (s.vis b)) else s

/-- R162: every band is HIDDEN or not in a drawing state. -/
def State.allHidden (s : State) : Bool :=
  (List.finRange 4).all (fun b => !(s.band b).prog.drawing || decide ((s.vis b).state = .hidden))

/-- R162: the acknowledge is judged by the request sampled. -/
def judgeAck (clean : Bool) (s : State) : State :=
  if !clean then { s with cmp := { s.cmp with ack := false } }
  else if s.allHidden then { s with cmp := { s.cmp with ack := true } }
  else s

/-- R159, R160, R162: the frame-start action of the compositor. -/
def compositorFrameStart (s : State) : State :=
  let clean := s.cleanRequested
  let s' : State := { s with cmp := { s.cmp with sampled := clean } }
  judgeAck clean (moveBand clean 3 (moveBand clean 2 (moveBand clean 1 (moveBand clean 0 s'))))

/-- Meaning of CLEAN_REQUEST (R159): the pin takes a level. -/
def execCleanRequest (level : Bool) (s : State) : Host.Outcome State Fault Refusal := .next { s with cleanPin := level }

/-- Meaning of FADE_OUT_COMPLETE (R160): a FADING OUT band whose step reaches 0 becomes HIDDEN. By itself the row does
not test the clean request: it moves the band as a frame start does that samples clean as requested, even where the compositor's
action would sample it as not requested and give FADING IN. For any other band there is no such event, and nothing changes.
Both are the model's choice (DESIGN CHOICE, log entry 6). -/
def execFadeOutComplete (b : Fin 4) (s : State) : Host.Outcome State Fault Refusal :=
  .next (if (s.band b).prog.drawing ∧ (s.vis b).state = .fadingOut ∧ (s.vis b).step ≤ 1 then moveBand true b s else s)

/-- Meaning of FADE_IN_COMPLETE (R160): a FADING IN band whose step reaches F becomes SHOWN. By itself the row does not
test the clean request: it moves the band as a frame start does that samples clean as not requested, even where the compositor's
action would sample it as requested and give FADING OUT. For any other band there is no such event, and nothing changes. Both
are the model's choice (DESIGN CHOICE, log entry 6). -/
def execFadeInComplete (b : Fin 4) (s : State) : Host.Outcome State Fault Refusal :=
  .next
    (match (s.band b).config with
     | none => s
     | some c =>
       if (s.band b).prog.drawing ∧ (s.vis b).state = .fadingIn ∧ fullStep c.fade ≤ (s.vis b).step + 1 then
         moveBand false b s
       else s)

/-- R159: a soft-clean flag takes the value set or clear. -/
def writeSoftClean (panel : Bool) (v : Bool) (s : State) : State :=
  if panel then { s with cmp := { s.cmp with panelFlag := v } } else { s with cmp := { s.cmp with edFlag := v } }

/-- R159: SOFT CLEAN from the editorial master. -/
def editorialSoftClean (value : Nat) (s : State) : Reply × State :=
  match yesNoOf value with
  | none => (badParam, s)
  | some v => (good, writeSoftClean false v s)

/-- R159: SOFT CLEAN from the panel master. -/
def panelSoftClean (value : Nat) (s : State) : State :=
  match yesNoOf value with
  | none => s.raise .commandRefused (.master .panel)
  | some v => writeSoftClean true v s

/-- R164: SET PIN. -/
def setPin (pin mode select level : Nat) (s : State) : Reply × State :=
  match four pin, yesNoOf mode, pinSelectOf select, yesNoOf level with
  | some n, some m, some f, some l => (good, { s with pins := tset s.pins n ⟨m, f, l⟩ })
  | _, _, _, _ => (badParam, s)

/-- R187: SET LEVELS. -/
def setLevels (master : Nat) (levels : List Nat) (s : State) : Reply × State :=
  match masterOf master with
  | none => (badParam, s)
  | some m =>
    if h : levels.length = 16 then
      if levels.all (fun l => decide (l ≤ 7)) then
        (good, s.updMaster m (fun t => { t with levels := ⟨levels.toArray, by simpa using h⟩ }))
      else (badParam, s)
    else (badParam, s)

/-- R187: a master's own threshold is stored. -/
def storeThreshold (m : Master) (v : Nat) (s : State) : State := s.updMaster m (fun t => { t with threshold := v })

/-- R187: SET THRESHOLD from the editorial master. -/
def editorialThreshold (v : Nat) (s : State) : Reply × State :=
  if v ≤ 7 then (good, storeThreshold .editorial v s) else (badParam, s)

/-- R187: SET THRESHOLD from the panel master. -/
def panelThreshold (v : Nat) (s : State) : State :=
  if v ≤ 7 then storeThreshold .panel v s else s.raise .commandRefused (.master .panel)

end Sys2Proof.Machine
end

