-- ==== Sys2Proof/Machine/Reports.lean ====
section
/-! DEFINITION. The reports of the editorial reads, the status block and the panel status block, as bytes (R183, R184). -/

namespace Sys2Proof.Machine

/-! ### Coded fields -/

def QuoteState.code : QuoteState → Nat
  | .free => 0
  | .live => 1
  | .retiring => 2

def Sign.code : Sign → Nat
  | .zero => 0
  | .plus => 1
  | .minus => 2

def Tick.code : Tick → Nat
  | .none => 0
  | .up => 1
  | .down => 2

def StoryState.code : StoryState → Nat
  | .free => 0
  | .loaded => 1
  | .deleting => 2

def CommitMode.code : CommitMode → Nat
  | .immediate => 1
  | .loopEnd => 2

def PagePhase.code : PagePhase → Nat
  | .empty => 0
  | .holding => 1
  | .rolling => 2
  | .leaving => 3

/-- R181: a mantissa or a change, absent as 80000000h. -/
def optMantissa (z : Option Int) : List Byte := bytesOfInt 4 (z.getD (-2147483648))

/-- R181: a percent, absent as 800000h. -/
def optPercent (z : Option Int) : List Byte := bytesOfInt 3 (z.getD (-8388608))

/-! ### Positions of a read -/

/-- R172: the position of report `k` in a read of `n` positions that wrap. -/
def stepPosition (n start direction k : Nat) : Nat :=
  match direction with
  | 0 => (start + k) % n
  | 1 => (start + n - k % n) % n
  | _ => start

/-! ### Reports -/

/-- R23, R183: a quote snapshot. The lane field of a record without a lane (a FREE record) carries 0: the model's choice (log
entry 24). -/
def quoteBytes (q : Quote) : List Byte :=
  let symbol := q.symbol.getD []
  [byteOf (q.state.code + 16 * symbol.length)] ++ bytesOf 2 q.gen ++ symbol ++ List.replicate (8 - symbol.length) 0 ++
    [byteOf (16 * q.scale + q.decimals), byteOf ((q.lane.map laneNumber).getD 0 + 16 * q.dispSource.code),
      byteOf (bit q.dispHalted + 2 * bit q.stale + 4 * bit q.dirty + 16 * q.netSign.code + 64 * q.tick.code),
      byteOf q.flash] ++
    bytesOf 2 q.count ++ optMantissa q.dispLast ++ optMantissa q.dispRef ++ optMantissa q.change ++ optPercent q.percent

/-- R64, R183: a lane report. -/
def laneBytes (n : Fin 4) (l : Lane) : List Byte :=
  [byteOf (laneNumber n), byteOf (bit l.active), byteOf (bit l.held)] ++ bytesOf 2 l.counter ++ bytesOf 2 l.limit ++
    bytesOf 2 l.queue.length

/-- R64, R183: the link report. -/
def linkBytes (s : State) : List Byte :=
  [byteOf (bit s.fli.fault), byteOf s.fli.bad, byteOf (laneNumber s.uePointer)]

/-- R73, R183: a story report. -/
def storyBytes (id : Nat) (st : Story) : List Byte :=
  [byteOf id, byteOf st.state.code] ++ bytesOf 2 st.gen ++ bytesOf 2 st.length ++ [byteOf st.blocks.length] ++
    bytesOf 2 st.count

/-- R73, R183: the pool report. -/
def poolBytes (s : State) : List Byte :=
  bytesOf 2 s.ts.freeBlocks.length ++ bytesOf 2 ((tlist s.ts.stories).filter (fun st => decide (st.state = .free))).length

/-- R79, R183: the face report. -/
def faceBytes (s : State) (f : Fin 4) : List Byte :=
  [byteOf (bit (s.face f).loaded)] ++ bytesOf 2 (s.face f).lineHeight ++ bytesOf 2 (s.face f).baseline ++
    bytesOf 2 (s.face f).substitute ++ bytesOf 2 ((tlist (s.face f).glyphs).filter Glyph.present).length ++
    [byteOf (bit (s.drawingUse f) + 2 * bit (s.configuredUse f))]

/-- R74, R79: the glyph record of a code of a face. -/
def glyphRecord (f : Face) (code : Nat) : Glyph := if h : code < 1024 then tget f.glyphs ⟨code, h⟩ else Glyph.absent

/-- R84: bank A (0) or bank B (1), by letter. -/
def RunLists.bank (r : RunLists) (bank : Nat) : List Item := if bank = 0 then r.bankA else r.bankB

/-- R99, R183: the bank report. -/
def bankBytes (s : State) (b : Fin 4) (bank : Nat) : List Byte :=
  let r := s.lists b
  [byteOf bank] ++ bytesOf 2 (r.bank bank).length ++
    [byteOf (bit (r.onAirB == (bank == 1))), byteOf ((r.commit.map CommitMode.code).getD 0), byteOf (s.band b).cursor]

/-- R99, R183: an item report. An empty position carries an entry of zeros (R181). -/
def itemReport (position : Nat) (i : Option Item) : List Byte :=
  match i with
  | some i => [byteOf position, 1] ++ itemBytes i
  | none => [byteOf position, 0] ++ List.replicate 9 0

/-- R123, R183: the band report, with the effective target to report. -/
def bandBytes (s : State) (b : Fin 4) (target : Nat) : List Byte :=
  let d := s.band b
  (d.config.map configBytes).getD (List.replicate Config.configBytes 0) ++
    [byteOf (bit d.config.isSome), byteOf d.prog.code, byteOf (bit d.halted)] ++ bytesOf 2 d.speed ++ bytesOf 2 target ++
    [byteOf d.motionCode, byteOf d.cursor, byteOf d.window.length, byteOf (bit d.deferral), byteOf d.queue.length,
      byteOf d.breaks.length] ++ bytesOf 2 (d.saved.getD 0xFFFF) ++
    [byteOf d.page.phase.code] ++ bytesOf 2 d.page.hold ++
    [byteOf d.page.roll, byteOf d.page.outgoing, byteOf (s.vis b).state.code, byteOf (s.vis b).step,
      byteOf (bit (s.tally b))]

/-- R113, R123: the effective target that READ BAND reports. R113 gives it for a CRAWL band; for any other band it is a
free value (log entry 10). -/
def State.reportedTarget (s : State) (b : Fin 4) : Nat :=
  match (s.band b).config with
  | none => Config.reportedTarget s.freeIndex
  | some c =>
    match c.presentation with
    | .crawl => (s.band b).effectiveTarget c
    | .flip => Config.reportedTarget s.freeIndex

/-- The kind code and the reference of an instance (R124, R183). -/
def InstKind.report : InstKind → Nat × Nat × Nat
  | .quote r => (1, r.index, r.gen)
  | .story r => (2, r.index, r.gen)
  | .glyph c => (3, c, 0)
  | .spacer => (4, 0, 0)

/-- R124, R183: an instance report. Flags bit 0 is the break mark and bit 1 the presence of a colour (log entry 18). An
empty position carries zeros (R181). -/
def instReport (position : Nat) (i : Option Inst) : List Byte :=
  match i with
  | none => [byteOf position, 0] ++ List.replicate 23 0
  | some i =>
    let k := i.kind.report
    [byteOf position, 1, byteOf k.1, byteOf (bit i.brk + 2 * bit i.colour.isSome)] ++ bytesOf 2 k.2.1 ++ bytesOf 2 k.2.2 ++
      bytesOfInt 4 i.x ++ bytesOfInt 4 (i.x / 256) ++ bytesOf 4 i.slot ++ bytesOf 2 i.gap ++
      [byteOf (i.colour.getD 0)] ++ bytesOfInt 2 i.voffset

/-- R166, R183: the output report. -/
def outputBytes (s : State) : List Byte :=
  [byteOf s.tu.lock.code] ++ bytesOf 2 s.periodMicros ++
    [byteOf (bit s.cleanPin), byteOf (bit s.cmp.edFlag), byteOf (bit s.cmp.panelFlag), byteOf (bit s.cmp.sampled),
      byteOf (bit s.cmp.ack)] ++
    (List.finRange 4).flatMap (fun b => [byteOf (s.vis b).state.code, byteOf (s.vis b).step, byteOf (bit (s.tally b))]) ++
    (List.finRange 4).flatMap (fun n => [byteOf (bit (s.pin n).function), byteOf (s.pin n).select.code,
      byteOf (bit (s.pin n).level), byteOf (bit (s.driven n))])

/-- R183: an event slot. -/
def eventBytes (e : Event) : List Byte := [byteOf e.kind.number.val, byteOf e.source.code]

/-- R190: the report of READ EVENTS from the latched pairs. -/
def eventsBytes (l : List Event) : List Byte :=
  byteOf l.length :: (l.flatMap eventBytes ++ List.replicate (128 - 2 * l.length) 0xFF)

/-- R172, R183: report `k` of a read, as the state stands when its first byte is sent. -/
def report (c : EdCommand) (k : Nat) (s : State) : List Byte :=
  match c with
  | .readQuotes start _ d => ((s.quoteAt (stepPosition 1024 start d k)).map quoteBytes).getD []
  | .readLanes =>
    match four k with
    | some n => laneBytes n (s.lane n)
    | none => linkBytes s
  | .readStories start count =>
    if k < count then
      let id := stepPosition 256 start 0 k
      ((s.storyAt id).map (storyBytes id)).getD []
    else poolBytes s
  | .readFace face start _ =>
    match four face with
    | none => []
    | some f =>
      if k = 0 then faceBytes s f
      else
        let code := stepPosition 1024 start 0 (k - 1)
        glyphBytes code (glyphRecord (s.face f) code)
  | .readRunList band bank start _ d =>
    match four band with
    | none => []
    | some b =>
      if k = 0 then bankBytes s b bank
      else
        let position := stepPosition 256 start d (k - 1)
        itemReport position ((s.lists b).bank bank)[position]?
  | .readBand band =>
    match four band with
    | none => []
    | some b => bandBytes s b (s.reportedTarget b)
  | .readWindow band =>
    match four band with
    | none => []
    | some b =>
      if k = 0 then [byteOf (s.band b).window.length] else instReport (k - 1) (s.band b).window[k - 1]?
  | .readOutput => outputBytes s
  | .readEvents => eventsBytes (s.au.editorial.latch.getD [])
  | .defineQuote _ => []
  | .retireQuote _ => []
  | .setSource _ _ => []
  | .setReference _ _ _ _ => []
  | .setFlash _ => []
  | .laneHold _ => []
  | .laneRelease _ => []
  | .laneFlush _ => []
  | .linkRelease => []
  | .setSilenceLimit _ _ => []
  | .loadStory => []
  | .deleteStory _ => []
  | .loadFace _ => []
  | .unloadFace _ => []
  | .loadImages _ => []
  | .edit _ _ _ _ => []
  | .copyBank _ => []
  | .request _ _ => []
  | .softClean _ => []
  | .setPin _ _ _ _ => []
  | .setLevels _ _ => []
  | .setThreshold _ => []
  | .deviceReset => []

/-! ### Status blocks -/

/-- R173, R183: the editorial status block. -/
def statusBlock (tag : Byte) (r : Result) (residue : Nat) (values : List Byte) : List Byte :=
  [0x53, tag, byteOf r.code] ++ bytesOf 4 residue ++ values

/-- R184: the byte of one band. -/
def bandByte (s : State) (b : Fin 4) : Byte :=
  byteOf ((s.band b).prog.code + 8 * (s.band b).motionCode + 32 * (s.vis b).state.code + 128 * bit (s.tally b))

/-- R184: the panel status block, with the latched pairs of the panel's set. -/
def panelBlock (s : State) (latched : List Event) : List Byte :=
  [byteOf (1 + 2 * bit (s.attention .panel) + 4 * bit s.cmp.sampled + 8 * bit s.cmp.ack + 16 * bit s.fli.fault +
      32 * s.tu.lock.code)] ++
    (List.finRange 4).map (bandByte s) ++ [byteOf s.laneBits] ++ bytesOf 2 (kindBits latched)

end Sys2Proof.Machine
end

