-- ==== Sys2Proof/Machine/Startup.lean ====
section
/-! DEFINITION. Power-on, the RESET pin, the end of initialisation and the device reset (R191, R192). -/

namespace Sys2Proof.Machine

/-- Meaning of POWER_ON (R191): the straps are sampled, every block has its power-on values, and the initialisation
period runs. An editorial frame whose select went low before is still in progress when ED SEL is low (R169, log entry 36). -/
def execPowerOn (levels : ReleaseLevels) (time : Nat) (s : State) : Host.Outcome State Fault Refusal :=
  .next { State.powerOnValues .initialising levels.straps time s.cleanPin s.freeIndex s.pending with
    eli := { Eli.reset with straddles := levels.selected } }

/-- Meaning of RESET_ASSERTED (R191): every block is held at its power-on values. The straps sampled hold until the next
power-on. -/
def execResetAsserted (s : State) : Host.Outcome State Fault Refusal :=
  .next (State.powerOnValues .held s.straps s.tu.lastFrame s.cleanPin s.freeIndex s.pending)

/-- R191: the initialisation period ends and INIT DONE is raised. -/
def endInitialisation (s : State) : State :=
  if s.run = .initialising then ({ s with run := .running }).raise .initDone .none else s

/-- Meaning of INIT_DONE (R191). Outside an initialisation period there is no such event, and nothing changes. -/
def execInitDone (s : State) : Host.Outcome State Fault Refusal := .next (endInitialisation s)

/-- R168: a device reset abandons a feed status record, and reply bytes still waiting are sent. -/
def keptReplies (tx : List TxItem) : List TxItem :=
  tx.filter (fun i => match i with
    | .reply _ => true
    | .record _ _ => false)

/-- R192: every block takes its device-reset values, and the initialisation period follows. The straps are not sampled
again, the glyph store keeps its faces and glyph memory (R83), the timing unit keeps its lock state and the time of its last
frame start (R151), and the framing state of the feed link stays (R167). -/
def deviceReset (s : State) : State :=
  { State.powerOnValues .initialising s.straps s.tu.lastFrame s.cleanPin s.freeIndex s.pending with
    tu := s.tu
    fli := { Fli.reset with rx := s.fli.rx, tx := keptReplies s.fli.tx, txOut := s.fli.txOut }
    ts := TextStore.reset s.ts.text
    gs := { s.gs with staging := [] }
    eli := s.eli.toIdle
    frames := s.frames }

/-- Meaning of DEVICE_RESET_START (R176, R192). By itself the row begins the reset in every running state, whatever the
editorial link holds: the model's choice (log entry 32); the status read of a DEVICE RESET begins it by the same operation.
While the device is in reset there is no such event, and nothing changes. -/
def execDeviceResetStart (s : State) : Host.Outcome State Fault Refusal :=
  .next (if s.run = .running then deviceReset s else s)

end Sys2Proof.Machine
end

