-- ==== Sys2Proof/Machine/Editorial.lean ====
section
/-! DEFINITION. The editorial link interface: its phases and frames (R169 to R176), and the meanings of the rows that
reach the device through it. -/

namespace Sys2Proof.Machine

/-! ### The link's own fields -/

def State.updEli (s : State) (f : Eli → Eli) : State := { s with eli := f s.eli }

/-- R169: the bytes driven on ED DOUT in a frame: 00h in the kind byte, then `bytes`. -/
def drive (bytes : List Byte) (s : State) : State := s.updEli (fun e => { e with dout := 0 :: bytes })

/-- R169: 00h in a frame of `n` bytes after the kind byte. -/
def driveZeros (n : Nat) (s : State) : State := drive (List.replicate n 0) s

/-- R173: a block sent from its first byte in a frame that clocks `n` bytes, and 00h after its end (R169). -/
def driveBlock (block : List Byte) (n : Nat) (s : State) : State :=
  drive (block.take n ++ List.replicate (n - block.length) 0) s

/-- R171 to R173: the status stands, and the link is in STATUS READY. -/
def finish (st : Status) (s : State) : State :=
  s.updEli (fun e => { e with phase := .statusReady, status := some st })

def enterPhase (p : EdPhase) (s : State) : State := s.updEli (fun e => { e with phase := p })

/-! ### Phase errors and link resets -/

/-- R20, R70, R76, R77, R90, R103: a data phase is abandoned without effect, but for the bytes already written. -/
def dropData (s : State) : State :=
  { s with
    ts := { s.ts with loadTarget := none }
    gs := { s.gs with staging := [] }
    editStaging := [] }

/-- R189, R190: a READ EVENTS that has begun ends incomplete. -/
def abandonEvents (s : State) : State :=
  if s.eli.command = some .readEvents ∧ s.au.editorial.latch.isSome then s.updMaster .editorial MasterSet.abandonRead else s

/-- R175, R176: what was in flight is settled by the phase left. -/
def abandon (s : State) : State :=
  match s.eli.phase with
  | .dataOut => dropData s
  | .dataIn => abandonEvents s
  | .idle => s
  | .executing => s
  | .statusReady => s
  | .phaseError => s

/-- R170, R175: a command is in flight: in IDLE there is none, and a COMMAND frame answered LENGTH ERROR ran none. -/
def Eli.inFlight (e : Eli) : Bool :=
  match e.phase with
  | .idle => false
  | .statusReady => !e.status.any (fun st => decide (st.result = .lengthError))
  | .dataOut => true
  | .dataIn => true
  | .executing => true
  | .phaseError => true

/-- R175: the link in PHASE ERROR; tag, data length and counter of the command in flight are kept for the block that a
STATUS frame returns, and are 0 when there is none. -/
def Eli.toPhaseError (e : Eli) : Eli :=
  { phase := .phaseError, tag := if e.inFlight then e.tag else 0, command := none,
    dataLength := if e.inFlight then e.dataLength else 0, counter := if e.inFlight then e.counter else 0,
    data := [], reportNo := 0, latch := [], status := none, ticket := e.ticket, dout := e.dout,
    straddles := e.straddles }

/-- R175: a frame of the wrong kind, or an excess byte, enters PHASE ERROR; in PHASE ERROR it is ignored. -/
def phaseError (s : State) : State :=
  if s.eli.phase = .phaseError then s else (abandon s).updEli Eli.toPhaseError

/-- R176: a LINK RESET. -/
def resetLink (s : State) : State := (abandon s).updEli Eli.toIdle

/-! ### The command phase -/

/-- R170: the command phase of a command that passed the block checks, by the block that owns it. -/
def commandPhase (c : EdCommand) (dataLength : Nat) (s : State) : Reply × State :=
  match c with
  | .defineQuote a => defineQuote a s
  | .retireQuote r => retireQuote r s
  | .setSource r source => setSource r source dataLength s
  | .setReference r remove scale mantissa => setReference r remove scale mantissa s
  | .setFlash v => setFlash v s
  | .readQuotes _ _ _ => (.send, s)
  | .laneHold lane => laneCommand lane holdLane s
  | .laneRelease lane => laneCommand lane releaseLane s
  | .laneFlush lane => laneCommand lane flushLane s
  | .linkRelease => (good, releaseLink s)
  | .setSilenceLimit lane limit => setSilenceLimit lane limit s
  | .readLanes => (.send, s)
  | .loadStory => loadStory dataLength s
  | .deleteStory r => deleteStory r s
  | .readStories _ _ => (.send, s)
  | .loadFace a => loadFace a dataLength s
  | .unloadFace face => unloadFace face s
  | .loadImages offset => loadImages offset dataLength s
  | .readFace _ _ _ => (.send, s)
  | .edit band op pos count => editRunList band op pos count dataLength s
  | .copyBank band => copyBank band s
  | .readRunList _ _ _ _ _ => (.send, s)
  | .request band r => editorialRequest band r dataLength s
  | .readBand _ => (.send, s)
  | .readWindow _ => (.send, s)
  | .softClean v => editorialSoftClean v s
  | .setPin pin mode select level => setPin pin mode select level s
  | .readOutput => (.send, s)
  | .setLevels master levels => setLevels master levels s
  | .setThreshold v => editorialThreshold v s
  | .readEvents => (.send, s)
  | .deviceReset => (good, s)

/-- R103: a CONFIGURE whose record has arrived joins its queue, or is refused with BUSY. -/
def completeConfigure (band : Nat) (s : State) : State :=
  match four band with
  | none => finish ⟨.badParam, 0, noValues⟩ s
  | some b =>
    let t := editorialJoin b (.configure (configOf s.eli.data)) s
    if t.1 then enterPhase .executing t.2 else finish ⟨.busy, 0, noValues⟩ t.2

/-- R171: the data phase is complete, and the command is handed to its owner's completion rule (R11, R70, R76, R77, R88,
R103). -/
def completeData (c : EdCommand) (s : State) : State :=
  match c with
  | .setSource r source =>
    let t := applySource r ((sourceOf source).getD .live) s.eli.data s
    finish ⟨t.1, 0, noValues⟩ t.2
  | .loadStory =>
    let t := completeStory s.eli.dataLength s
    finish t.1 t.2
  | .loadFace a =>
    let t := completeFace a s
    finish ⟨t.1, 0, noValues⟩ t.2
  | .edit band op pos count =>
    let t := completeEdit band op pos count s
    finish t.1 t.2
  | .request band _ => completeConfigure band s
  | _ => finish ⟨.good, 0, noValues⟩ s

/-- R170: the outcome of a command phase sets the next phase. A data phase of length 0 is complete at once. -/
def settle (c : EdCommand) (dataLength : Nat) (t : Reply × State) : State :=
  match t.1 with
  | .answer r values => finish ⟨r, dataLength, values⟩ t.2
  | .receive => if dataLength = 0 then completeData c t.2 else enterPhase .dataOut t.2
  | .send => enterPhase .dataIn t.2
  | .wait => enterPhase .executing t.2

/-- R170: a command block is taken: its tag, command and data length are held, the counters are 0. -/
def takeBlock (tag : Byte) (c : Option EdCommand) (dataLength : Nat) (s : State) : State :=
  s.updEli (fun e =>
    { phase := .idle, tag := tag, command := c, dataLength := dataLength, counter := 0, data := [], reportNo := 0,
      latch := [], status := none, ticket := e.ticket, dout := e.dout, straddles := e.straddles })

/-- R170: a command whose block passed checks 1 to 3 is judged by checks 4 and 5 and by its owner. -/
def runCommand (h : EdHeader) (c : EdCommand) (s : State) : State :=
  let s' := takeBlock h.tag (some c) h.dataLength s
  if lengthOk c h.dataLength then settle c h.dataLength (commandPhase c h.dataLength s')
  else finish ⟨.badParam, h.dataLength, noValues⟩ s'

/-- R169: ED SEL goes high, and a frame that began before RESET was released is over. -/
def deselect (s : State) : State := s.updEli (fun e => { e with straddles := false })

/-- R169, R191: a frame of `n` bytes after the first: nothing happens while the RESET pin is held; a frame whose select went low
before RESET was released is ignored with 00h on ED DOUT, and its end ends it; every other frame acts by `f`. -/
def inFrame (n : Nat) (f : State → State) (s : State) : State :=
  if s.run = .held then s else if s.eli.straddles then deselect (driveZeros n s) else f s

/-- R174, R176: a frame by the phase: 00h is driven and the frame is ignored during initialisation, and from INIT DONE on `f` acts
in the phase given and the frame is of the wrong kind in every other. -/
def inPhase (p : EdPhase) (n : Nat) (f : State → State) (s : State) : State :=
  inFrame n (fun s =>
    if s.run = .initialising then driveZeros n s
    else if s.eli.phase = p then f (driveZeros n s)
    else phaseError (driveZeros n s)) s

/-- R169, R170: bytes of a command block. -/
def blockBytes : Nat := 24

/-- A command of the catalogue arrives in a COMMAND frame of 24 bytes. -/
def edCommand (h : EdHeader) (c : EdCommand) (s : State) : State := inPhase .idle blockBytes (runCommand h c) s

/-- R170: the bytes of a COMMAND frame taken in IDLE. -/
def judgeBlock (bytes : List Byte) (s : State) : State :=
  if bytes.length = blockBytes then
    match blockCommand bytes with
    | some c => runCommand (headerOf bytes) c s
    | none =>
      finish ⟨.badParam, (headerOf bytes).dataLength, noValues⟩
        (takeBlock (headerOf bytes).tag none (headerOf bytes).dataLength s)
  else finish ⟨.lengthError, 0, noValues⟩ (takeBlock (byteAt bytes 1) none 0 s)

/-- A COMMAND frame with these bytes after its kind byte. -/
def commandFrame (bytes : List Byte) (s : State) : State := inPhase .idle bytes.length (judgeBlock bytes) s

/-- Meaning of COMMAND_FRAME (R170). -/
def execCommandFrame (bytes : List Byte) (s : State) : Host.Outcome State Fault Refusal := .next (commandFrame bytes s)

/-! ### Data to the device -/

/-- R171: a byte of a command's data goes where its owner keeps it. -/
def storeByte (c : EdCommand) (k : Nat) (b : Byte) (s : State) : State :=
  match c with
  | .loadStory => writeStoryByte k b s
  | .loadFace _ => { s with gs := { s.gs with staging := s.gs.staging ++ [b] } }
  | .loadImages offset => writeImageByte (offset + k) b s
  | .edit _ _ _ _ => { s with editStaging := s.editStaging ++ [b] }
  | _ => s.updEli (fun e => { e with data := e.data ++ [b] })

/-- R171: the data counter counts a byte, and the data phase is complete at the data length. -/
def countByte (c : EdCommand) (s : State) : State :=
  let s' := s.updEli (fun e => { e with counter := e.counter + 1 })
  if s'.eli.dataLength ≤ s'.eli.counter then completeData c s' else s'

/-- R171: one byte of a DATA OUT frame: data in DATA-OUT, and an excess byte in every other phase. -/
def receiveByte (b : Byte) (s : State) : State :=
  match s.eli.phase, s.eli.command with
  | .dataOut, some c => countByte c (storeByte c s.eli.counter b s)
  | _, _ => phaseError s

/-- R171: the bytes of a DATA OUT frame. -/
def receiveBytes : List Byte → State → State
  | [], s => s
  | b :: t, s => receiveBytes t (receiveByte b s)

/-- R74, R77: the data in flight would reach outside glyph memory. -/
def imagesOutside (s : State) : Bool :=
  match s.eli.phase, s.eli.command with
  | .dataOut, some (.loadImages offset) => decide (Config.glyphBytes < offset + s.eli.dataLength)
  | _, _ => false

/-- A DATA OUT frame with these bytes after its kind byte. -/
def dataOut (bytes : List Byte) (s : State) : State := inPhase .dataOut bytes.length (receiveBytes bytes) s

/-- Meaning of DATA_OUT_FRAME (R171). -/
def execDataOutFrame (bytes : List Byte) (s : State) : Host.Outcome State Fault Refusal :=
  if imagesOutside s then .fault .glyphAddress else .next (dataOut bytes s)

/-! ### Data from the device -/

/-- R190: the first byte of READ EVENTS latches the editorial master's pending set. -/
def beginEvents (c : EdCommand) (s : State) : State :=
  if c = .readEvents then s.updMaster .editorial MasterSet.beginRead else s

/-- A report that carries a free value takes it. -/
def takeFree (c : EdCommand) (s : State) : State :=
  match c with
  | .readBand _ => s.bumpFree
  | _ => s

/-- R172: the next report is latched at the moment its first byte is sent. -/
def latchReport (c : EdCommand) (s : State) : State :=
  let s' := beginEvents c s
  takeFree c (s'.updEli (fun e => { e with latch := report c e.reportNo s', reportNo := e.reportNo + 1 }))

/-- R172, R189: the read is complete. -/
def completeRead (c : EdCommand) (s : State) : State :=
  finish ⟨.good, 0, noValues⟩ (if c = .readEvents then s.updMaster .editorial MasterSet.completeRead else s)

/-- R172: the next byte of a read, and 00h once the read is complete. -/
def sendByte (s : State) : Byte × State :=
  match s.eli.phase, s.eli.command with
  | .dataIn, some c =>
    let s' := if s.eli.latch = [] then latchReport c s else s
    let s'' := s'.updEli (fun e => { e with latch := e.latch.tail, counter := e.counter + 1 })
    (s'.eli.latch.headD 0, if s''.eli.dataLength ≤ s''.eli.counter then completeRead c s'' else s'')
  | _, _ => (0, s)

/-- R172: `n` bytes clocked in a DATA IN frame. -/
def sendBytes : Nat → State → List Byte × State
  | 0, s => ([], s)
  | n + 1, s =>
    let t := sendByte s
    let u := sendBytes n t.2
    (t.1 :: u.1, u.2)

/-- A DATA IN frame that clocks `n` bytes after its kind byte. -/
def dataIn (n : Nat) (s : State) : State :=
  inPhase .dataIn n (fun s => drive (sendBytes n s).1 (sendBytes n s).2) s

/-- Meaning of DATA_IN_FRAME (R172). -/
def execDataInFrame (n : Nat) (s : State) : Host.Outcome State Fault Refusal := .next (dataIn n s)

/-! ### Status -/

/-- R173: bytes of the status block. -/
def statusBytes : Nat := 12

/-- R173, R175: the block of PHASE ERROR. -/
def phaseErrorBlock (e : Eli) : List Byte := statusBlock e.tag .phaseError (e.dataLength - e.counter) noValues

/-- R173, R192: the twelfth byte of the status has been sent: the link is in IDLE, and a DEVICE RESET that was carried out
begins. -/
def consumeStatus (s : State) : State :=
  let s' := s.updEli Eli.toIdle
  if s.eli.command = some .deviceReset ∧ s.eli.status.map Status.result = some .good then deviceReset s' else s'

/-- R173: the status block of the command. -/
def commandBlock (e : Eli) : List Byte :=
  let st := e.status.getD ⟨.good, 0, noValues⟩
  statusBlock e.tag st.result st.residue st.values

/-- R169, R174, R175: a STATUS frame in a phase that it is of the wrong kind for enters PHASE ERROR at its kind byte, and
sends the block of PHASE ERROR from its second byte on, as it does in PHASE ERROR. -/
def strayStatus (n : Nat) (s : State) : State :=
  let s' := phaseError s
  driveBlock (phaseErrorBlock s'.eli) n s'

/-- R173, R174: a STATUS frame that clocks `n` bytes after its kind byte. -/
def statusFrame (n : Nat) (s : State) : State :=
  inFrame n (fun s =>
    if s.run = .initialising then driveBlock (statusBlock 0 .notReady 0 noValues) n s
    else
      match s.eli.phase with
      | .statusReady =>
        let s' := driveBlock (commandBlock s.eli) n s
        if statusBytes ≤ n then consumeStatus s' else s'
      | .executing => driveBlock (statusBlock s.eli.tag .pending 0 noValues) n s
      | .phaseError => strayStatus n s
      | .idle => strayStatus n s
      | .dataOut => strayStatus n s
      | .dataIn => strayStatus n s) s

/-- Meaning of STATUS_FRAME (R173). -/
def execStatusFrame (n : Nat) (s : State) : Host.Outcome State Fault Refusal := .next (statusFrame n s)

/-- R176: a LINK RESET frame. -/
def linkReset (s : State) : State := inFrame 0 (fun s => driveZeros 0 (resetLink s)) s

/-- Meaning of LINK_RESET (R176). -/
def execLinkReset (s : State) : Host.Outcome State Fault Refusal := .next (linkReset s)

/-! ### The frame by its kind byte -/

/-- R169, R174: a frame of unknown kind with `n` bytes after its kind byte: the wrong kind in every phase, ignored during
initialisation. -/
def unknownFrame (n : Nat) (s : State) : State :=
  inFrame n (fun s => if s.run = .initialising then driveZeros n s else phaseError (driveZeros n s)) s

/-- R169, R183: an editorial frame of these bytes, by the kind that its first byte names. A frame with no whole byte is
ignored, but that select goes high at its end. -/
def edFrame (bytes : List Byte) (s : State) : State :=
  match bytes with
  | [] => deselect s
  | kind :: rest =>
    match frameKindOf kind with
    | some .command => commandFrame rest s
    | some .dataOut => dataOut rest s
    | some .dataIn => dataIn rest.length s
    | some .status => statusFrame rest.length s
    | some .linkReset => linkReset s
    | none => unknownFrame rest.length s

/-- Meaning of FRAME_OF_UNKNOWN_KIND (R169, R174): a frame of this kind byte alone. -/
def execFrameOfUnknownKind (kind : Byte) (s : State) : Host.Outcome State Fault Refusal := .next (edFrame [kind] s)

/-! ### The rows that complete a data phase or a read

Each is the arrival or the sending of the last byte, in a frame of its own, when the command in flight is the row's; else
there is no such event, and nothing changes (log entry 23). -/

/-- R171: the next byte is the last of the data of a command that `p` accepts. -/
def lastByteDue (p : EdCommand → Bool) (s : State) : Bool :=
  decide (s.run = .running) && decide (s.eli.phase = .dataOut) && s.eli.command.any p &&
    decide (s.eli.counter + 1 = s.eli.dataLength)

/-- The last byte of the data of a command that `p` accepts arrives. -/
def lastByte (p : EdCommand → Bool) (b : Byte) (s : State) : State := if lastByteDue p s then dataOut [b] s else s

def EdCommand.isSetSource : EdCommand → Bool
  | .setSource _ _ => true
  | _ => false

def EdCommand.isLoadStory : EdCommand → Bool
  | .loadStory => true
  | _ => false

def EdCommand.isLoadFace : EdCommand → Bool
  | .loadFace _ => true
  | _ => false

def EdCommand.isLoadImages : EdCommand → Bool
  | .loadImages _ => true
  | _ => false

def EdCommand.isEdit : EdCommand → Bool
  | .edit _ _ _ _ => true
  | _ => false

/-- Meaning of SET_SOURCE_DATA_COMPLETE (R11). -/
def execSetSourceDataComplete (last : Byte) (s : State) : Host.Outcome State Fault Refusal :=
  .next (lastByte EdCommand.isSetSource last s)

/-- Meaning of LOAD_STORY_COMPLETE (R70). -/
def execLoadStoryComplete (last : Byte) (s : State) : Host.Outcome State Fault Refusal :=
  .next (lastByte EdCommand.isLoadStory last s)

/-- Meaning of LOAD_FACE_COMPLETE (R76). -/
def execLoadFaceComplete (last : Byte) (s : State) : Host.Outcome State Fault Refusal :=
  .next (lastByte EdCommand.isLoadFace last s)

/-- Meaning of LOAD_GLYPH_IMAGES_COMPLETE (R77). -/
def execLoadGlyphImagesComplete (last : Byte) (s : State) : Host.Outcome State Fault Refusal :=
  if imagesOutside s then .fault .glyphAddress else .next (lastByte EdCommand.isLoadImages last s)

/-- Meaning of EDIT_DATA_COMPLETE (R88). -/
def execEditDataComplete (last : Byte) (s : State) : Host.Outcome State Fault Refusal :=
  .next (lastByte EdCommand.isEdit last s)

/-- Meaning of READ_EVENTS_COMPLETE (R189, R190): the rest of READ EVENTS is clocked, up to its 129th byte. -/
def execReadEventsComplete (s : State) : Host.Outcome State Fault Refusal :=
  .next
    (if s.run = .running ∧ s.eli.phase = .dataIn ∧ s.eli.command = some .readEvents then
      dataIn (s.eli.dataLength - s.eli.counter) s
     else s)

/-! ### The commands of the catalogue -/

/-- Meaning of DEFINE_QUOTE (R5, R6). -/
def execDefineQuote (h : EdHeader) (a : DefineArgs) (s : State) : Host.Outcome State Fault Refusal :=
  .next (edCommand h (.defineQuote a) s)

/-- Meaning of RETIRE_QUOTE (R7). -/
def execRetireQuote (h : EdHeader) (r : Ref) (s : State) : Host.Outcome State Fault Refusal :=
  .next (edCommand h (.retireQuote r) s)

/-- Meaning of SET_SOURCE (R11). -/
def execSetSource (h : EdHeader) (r : Ref) (source : Nat) (s : State) : Host.Outcome State Fault Refusal :=
  .next (edCommand h (.setSource r source) s)

/-- Meaning of SET_REFERENCE (R12). -/
def execSetReference (h : EdHeader) (r : Ref) (remove : Bool) (scale : Nat) (mantissa : Int) (s : State) :
    Host.Outcome State Fault Refusal :=
  .next (edCommand h (.setReference r remove scale mantissa) s)

/-- Meaning of SET_FLASH (R18). -/
def execSetFlash (h : EdHeader) (value : Nat) (s : State) : Host.Outcome State Fault Refusal :=
  .next (edCommand h (.setFlash value) s)

/-- Meaning of READ_QUOTES (R23). -/
def execReadQuotes (h : EdHeader) (start count direction : Nat) (s : State) : Host.Outcome State Fault Refusal :=
  .next (edCommand h (.readQuotes start count direction) s)

/-- Meaning of LANE_HOLD (R52, R63). -/
def execLaneHold (via : Via) (lane : Nat) (s : State) : Host.Outcome State Fault Refusal :=
  match via with
  | .editorial h => .next (edCommand h (.laneHold lane) s)
  | .panel => .next (whenRunning (panelLaneCommand lane holdLane) s)

/-- Meaning of LANE_RELEASE (R52, R63). -/
def execLaneRelease (via : Via) (lane : Nat) (s : State) : Host.Outcome State Fault Refusal :=
  match via with
  | .editorial h => .next (edCommand h (.laneRelease lane) s)
  | .panel => .next (whenRunning (panelLaneCommand lane releaseLane) s)

/-- Meaning of LANE_FLUSH (R49, R63). -/
def execLaneFlush (h : EdHeader) (lane : Nat) (s : State) : Host.Outcome State Fault Refusal :=
  .next (edCommand h (.laneFlush lane) s)

/-- Meaning of LINK_RELEASE (R45). -/
def execLinkRelease (via : Via) (s : State) : Host.Outcome State Fault Refusal :=
  match via with
  | .editorial h => .next (edCommand h .linkRelease s)
  | .panel => .next (whenRunning releaseLink s)

/-- Meaning of SET_SILENCE_LIMIT (R53, R63). -/
def execSetSilenceLimit (h : EdHeader) (lane limit : Nat) (s : State) : Host.Outcome State Fault Refusal :=
  .next (edCommand h (.setSilenceLimit lane limit) s)

/-- Meaning of READ_LANES (R64). -/
def execReadLanes (h : EdHeader) (s : State) : Host.Outcome State Fault Refusal := .next (edCommand h .readLanes s)

/-- Meaning of LOAD_STORY (R69). -/
def execLoadStory (h : EdHeader) (s : State) : Host.Outcome State Fault Refusal := .next (edCommand h .loadStory s)

/-- Meaning of DELETE_STORY (R71). -/
def execDeleteStory (h : EdHeader) (r : Ref) (s : State) : Host.Outcome State Fault Refusal :=
  .next (edCommand h (.deleteStory r) s)

/-- Meaning of READ_STORIES (R73). -/
def execReadStories (h : EdHeader) (start count : Nat) (s : State) : Host.Outcome State Fault Refusal :=
  .next (edCommand h (.readStories start count) s)

/-- Meaning of LOAD_FACE (R76). -/
def execLoadFace (h : EdHeader) (a : FaceArgs) (s : State) : Host.Outcome State Fault Refusal :=
  .next (edCommand h (.loadFace a) s)

/-- Meaning of UNLOAD_FACE (R78). -/
def execUnloadFace (h : EdHeader) (face : Nat) (s : State) : Host.Outcome State Fault Refusal :=
  .next (edCommand h (.unloadFace face) s)

/-- Meaning of LOAD_GLYPH_IMAGES (R77). -/
def execLoadGlyphImages (h : EdHeader) (offset : Nat) (s : State) : Host.Outcome State Fault Refusal :=
  .next (edCommand h (.loadImages offset) s)

/-- Meaning of READ_FACE (R79). -/
def execReadFace (h : EdHeader) (face start count : Nat) (s : State) : Host.Outcome State Fault Refusal :=
  .next (edCommand h (.readFace face start count) s)

/-- Meaning of EDIT_INSERT (R87, R89). -/
def execEditInsert (h : EdHeader) (band pos count : Nat) (s : State) : Host.Outcome State Fault Refusal :=
  .next (edCommand h (.edit band opInsert pos count) s)

/-- Meaning of EDIT_DELETE (R87, R89). -/
def execEditDelete (h : EdHeader) (band pos count : Nat) (s : State) : Host.Outcome State Fault Refusal :=
  .next (edCommand h (.edit band opDelete pos count) s)

/-- Meaning of EDIT_REPLACE (R87, R89). -/
def execEditReplace (h : EdHeader) (band pos count : Nat) (s : State) : Host.Outcome State Fault Refusal :=
  .next (edCommand h (.edit band opReplace pos count) s)

/-- Meaning of EDIT_CLEAR (R87, R89). -/
def execEditClear (h : EdHeader) (band pos count : Nat) (s : State) : Host.Outcome State Fault Refusal :=
  .next (edCommand h (.edit band opClear pos count) s)

/-- Meaning of COPY_BANK (R91). -/
def execCopyBank (h : EdHeader) (band : Nat) (s : State) : Host.Outcome State Fault Refusal :=
  .next (edCommand h (.copyBank band) s)

/-- Meaning of READ_RUN_LIST (R99). -/
def execReadRunList (h : EdHeader) (band bank start count direction : Nat) (s : State) :
    Host.Outcome State Fault Refusal :=
  .next (edCommand h (.readRunList band bank start count direction) s)

/-- Meaning of READ_BAND (R123). -/
def execReadBand (h : EdHeader) (band : Nat) (s : State) : Host.Outcome State Fault Refusal :=
  .next (edCommand h (.readBand band) s)

/-- Meaning of READ_WINDOW (R124). -/
def execReadWindow (h : EdHeader) (band : Nat) (s : State) : Host.Outcome State Fault Refusal :=
  .next (edCommand h (.readWindow band) s)

/-- Meaning of SOFT_CLEAN (R159). -/
def execSoftClean (via : Via) (value : Nat) (s : State) : Host.Outcome State Fault Refusal :=
  match via with
  | .editorial h => .next (edCommand h (.softClean value) s)
  | .panel => .next (whenRunning (panelSoftClean value) s)

/-- Meaning of SET_PIN (R164). -/
def execSetPin (h : EdHeader) (pin mode select level : Nat) (s : State) : Host.Outcome State Fault Refusal :=
  .next (edCommand h (.setPin pin mode select level) s)

/-- Meaning of READ_OUTPUT (R166). -/
def execReadOutput (h : EdHeader) (s : State) : Host.Outcome State Fault Refusal := .next (edCommand h .readOutput s)

/-- Meaning of SET_LEVELS (R187). -/
def execSetLevels (h : EdHeader) (master : Nat) (levels : List Nat) (s : State) : Host.Outcome State Fault Refusal :=
  .next (edCommand h (.setLevels master levels) s)

/-- Meaning of SET_THRESHOLD (R187). -/
def execSetThreshold (via : Via) (value : Nat) (s : State) : Host.Outcome State Fault Refusal :=
  match via with
  | .editorial h => .next (edCommand h (.setThreshold value) s)
  | .panel => .next (whenRunning (panelThreshold value) s)

/-- Meaning of READ_EVENTS (R190). -/
def execReadEvents (h : EdHeader) (s : State) : Host.Outcome State Fault Refusal := .next (edCommand h .readEvents s)

/-- Meaning of DEVICE_RESET (R192). -/
def execDeviceReset (h : EdHeader) (s : State) : Host.Outcome State Fault Refusal := .next (edCommand h .deviceReset s)

/-- Meaning of BAND_REQUEST_QUEUED (R105, R170, R177). -/
def execBandRequestQueued (a : RequestArrival) (s : State) : Host.Outcome State Fault Refusal :=
  match a with
  | .editorial h band r => .next (edCommand h (.request band r) s)
  | .panel b r => .next (whenRunning (panelRequest b (PanelRequest.toBand r)) s)

end Sys2Proof.Machine
end

