-- ==== Sys2Proof/Machine/Panel.lean ====
section
/-! DEFINITION. The panel bus interface: transfers, writes, broadcasts and the status read (R177 to R180). -/

namespace Sys2Proof.Machine

def State.updPbi (s : State) (f : Pbi → Pbi) : State := { s with pbi := f s.pbi }

def setTransfer (t : Transfer) (s : State) : State := s.updPbi (fun p => { p with transfer := t })

/-! ### Commands -/

/-- R184: the argument count of a command byte of the panel command table. -/
def panelArguments (c : Byte) : Option Nat :=
  match c.toNat with
  | 0x01 => some 2
  | 0x02 => some 1
  | 0x03 => some 1
  | 0x04 => some 1
  | 0x05 => some 1
  | 0x06 => some 2
  | 0x10 => some 1
  | 0x11 => some 1
  | 0x12 => some 0
  | 0x20 => some 1
  | 0x21 => some 1
  | 0x30 => some 1
  | 0x31 => some 0
  | 0x32 => some 0
  | _ => none

/-- R178: the command byte of one of the four broadcast commands. -/
def broadcastCommand (c : Byte) : Bool := [0x20, 0x30, 0x31, 0x32].contains c.toNat

/-- R177: a refused write changes nothing and raises COMMAND REFUSED with the panel master as source. -/
def refuseWrite (s : State) : State := s.raise .commandRefused (.master .panel)

/-- R177: a band command with this band argument. -/
def panelBand (band : Nat) (r : BandRequest) (s : State) : State :=
  match four band with
  | none => refuseWrite s
  | some b => panelRequest b r s

/-- R177, R184: a write with its full count of arguments is handed over, or refused when an argument is out of range. -/
def handOver (c : Byte) (a0 a1 : Byte) (s : State) : State :=
  match c.toNat with
  | 0x01 => panelBand a0.toNat (.takeOn (bitAt a1 0)) s
  | 0x02 => panelBand a0.toNat .takeOffDrain s
  | 0x03 => panelBand a0.toNat .takeOffCut s
  | 0x04 => panelBand a0.toNat .halt s
  | 0x05 => panelBand a0.toNat .resume s
  | 0x06 =>
    match yesNoOf a1.toNat with
    | none => refuseWrite s
    | some up => panelBand a0.toNat (.nudge up) s
  | 0x10 => panelLaneCommand a0.toNat holdLane s
  | 0x11 => panelLaneCommand a0.toNat releaseLane s
  | 0x12 => releaseLink s
  | 0x20 => panelSoftClean a0.toNat s
  | 0x21 => panelThreshold a0.toNat s
  | 0x30 =>
    match yesNoOf a0.toNat with
    | none => refuseWrite s
    | some cut => panelBroadcast (if cut then .takeOffCut else .takeOffDrain) s
  | 0x31 => panelBroadcast .halt s
  | 0x32 => panelBroadcast .resume s
  | _ => s

/-- R177, R178: a write is taken when it ends. -/
def takeWrite (bytes : List Byte) (discard : Bool) (s : State) : State :=
  match bytes with
  | [] => s
  | c :: arguments =>
    if discard then s
    else if panelArguments c = some arguments.length then handOver c (byteAt arguments 0) (byteAt arguments 1) s
    else refuseWrite s

/-! ### Transfers -/

/-- R177: the 7-bit address. -/
def ownAddress (s : State) : Nat := 0x58 + s.straps.panelAddr.val

/-- R177: the address byte for a write at the device's own address. -/
def writeAddress (s : State) : Byte := byteOf (2 * ownAddress s)

/-- R177: the address byte for a read at the device's own address. -/
def readAddress (s : State) : Byte := byteOf (2 * ownAddress s + 1)

/-- R177: the general call address with the write direction. -/
def generalCall : Byte := 0

/-- R179: the device acknowledges its address for reading: the status block is latched, and the panel master's read of its
pending set begins. -/
def beginStatusRead (s : State) : State :=
  let s' := s.updMaster .panel MasterSet.beginRead
  s'.updPbi (fun p => { p with transfer := .read 0, block := panelBlock s s.au.panel.pending })

/-- R177, R178: the device acknowledges a byte of a write after `bytes`; `known` tells the command bytes it knows. -/
def acknowledges (known : Byte → Bool) (bytes : List Byte) (b : Byte) : Bool :=
  match bytes with
  | [] => known b
  | c :: arguments => decide (arguments.length < (panelArguments c).getD 0)

/-- R177: the acknowledge bit of one byte that the partner sends, and what the byte does. In a read the partner sends no
bytes (log entry 21). -/
def panelByte (b : Byte) (s : State) : Bool × State :=
  match s.pbi.transfer with
  | .notAddressed => (false, s)
  | .address =>
    if s.run ≠ .running then (false, setTransfer .notAddressed s)
    else if b = writeAddress s then (true, setTransfer (.write [] false) s)
    else if b = readAddress s then (true, beginStatusRead s)
    else if b = generalCall then (true, setTransfer (.broadcast [] false) s)
    else (false, setTransfer .notAddressed s)
  | .write bytes discard =>
    if !discard && acknowledges (fun c => (panelArguments c).isSome) bytes b then
      (true, setTransfer (.write (bytes ++ [b]) false) s)
    else (false, setTransfer (.write bytes true) s)
  | .broadcast bytes discard =>
    if !discard && acknowledges broadcastCommand bytes b then (true, setTransfer (.broadcast (bytes ++ [b]) false) s)
    else (false, setTransfer (.broadcast bytes true) s)
  | .read _ => (false, s)

/-- Several bytes that the partner sends, with the acknowledge bit of each. -/
def panelBytes : List Byte → State → List Bool × State
  | [], s => ([], s)
  | b :: t, s =>
    let u := panelByte b s
    let v := panelBytes t u.2
    (u.1 :: v.1, v.2)

/-- The acknowledge bits are recorded (log entry 13). -/
def writeBytes (bytes : List Byte) (s : State) : State :=
  let t := panelBytes bytes s
  t.2.updPbi (fun p => { p with acks := t.1 })

/-- R179: bytes of the panel status block. -/
def panelBlockBytes : Nat := 8

/-- R179: one byte clocked in a read; with the last bit of byte 7 the read is complete. A byte clocked while the device is
not addressed for a read is recorded as 00h: the model's choice (log entry 33). -/
def readByte (s : State) : Byte × State :=
  match s.pbi.transfer with
  | .read position =>
    let s' := setTransfer (.read (position + 1)) s
    (byteAt s.pbi.block position,
      if position + 1 = panelBlockBytes then s'.updMaster .panel MasterSet.completeRead else s')
  | _ => (0, s)

/-- R179: `n` bytes clocked in a read. -/
def readBytes : Nat → State → List Byte × State
  | 0, s => ([], s)
  | n + 1, s =>
    let t := readByte s
    let u := readBytes n t.2
    (t.1 :: u.1, u.2)

/-- The bytes sent are recorded (log entry 13). -/
def clockRead (n : Nat) (s : State) : State :=
  let t := readBytes n s
  t.2.updPbi (fun p => { p with out := t.1 })

/-- R179, R180: the transfer in progress ends: a write is taken, a read before the end of byte 7 ends incomplete. -/
def endTransfer (s : State) : State :=
  match s.pbi.transfer with
  | .notAddressed => s
  | .address => s
  | .write bytes discard => takeWrite bytes discard s
  | .broadcast bytes discard => takeWrite bytes discard s
  | .read position => if position < panelBlockBytes then s.updMaster .panel MasterSet.abandonRead else s

/-- R180: the interface after the end of a transfer; the latched block is held for the duration of a read alone. -/
def restart (t : Transfer) (s : State) : State :=
  (endTransfer s).updPbi (fun p => { p with transfer := t, block := [] })

/-! ### The rows of the panel bus -/

/-- Bus traffic reaches the interface unless the RESET pin is held (R191). -/
def onBus (f : State → State) (s : State) : State := if s.run = .held then s else f s

/-- Meaning of PANEL_WRITE (R177, R178). -/
def execPanelWrite (bytes : List Byte) (s : State) : Host.Outcome State Fault Refusal := .next (onBus (writeBytes bytes) s)

/-- Meaning of START_CONDITION (R180). -/
def execStartCondition (s : State) : Host.Outcome State Fault Refusal := .next (onBus (restart .address) s)

/-- Meaning of STOP_CONDITION (R180). -/
def execStopCondition (s : State) : Host.Outcome State Fault Refusal := .next (onBus (restart .notAddressed) s)

/-- Meaning of PANEL_STATUS_READ (R179): the address byte for a read, and then `n` bytes clocked. -/
def execPanelStatusRead (n : Nat) (s : State) : Host.Outcome State Fault Refusal :=
  .next (onBus (fun s => clockRead n (writeBytes [readAddress s] s)) s)

/-- R179: bytes of the block not yet sent in a read. -/
def unsentBytes (s : State) : Nat :=
  match s.pbi.transfer with
  | .read position => panelBlockBytes - position
  | _ => 0

/-- Meaning of PANEL_STATUS_READ_COMPLETE (R179): the rest of the block is clocked. With no read in progress, and with
the block sent (position 8 and above), there is no such event, and nothing changes (DESIGN CHOICE, log entry 23). -/
def execPanelStatusReadComplete (s : State) : Host.Outcome State Fault Refusal :=
  .next (if unsentBytes s = 0 then s else clockRead (unsentBytes s) s)

end Sys2Proof.Machine
end

