-- ==== Sys2Proof/Machine/Timing.lean ====
section
/-! DEFINITION. The timing unit, the frame start that it hands to the blocks, and the rows that are single steps inside a
frame start (R151 to R155). -/

namespace Sys2Proof.Machine

/-- R154: the seven blocks that act on a frame start. -/
inductive Block where
  | quotes
  | feed
  | band (b : Fin 4)
  | compositor
  deriving DecidableEq, Repr

def allBlocks : List Block := [.quotes, .feed, .band 0, .band 1, .band 2, .band 3, .compositor]

/-- The permutation of a list that a number names: every permutation has a number. -/
def arrange {α : Type} : Nat → List α → List α
  | _, [] => []
  | n, x :: t =>
    let l := arrange (n / (t.length + 1)) t
    l.take (n % (t.length + 1)) ++ x :: l.drop (n % (t.length + 1))

/-- R154: each block takes the frame start as its own event, in this order. `sampled` tells whether the compositor has
taken it. -/
def frameBlocks : List Block → Bool → State → State
  | [], _, s => s
  | .quotes :: t, sampled, s => frameBlocks t sampled (quoteFrameStart s)
  | .feed :: t, sampled, s => frameBlocks t sampled (feedFrameStart s)
  | .band b :: t, sampled, s => frameBlocks t sampled (bandFrameStart sampled b s)
  | .compositor :: t, _, s => frameBlocks t true (compositorFrameStart s)

/-- The order of the blocks at a frame start: a free value (log entry 3). -/
def blockOrder (freeIndex : Nat) : List Block := arrange (Config.frameOrder freeIndex) allBlocks

/-- R154: the frame start is handed to every block. -/
def handFrameStart (s : State) : State := frameBlocks (blockOrder s.freeIndex) false s.bumpFree

/-- R154, R155: a frame start of the timing unit: the pixel port begins a frame, and the blocks take the frame start once
initialisation has ended. While the RESET pin is held neither happens. -/
def frameStart (s : State) : State :=
  match s.run with
  | .held => s
  | .initialising => { s with frames := s.frames + 1 }
  | .running => handFrameStart { s with frames := s.frames + 1 }

/-- R151: TIMING is raised at each change to LOCKED or FREE-RUN, except while the device is initialising. -/
def raiseTiming (s : State) : State := if s.run = .running then s.raise .timing .none else s

/-- R152: a pulse at `time` arrives within the guard. -/
def State.guarded (s : State) (time : Nat) : Bool := decide (4 * (time - s.tu.lastFrame) < 3 * s.period)

/-- Meaning of REFERENCE_PULSE (R152, R153). -/
def execReferencePulse (time : Nat) (s : State) : Host.Outcome State Fault Refusal :=
  .next
    (if s.tu.lock = .locked then
      (if s.guarded time then s else frameStart { s with tu := ⟨.locked, time⟩ })
     else frameStart (raiseTiming { s with tu := ⟨.locked, time⟩ }))

/-- Meaning of LOSS_LIMIT (R152): in LOCKED, 1.25 P after the last frame start. In another lock state there is no such
event, and nothing changes. -/
def execLossLimit (s : State) : Host.Outcome State Fault Refusal :=
  .next
    (if s.tu.lock = .locked then
      frameStart (raiseTiming { s with tu := ⟨.freeRun, s.tu.lastFrame + 5 * s.period / 4⟩ })
     else s)

/-- Meaning of FREE_RUN_PERIOD (R153): in SEEKING and FREE-RUN, P after the last frame start. In LOCKED there is no such
event, and nothing changes. -/
def execFreeRunPeriod (s : State) : Host.Outcome State Fault Refusal :=
  .next
    (if s.tu.lock = .locked then s
     else frameStart { s with tu := ⟨s.tu.lock, s.tu.lastFrame + s.period⟩ })

/-! ### The rows that are single steps inside a frame start

Each carries out its step for the record, lane, story or band named when the step's condition holds there; otherwise there
is no such event, and nothing changes (log entry 6). -/

/-- Meaning of FLASH_EXPIRED (R17). -/
def execFlashExpired (i : Fin 1024) (s : State) : Host.Outcome State Fault Refusal := .next (s.updQuote i flashExpiry)

/-- Meaning of LANE_SILENT (R50). -/
def execLaneSilent (n : Fin 4) (s : State) : Host.Outcome State Fault Refusal := .next (silenceLane n s)

/-- Meaning of DRAIN_END (R122, R148). -/
def execDrainEnd (b : Fin 4) (s : State) : Host.Outcome State Fault Refusal := .next (drainEndStep b s)

/-- Meaning of CLEARING_END (R122, R130). -/
def execClearingEnd (b : Fin 4) (s : State) : Host.Outcome State Fault Refusal := .next (clearingEndStep b s)

/-- A page step of one phase for a FLIP band in a drawing state, when `due` holds of its page. -/
def flipAlone (b : Fin 4) (due : BandConfig → Band → Bool) (f : BandConfig → Fin 4 → State → State) (s : State) : State :=
  match (s.band b).config with
  | none => s
  | some c => if (s.band b).flipping ∧ (s.band b).halted = false ∧ due c (s.band b) then f c b s else s

/-- R144: the hold is at its last count. -/
def holdDue (_ : BandConfig) (d : Band) : Bool := decide (d.page.phase = .holding) && decide (d.page.hold ≤ 1)

/-- R146: the next step of the roll would pass R. -/
def rollDue (c : BandConfig) (d : Band) : Bool := decide (d.page.phase = .rolling) && decide (c.rollFrames ≤ d.page.roll)

/-- R147: the next step of the LEAVING roll would pass R. -/
def leavingDue (c : BandConfig) (d : Band) : Bool := decide (d.page.phase = .leaving) && decide (c.rollFrames ≤ d.page.roll)

/-- Meaning of HOLD_EXPIRED (R144 to R148). -/
def execHoldExpired (b : Fin 4) (s : State) : Host.Outcome State Fault Refusal := .next (flipAlone b holdDue expirePage s)

/-- Meaning of ROLL_END (R146). -/
def execRollEnd (b : Fin 4) (s : State) : Host.Outcome State Fault Refusal := .next (flipAlone b rollDue endRoll s)

/-- Meaning of LEAVING_END (R147). -/
def execLeavingEnd (b : Fin 4) (s : State) : Host.Outcome State Fault Refusal :=
  .next (flipAlone b leavingDue endLeaving s)

/-- Meaning of BANK_SWAP (R95): RLS makes the swap, whether or not a record is pending (log entry 22). -/
def execBankSwap (b : Fin 4) (s : State) : Host.Outcome State Fault Refusal := .next (whenRunning (swapBanks b) s)

/-- Meaning of RETIRING_RECORD_FREED (R8). -/
def execRetiringRecordFreed (i : Fin 1024) (s : State) : Host.Outcome State Fault Refusal :=
  .next (s.updQuote i Quote.freeIfGone)

/-- Meaning of DELETING_STORY_FREED (R72). -/
def execDeletingStoryFreed (i : Fin 256) (s : State) : Host.Outcome State Fault Refusal := .next (freeStoryIfGone i s)

end Sys2Proof.Machine
end

