-- ==== Sys2Proof/Machine/Dispatch.lean ====
section
/-! DEFINITION. The meaning of each command, one arm for each row of spec/opcode_table.json. -/

namespace Sys2Proof.Machine

/-- The effect of a command on everything but the queue of waiting commands. -/
def exec (i : Instr) (s : State) : Host.Outcome State Fault Refusal :=
  match i with
  | .powerOn levels time => Sys2Proof.Machine.execPowerOn levels time s
  | .resetAsserted => Sys2Proof.Machine.execResetAsserted s
  | .initDone => Sys2Proof.Machine.execInitDone s
  | .deviceResetStart => Sys2Proof.Machine.execDeviceResetStart s
  | .referencePulse time => Sys2Proof.Machine.execReferencePulse time s
  | .lossLimit => Sys2Proof.Machine.execLossLimit s
  | .freeRunPeriod => Sys2Proof.Machine.execFreeRunPeriod s
  | .flashExpired index => Sys2Proof.Machine.execFlashExpired index s
  | .laneSilent lane => Sys2Proof.Machine.execLaneSilent lane s
  | .drainEnd band => Sys2Proof.Machine.execDrainEnd band s
  | .clearingEnd band => Sys2Proof.Machine.execClearingEnd band s
  | .holdExpired band => Sys2Proof.Machine.execHoldExpired band s
  | .rollEnd band => Sys2Proof.Machine.execRollEnd band s
  | .leavingEnd band => Sys2Proof.Machine.execLeavingEnd band s
  | .fadeOutComplete band => Sys2Proof.Machine.execFadeOutComplete band s
  | .fadeInComplete band => Sys2Proof.Machine.execFadeInComplete band s
  | .bankSwap band => Sys2Proof.Machine.execBankSwap band s
  | .retiringRecordFreed index => Sys2Proof.Machine.execRetiringRecordFreed index s
  | .deletingStoryFreed id => Sys2Proof.Machine.execDeletingStoryFreed id s
  | .cleanRequest level => Sys2Proof.Machine.execCleanRequest level s
  | .feedPacket bytes => Sys2Proof.Machine.execFeedPacket bytes s
  | .feedStatusRecordSent => Sys2Proof.Machine.execFeedStatusRecordSent s
  | .updateEngineTurn => Sys2Proof.Machine.execUpdateEngineTurn s
  | .commandFrame bytes => Sys2Proof.Machine.execCommandFrame bytes s
  | .dataOutFrame bytes => Sys2Proof.Machine.execDataOutFrame bytes s
  | .dataInFrame count => Sys2Proof.Machine.execDataInFrame count s
  | .statusFrame count => Sys2Proof.Machine.execStatusFrame count s
  | .linkReset => Sys2Proof.Machine.execLinkReset s
  | .defineQuote h a => Sys2Proof.Machine.execDefineQuote h a s
  | .retireQuote h r => Sys2Proof.Machine.execRetireQuote h r s
  | .setSource h r source => Sys2Proof.Machine.execSetSource h r source s
  | .setSourceDataComplete last => Sys2Proof.Machine.execSetSourceDataComplete last s
  | .setReference h r remove scale mantissa => Sys2Proof.Machine.execSetReference h r remove scale mantissa s
  | .setFlash h value => Sys2Proof.Machine.execSetFlash h value s
  | .readQuotes h start count direction => Sys2Proof.Machine.execReadQuotes h start count direction s
  | .laneHold via lane => Sys2Proof.Machine.execLaneHold via lane s
  | .laneRelease via lane => Sys2Proof.Machine.execLaneRelease via lane s
  | .laneFlush h lane => Sys2Proof.Machine.execLaneFlush h lane s
  | .linkRelease via => Sys2Proof.Machine.execLinkRelease via s
  | .setSilenceLimit h lane limit => Sys2Proof.Machine.execSetSilenceLimit h lane limit s
  | .readLanes h => Sys2Proof.Machine.execReadLanes h s
  | .loadStory h => Sys2Proof.Machine.execLoadStory h s
  | .loadStoryComplete last => Sys2Proof.Machine.execLoadStoryComplete last s
  | .deleteStory h r => Sys2Proof.Machine.execDeleteStory h r s
  | .readStories h start count => Sys2Proof.Machine.execReadStories h start count s
  | .loadFace h a => Sys2Proof.Machine.execLoadFace h a s
  | .loadFaceComplete last => Sys2Proof.Machine.execLoadFaceComplete last s
  | .unloadFace h face => Sys2Proof.Machine.execUnloadFace h face s
  | .loadGlyphImages h offset => Sys2Proof.Machine.execLoadGlyphImages h offset s
  | .loadGlyphImagesComplete last => Sys2Proof.Machine.execLoadGlyphImagesComplete last s
  | .readFace h face start count => Sys2Proof.Machine.execReadFace h face start count s
  | .editInsert h band pos count => Sys2Proof.Machine.execEditInsert h band pos count s
  | .editDelete h band pos count => Sys2Proof.Machine.execEditDelete h band pos count s
  | .editReplace h band pos count => Sys2Proof.Machine.execEditReplace h band pos count s
  | .editClear h band pos count => Sys2Proof.Machine.execEditClear h band pos count s
  | .editDataComplete last => Sys2Proof.Machine.execEditDataComplete last s
  | .copyBank h band => Sys2Proof.Machine.execCopyBank h band s
  | .readRunList h band bank start count direction => Sys2Proof.Machine.execReadRunList h band bank start count direction s
  | .readBand h band => Sys2Proof.Machine.execReadBand h band s
  | .readWindow h band => Sys2Proof.Machine.execReadWindow h band s
  | .softClean via value => Sys2Proof.Machine.execSoftClean via value s
  | .setPin h pin mode select level => Sys2Proof.Machine.execSetPin h pin mode select level s
  | .readOutput h => Sys2Proof.Machine.execReadOutput h s
  | .setLevels h master levels => Sys2Proof.Machine.execSetLevels h master levels s
  | .setThreshold via value => Sys2Proof.Machine.execSetThreshold via value s
  | .readEvents h => Sys2Proof.Machine.execReadEvents h s
  | .readEventsComplete => Sys2Proof.Machine.execReadEventsComplete s
  | .deviceReset h => Sys2Proof.Machine.execDeviceReset h s
  | .bandRequestQueued a => Sys2Proof.Machine.execBandRequestQueued a s
  | .configure ticket band record => Sys2Proof.Machine.execConfigure ticket band record s
  | .release ticket band => Sys2Proof.Machine.execRelease ticket band s
  | .takeOn origin band fromTop => Sys2Proof.Machine.execTakeOn origin band fromTop s
  | .takeOffDrain origin band => Sys2Proof.Machine.execTakeOffDrain origin band s
  | .takeOffCut origin band => Sys2Proof.Machine.execTakeOffCut origin band s
  | .halt origin band => Sys2Proof.Machine.execHalt origin band s
  | .resume origin band => Sys2Proof.Machine.execResume origin band s
  | .setSpeed ticket band value => Sys2Proof.Machine.execSetSpeed ticket band value s
  | .nudge band up => Sys2Proof.Machine.execNudge band up s
  | .commit ticket band mode => Sys2Proof.Machine.execCommit ticket band mode s
  | .breakNext ticket band story repeats => Sys2Proof.Machine.execBreakNext ticket band story repeats s
  | .breakNow ticket band story repeats => Sys2Proof.Machine.execBreakNow ticket band story repeats s
  | .breakClear ticket band => Sys2Proof.Machine.execBreakClear ticket band s
  | .allTakeOff cut => Sys2Proof.Machine.execAllTakeOff cut s
  | .allHalt => Sys2Proof.Machine.execAllHalt s
  | .allResume => Sys2Proof.Machine.execAllResume s
  | .panelWrite bytes => Sys2Proof.Machine.execPanelWrite bytes s
  | .startCondition => Sys2Proof.Machine.execStartCondition s
  | .stopCondition => Sys2Proof.Machine.execStopCondition s
  | .panelStatusRead clocked => Sys2Proof.Machine.execPanelStatusRead clocked s
  | .panelStatusReadComplete => Sys2Proof.Machine.execPanelStatusReadComplete s
  | .frameOfUnknownKind kind => Sys2Proof.Machine.execFrameOfUnknownKind kind s

end Sys2Proof.Machine
end

