-- ==== Sys2Proof/Machine/Compose.lean ====
section
/-! DEFINITION. The pixel port: placement, coverage, composition and keys (R37, R38, R40, R82, R155 to R158). The frame
is a function of the state: `State.pixel` is what the port sends at one place of the raster. -/

namespace Sys2Proof.Machine

/-- A pixel: three fill components and a key, 10 bits each (R155). -/
structure Pixel where
  fill : Rgb
  key : Nat
  deriving DecidableEq, Repr

def Pixel.clear : Pixel := ⟨⟨0, 0, 0⟩, 0⟩

/-- A glyph image set for an instance: its pen position, its glyph record and the palette entry of its colour. -/
structure Placed where
  pen : Int
  glyph : Glyph
  entry : Fin 10
  deriving DecidableEq, Repr

/-- R37, R82: codes set as one run from a pen position, each at the previous code's pen position plus its effective
advance. -/
def setRun (f : Face) (pen : Int) : List (Nat × Fin 10) → List Placed
  | [] => []
  | (code, entry) :: t =>
    let rest := setRun f (pen + (effectiveAdvance f code : Int)) t
    match glyphOf f code with
    | some g => ⟨pen, g, entry⟩ :: rest
    | none => rest

/-- A text in one colour. -/
def coloured (entry : Fin 10) (codes : List Nat) : List (Nat × Fin 10) := codes.map (fun c => (c, entry))

/-- R37, R38, R39: the glyphs of a QUOTE instance. A form that fits has its head at the left edge of the slot and its tail
at the right edge; one that does not is set as one run. -/
def quoteGlyphs (c : BandConfig) (f : Face) (slot : Nat) (q : Quote) : List Placed :=
  let form := drawnForm (textWidth f) slot c q
  let colour := quoteColour q
  if textWidth f form.text ≤ slot then
    setRun f 0 (coloured 1 form.head) ++
      setRun f ((slot : Int) - (textWidth f form.tail : Int)) (coloured colour form.tail)
  else setRun f 0 (coloured 1 form.head ++ coloured colour (codeSpace :: form.tail))

/-- R82, R85: the palette entry of a story's text. -/
def storyColour (i : Inst) : Fin 10 :=
  match i.colour with
  | none => 1
  | some e => if h : e < 10 then ⟨e, h⟩ else 1

/-- R42, R82: the glyphs of an instance. The quote table resolves the drawing of a quote by index alone (R22), and a story
is drawn from its blocks (R72). -/
def State.instGlyphs (s : State) (c : BandConfig) (i : Inst) : List Placed :=
  let f := s.face c.face
  match i.kind with
  | .quote r =>
    match s.quoteAt r.index with
    | some q => quoteGlyphs c f i.slot q
    | none => []
  | .story r => setRun f 0 (coloured (storyColour i) (s.storyText r.index))
  | .glyph code => setRun f 0 (coloured 1 [code])
  | .spacer => []

/-- R156: the coverage byte that a glyph image has at instance column `j` and band line `l`, or none where the image does
not lie. The image row's home line is `l` less the vertical offset, and both lines lie within the band. -/
def State.imageAt (s : State) (c : BandConfig) (voffset : Int) (p : Placed) (j l : Int) : Option Nat :=
  let col := j - (p.pen + p.glyph.bearingX)
  let home := l - voffset
  let row := home - ((c.baseline : Int) - p.glyph.bearingY)
  if 0 ≤ col ∧ col < p.glyph.width ∧ 0 ≤ row ∧ row < p.glyph.height ∧ 0 ≤ home ∧ home < c.height ∧ 0 ≤ l ∧
      l < c.height then
    some (Memory.read s.gs.mem (p.glyph.offset + row.toNat * p.glyph.width + col.toNat)).toNat
  else none

/-- R157: the larger coverage stands, with its colour; the later glyph's when the two are equal. -/
def largerCoverage (old : Nat × Fin 10) (new : Nat × Fin 10) : Nat × Fin 10 := if old.1 ≤ new.1 then new else old

/-- R40, R82, R157: the unshifted coverage and colour at instance column `j` and band line `l`, confined to the slot. -/
def State.coverage (s : State) (c : BandConfig) (i : Inst) (j l : Int) : Nat × Fin 10 :=
  if 0 ≤ j ∧ j < i.slot then
    (s.instGlyphs c i).foldl
      (fun acc p => match s.imageAt c i.voffset p j l with
        | some v => largerCoverage acc (v, p.entry)
        | none => acc) (0, 0)
  else (0, 0)

/-- R156: the pixel origin of an instance. -/
def Inst.origin (i : Inst) : Int := i.x / 256

/-- R156: the sub-pixel phase of an instance. -/
def Inst.phase (smooth : Bool) (i : Inst) : Nat := if smooth then ((i.x - i.origin * 256) / 16).toNat else 0

/-- R157: the coverage drawn at instance column `j` and band line `l`, smoothed when the phase is above 0. -/
def State.drawnCoverage (s : State) (c : BandConfig) (i : Inst) (j l : Int) : Nat × Fin 10 :=
  let p := i.phase c.smooth
  let here := s.coverage c i j l
  if p = 0 then here
  else if 0 ≤ j ∧ j < i.slot then
    let before := s.coverage c i (j - 1) l
    let a := here.1 * (16 - p)
    let b := before.1 * p
    ((a + b + 8) / 16, if b ≤ a then here.2 else before.2)
  else (0, 0)

/-- R158: one fill component. -/
def blend (front back cover : Nat) : Nat := (front * cover + back * (255 - cover) + 127) / 255

/-- R158: the key sent for a key before visibility. -/
def scaledKey (fade step key : Nat) : Nat := if fade = 0 then key * step else key * step / fade

/-- R158: the pixel of a band in a drawing state from a coverage and its colour. -/
def bandPixel (c : BandConfig) (v : Visibility) (cover : Nat × Fin 10) : Pixel :=
  let front := tget c.palette cover.2
  let back := tget c.palette 0
  { fill := ⟨blend front.r back.r cover.1, blend front.g back.g cover.1, blend front.b back.b cover.1⟩,
    key := scaledKey c.fade v.step (blend 1023 c.backKey cover.1) }

/-- R156: the coverage that a window gives raster column `x` on band line `l`: that of the instance whose slot holds the
column, at most one by the spacing of R116 and R142. -/
def State.windowCoverage (s : State) (c : BandConfig) (w : List Inst) (x l : Int) : Nat × Fin 10 :=
  (w.map (fun i => s.drawnCoverage c i (x - i.origin) l)).foldl (fun a b => if b.1 = 0 then a else b) (0, 0)

/-- R102: raster line `y` belongs to a band in a drawing state. -/
def State.bandHasLine (s : State) (y : Nat) (b : Fin 4) : Bool :=
  (s.band b).prog.drawing && (s.band b).config.any (fun c => decide (c.yOrigin ≤ y) && decide (y < c.yOrigin + c.height))

/-- R155, R158: what the pixel port sends at column `x` of line `y`: none while the RESET pin is held or outside the raster,
and fill 0 and key 0 during an initialisation period and on lines that belong to no band in a drawing state. -/
def State.pixel (s : State) (x y : Nat) : Option Pixel :=
  if s.run = .held ∨ s.width ≤ x ∨ s.lines ≤ y then none
  else if s.run = .initialising then some Pixel.clear
  else
    match (List.finRange 4).find? (s.bandHasLine y) with
    | none => some Pixel.clear
    | some b =>
      match (s.band b).config with
      | none => some Pixel.clear
      | some c =>
        some (bandPixel c (s.vis b) (s.windowCoverage c (s.band b).window (x : Int) ((y : Int) - (c.yOrigin : Int))))

end Sys2Proof.Machine
end

