-- ==== Sys2Proof/Safety.lean ====
section
/-! DEFINITION. What counts as a safe run: a step that does not stop, and the invariants of the state that the manual's
prose gives. -/

namespace Sys2Proof.Machine

/-- The step does not stop. -/
def Safe (s : State) : Prop := ∃ t, step s = .next t

/-! ### Memories -/

/-- Both memories stand in canonical form. -/
def State.memoryOk (s : State) : Prop := Memory.wf s.ts.text = true ∧ Memory.wf s.gs.mem = true

/-! ### On-screen counts -/

/-- The QUOTE instances of a record in one window. -/
def quoteInstances (i : Nat) (w : List Inst) : Nat :=
  w.countP (fun x => match x.kind with
    | .quote r => r.index == i
    | .story _ => false
    | .glyph _ => false
    | .spacer => false)

/-- The STORY instances of a story in one window. -/
def storyInstances (i : Nat) (w : List Inst) : Nat :=
  w.countP (fun x => match x.kind with
    | .quote _ => false
    | .story r => r.index == i
    | .glyph _ => false
    | .spacer => false)

/-- The sum of a number over the four bands. -/
def State.sumBands (s : State) (f : Band → Nat) : Nat :=
  f (s.band 0) + f (s.band 1) + f (s.band 2) + f (s.band 3)

/-- R9: every record's on-screen count is the number of QUOTE instances with its index in all windows, and a FREE record has
none. -/
def State.quoteCountsOk (s : State) : Prop :=
  ∀ i : Fin 1024, (s.quote i).count = s.sumBands (fun d => quoteInstances i.val d.window) ∧
    ((s.quote i).state = .free → (s.quote i).count = 0)

/-- R72: every story's on-screen count is the number of its STORY instances in all windows, a FREE story has none, and the
record designated for a load is FREE. -/
def State.storyCountsOk (s : State) : Prop :=
  (∀ i : Fin 256, (s.story i).count = s.sumBands (fun d => storyInstances i.val d.window) ∧
    ((s.story i).state = .free → (s.story i).count = 0)) ∧
  (∀ t, s.ts.loadTarget = some t → (s.story t.id).state = .free)

/-! ### Queues -/

/-- R44, R48, R84, R105, R126: no queue or bank is longer than its rule allows, and the consecutive-bad count is below 8. -/
def State.queuesOk (s : State) : Prop :=
  (∀ n : Fin 4, (s.lane n).queue.length ≤ Config.intakeSize) ∧
  s.fli.bad ≤ 7 ∧
  (∀ b : Fin 4, (s.band b).queue.length ≤ Config.requestQueueSize ∧ (s.band b).breaks.length ≤ Config.breakQueueSize ∧
    (s.lists b).bankA.length ≤ Config.bankSize ∧ (s.lists b).bankB.length ≤ Config.bankSize)

/-! ### Windows -/

/-- R101, R139 to R149: a window holds at most 64 instances and none in OFF and READY, and a FLIP band's window is the pages
that its page phase gives: none, one page, an outgoing and an incoming page, or an outgoing page alone. -/
def Band.windowOk (d : Band) : Prop :=
  d.window.length ≤ Config.windowSize ∧
  (d.prog.drawing = false → d.window = [] ∧ d.page = Page.initial) ∧
  (d.presentation = some .flip →
    match d.page.phase with
    | .empty => d.window = []
    | .holding => d.window.length ≤ Config.pageSize
    | .rolling => d.page.outgoing ≤ Config.pageSize ∧ d.window.length ≤ d.page.outgoing + Config.pageSize
    | .leaving => d.window.length ≤ d.page.outgoing ∧ d.page.outgoing ≤ Config.pageSize)

def State.windowsOk (s : State) : Prop := ∀ b : Fin 4, (s.band b).windowOk

/-! ### Lines -/

/-- R102, R103: a band that is not OFF lies within the raster, and no two bands that are not OFF share a line. -/
def State.linesOk (s : State) : Prop :=
  (∀ b : Fin 4, ∀ c, (s.band b).prog ≠ .off → (s.band b).config = some c → c.yOrigin + c.height ≤ s.lines) ∧
  (∀ b b' : Fin 4, ∀ c c', b ≠ b' → (s.band b).prog ≠ .off → (s.band b').prog ≠ .off → (s.band b).config = some c →
    (s.band b').config = some c' → c.yOrigin + c.height ≤ c'.yOrigin ∨ c'.yOrigin + c'.height ≤ c.yOrigin)

/-! ### Speeds -/

/-- R102, R112, R113: the fields of a stored configuration that are clamped or ranged, a speed of 0 in OFF and READY, and a
speed of at most 8192 in every state. -/
def Band.speedOk (d : Band) : Prop :=
  d.speed ≤ Config.speedMax ∧ (d.prog.drawing = false → d.speed = 0) ∧
  ∀ c, d.config = some c → c.speedTarget ≤ Config.speedMax ∧ c.clearSpeed ≤ Config.speedMax ∧ 1 ≤ c.accel ∧
    c.accel ≤ Config.speedMax ∧ c.gap ≤ 1024 ∧ 1 ≤ c.quantum ∧ c.quantum ≤ 64 ∧ c.fade ≤ 64 ∧ 1 ≤ c.flipHold ∧
    1 ≤ c.rollFrames ∧ c.rollFrames ≤ 64 ∧ 16 ≤ c.height ∧ c.height ≤ 256

def State.speedsOk (s : State) : Prop := ∀ b : Fin 4, (s.band b).speedOk

/-! ### Symbols -/

/-- R4: no two LIVE records hold equal symbols. -/
def State.symbolsOk (s : State) : Prop :=
  ∀ i j : Fin 1024, (s.quote i).state = .live → (s.quote j).state = .live → (s.quote i).symbol = (s.quote j).symbol → i = j

/-! ### Text pool -/

/-- R66, R67, R69, R70: the free blocks stand in ascending number, every block is free or held by one story, a story holds
the blocks that its length needs (a FREE one none), and a load in progress has designated free blocks, as many as its data
needs, and a FREE record. -/
def State.poolOk (s : State) : Prop :=
  (s.ts.freeBlocks.Pairwise (· < ·) ∧ ∀ k ∈ s.ts.freeBlocks, k < 4096) ∧
  (∀ i : Fin 256, (s.story i).blocks.Nodup ∧ (∀ k ∈ (s.story i).blocks, k < 4096 ∧ k ∉ s.ts.freeBlocks) ∧
    ∀ j, j ≠ i → ∀ k ∈ (s.story i).blocks, k ∉ (s.story j).blocks) ∧
  s.ts.freeBlocks.length + ((List.finRange 256).map (fun i => (s.story i).blocks.length)).sum = 4096 ∧
  (∀ i : Fin 256, (s.story i).blocks.length = ((s.story i).length + 31) / 32 ∧
    ((s.story i).state = .free → (s.story i).length = 0)) ∧
  (∀ t, s.ts.loadTarget = some t →
    (s.story t.id).state = .free ∧ t.blocks.Pairwise (· < ·) ∧ ∀ k ∈ t.blocks, k ∈ s.ts.freeBlocks) ∧
  (s.eli.phase = .dataOut → s.eli.command = some .loadStory →
    ∃ t, s.ts.loadTarget = some t ∧ t.blocks.length = (s.eli.dataLength / 2 + 31) / 32)

/-! ### Running orders and breaks -/

/-- R96, R101, R104, R111, R119, R121, R126 to R129, R135 to R137, R148: a configuration exists exactly outside OFF; the cursor
stands within the on-air bank, or at 0; a saved context exists exactly in CLEARING and BREAKING, with the cursor's value; OFF and
READY hold no pending commit and no deferral; OFF is not halted; break entries wait in every CLEARING and BREAKING band, and else
in RUNNING alone; a FLIP band has none. -/
def Band.orderOk (d : Band) (r : RunLists) : Prop :=
  (d.config = none ↔ d.prog = .off) ∧
  (d.cursor < r.onAir.length ∨ d.cursor = 0) ∧
  (d.saved = if d.prog = .clearing ∨ d.prog = .breaking then some d.cursor else none) ∧
  (d.prog.drawing = false → r.commit = none ∧ d.deferral = false) ∧
  (d.prog = .off → d.halted = false) ∧
  (d.prog = .clearing ∨ d.prog = .breaking → d.breaks ≠ []) ∧
  (d.breaks ≠ [] → d.presentation = some .crawl ∧ (d.prog = .running ∨ d.prog = .clearing ∨ d.prog = .breaking))

def State.ordersOk (s : State) : Prop := ∀ b : Fin 4, (s.band b).orderOk (s.lists b)

/-! ### Attention -/

/-- R186, R189: no set holds two equal pairs, and outside a read the hold set is empty. -/
def MasterSet.ok (m : MasterSet) : Prop := m.pending.Nodup ∧ m.hold.Nodup ∧ (m.latch = none → m.hold = [])

def State.attentionOk (s : State) : Prop := ∀ m : Master, (s.au.get m).ok

/-! ### The editorial link -/

/-- R171 to R176: outside IDLE and PHASE ERROR a command's data counter has not passed its data length; a data phase has a
command and bytes still to come; STATUS READY has a status; IDLE has a tag of 0. R169: while a frame from before the release
of RESET is ignored, the phase is IDLE. -/
def Eli.ok (e : Eli) : Prop :=
  (e.phase = .dataOut ∨ e.phase = .dataIn → e.command.isSome = true ∧ e.counter < e.dataLength) ∧
  (e.phase = .statusReady → e.status.isSome = true) ∧
  (e.phase = .idle → e = e.toIdle) ∧
  (e.straddles = true → e.phase = .idle) ∧
  e.counter ≤ e.dataLength

def State.linkOk (s : State) : Prop :=
  s.eli.ok ∧ (s.run ≠ .running → s.eli.phase = .idle)

/-- R77: image data in flight stays inside glyph memory. -/
def State.imagesOk (s : State) : Prop :=
  ∀ offset, s.eli.phase = .dataOut → s.eli.command = some (.loadImages offset) →
    offset + s.eli.dataLength ≤ Config.glyphBytes

/-! ### Terms of claims: the editorial link -/

/-- R169, R174, R191: the device runs, and no frame is in progress whose select went low before RESET was released: the next
frame acts by its kind and the phase. -/
def State.listens (s : State) : Prop := s.run = .running ∧ s.eli.straddles = false

/-- R174: the link takes a command block. -/
def State.takesCommand (s : State) : Prop := s.listens ∧ s.eli.phase = .idle

/-- R170, R173: the link after a command that was answered at its command phase, with the whole data length as residue. The
25 bytes of the COMMAND frame drove 00h on ED DOUT (R169). -/
def Eli.answered (e : Eli) (h : EdHeader) (c : EdCommand) (r : Result) (values : List Byte) : Eli where
  phase := .statusReady
  tag := h.tag
  command := some c
  dataLength := h.dataLength
  counter := 0
  data := []
  reportNo := 0
  latch := []
  status := some ⟨r, h.dataLength, values⟩
  ticket := e.ticket
  dout := List.replicate 25 0
  straddles := e.straddles

/-- R170: the link after a command that was accepted and goes on in phase `p`. -/
def Eli.took (e : Eli) (p : EdPhase) (h : EdHeader) (c : EdCommand) : Eli where
  phase := p
  tag := h.tag
  command := some c
  dataLength := h.dataLength
  counter := 0
  data := []
  reportNo := 0
  latch := []
  status := none
  ticket := e.ticket
  dout := List.replicate 25 0
  straddles := e.straddles

/-- The state with the link after an answered command. -/
def State.answers (s : State) (h : EdHeader) (c : EdCommand) (r : Result) (values : List Byte) : State :=
  { s with eli := s.eli.answered h c r values }

/-- The state with the link after an accepted command that goes on in phase `p`. -/
def State.takes (s : State) (p : EdPhase) (h : EdHeader) (c : EdCommand) : State := { s with eli := s.eli.took p h c }

/-- R171: the data phase of command `c` awaits its last byte. -/
def State.awaitsLast (s : State) (c : EdCommand) : Prop :=
  s.listens ∧ s.eli.phase = .dataOut ∧ s.eli.command = some c ∧ s.eli.counter + 1 = s.eli.dataLength

/-- R171: the link after the last data byte, in a frame of its own, of a command whose owner answered `st`. -/
def Eli.completed (e : Eli) (st : Status) : Eli :=
  { e with phase := .statusReady, counter := e.counter + 1, status := some st, dout := [0, 0] }

/-! ### Terms of claims: the feed link -/

/-- R182: a feed packet with these record bytes and these CRC bytes. -/
def feedPacket (lane : Byte) (records : List (List Byte)) (crc : List Byte) : List Byte :=
  0x7E :: lane :: byteOf records.length :: (records.flatten ++ crc)

/-- R182: 1 to 32 records of 12 bytes. -/
def recordsOk (records : List (List Byte)) : Prop :=
  1 ≤ records.length ∧ records.length ≤ 32 ∧ ∀ r ∈ records, r.length = 12

/-- R167, R182: a packet whose CRC matches. -/
def goodPacket (lane : Byte) (records : List (List Byte)) : List Byte :=
  feedPacket lane records (bytesOf 2 (crcOf (lane :: byteOf records.length :: records.flatten)).toNat)

/-! ### Terms of claims: candidates of an admission step and of a page build -/

/-- R95: the five effects of a swap of a band's banks. -/
def State.swapped (s : State) (b : Fin 4) : State :=
  ((s.updLists b (fun r => { r with onAirB := !r.onAirB, commit := none })).updBand b
    (fun d => { d with cursor := 0, saved := d.saved.map (fun _ => 0) })).raise .bankSwapped (.band b)

/-- R119: the cursor has moved past the item just considered: by 1, or to 0 with LOOP END and the swap of a pending LOOP END
commit. -/
def State.advanced (s : State) (b : Fin 4) : State :=
  if (s.band b).cursor + 1 < (s.lists b).onAir.length then s.updBand b (fun d => { d with cursor := d.cursor + 1 })
  else
    let t := (s.updBand b (fun d => { d with cursor := 0 })).raise .loopEnd (.band b)
    if (s.lists b).commit = some .loopEnd then t.swapped b else t

/-- R10, R72, R118: an instance has joined the end of a band's window, and the on-screen count of what it refers to is 1
more. -/
def State.shows (s : State) (b : Fin 4) (i : Inst) : State :=
  let t := s.updBand b (fun d => { d with window := d.window ++ [i] })
  match i.kind with
  | .quote r => if h : r.index < 1024 then t.updQuote ⟨r.index, h⟩ (fun q => { q with count := q.count + 1 }) else t
  | .story r => if h : r.index < 256 then t.updStory ⟨r.index, h⟩ (fun st => { st with count := st.count + 1 }) else t
  | .glyph _ => t
  | .spacer => t

/-- R118, R142: the instance of an item at `x`: kind and reference of the item, its gap override or else the band's default gap,
the colour override of a STORY, no break mark. -/
def Item.shownAt (i : Item) (c : BandConfig) (x : Int) (slot : Nat) (voffset : Int) : Inst where
  kind := match i.kind with
    | .quote r => .quote r
    | .story r => .story r
    | .glyph code => .glyph code
    | .spacer _ => .spacer
  x := x
  slot := slot
  gap := i.gap.getD c.gap
  colour := match i.kind with
    | .quote _ => none
    | .story _ => i.colour
    | .glyph _ => none
    | .spacer _ => none
  voffset := voffset
  brk := false

/-- R116: an admission step in progress: the state, and the items skipped since its last admission or swap (R120). -/
structure Admission where
  state : State
  skips : Nat

/-- R141: a page build in progress: the state, the instances of the page so far, the candidates skipped since the build began or
a swap during it, and whether a wrap or the 32nd instance has ended it. -/
structure Build where
  state : State
  page : List Inst
  skips : Nat
  ended : Bool

/-! ### Terms of claims: resets -/

/-- The level that R187 gives each master's kinds by default. -/
def defaultLevel (m : Master) (k : EventKind) : Nat :=
  match m with
  | .feed => if k.number.val ≤ 6 then 1 else 0
  | .editorial => if k = .loopEnd then 0 else 1
  | .panel =>
    if k = .initDone ∨ k = .linkFault ∨ k = .laneSilent ∨ k = .bandState ∨ k = .starved ∨ k = .breakDone ∨ k = .timing ∨
        k = .commandRefused then 1 else 0

/-- The values that power-on and device reset both give the blocks (R24, R65, R83, R100, R101, R139, R159, R161, R162, R165,
R176, R180, R187, R188). -/
def State.atReset (t : State) : Prop :=
  (∀ i, t.quote i = Quote.free 0) ∧ t.flashSetting = 25 ∧
  t.fli.fault = false ∧ t.fli.bad = 0 ∧ (∀ n, t.lane n = ⟨false, false, 0, 150, []⟩) ∧ t.uePointer = 3 ∧
  (∀ i, t.story i = Story.free 0) ∧ t.ts.freeBlocks = List.range 4096 ∧ t.ts.loadTarget = none ∧ t.gs.staging = [] ∧
  (∀ b, t.lists b = ⟨[], [], false, none⟩) ∧ t.editStaging = [] ∧
  (∀ b, t.band b = ⟨none, .off, false, 0, [], 0, [], false, [], none, ⟨.empty, 0, 0, 0⟩⟩) ∧
  t.cmp.edFlag = false ∧ t.cmp.panelFlag = false ∧ t.cmp.sampled = false ∧ t.cmp.ack = false ∧
  (∀ b, t.vis b = ⟨.hidden, 0⟩) ∧ (∀ n, t.pin n = ⟨t.straps.tallyMode, .tally n, false⟩) ∧
  (∀ m k, (t.au.get m).level k = defaultLevel m k) ∧
  (∀ m, (t.au.get m).threshold = 0 ∧ (t.au.get m).pending = [] ∧ (t.au.get m).hold = [] ∧ (t.au.get m).latch = none) ∧
  t.eli.phase = .idle ∧ t.eli.command = none ∧ t.eli.counter = 0 ∧ t.eli.status = none ∧
  t.pbi.transfer = .notAddressed

end Sys2Proof.Machine
end

