-- ==== Sys2Proof/Certificates/Slice0/Obligations.lean ====
section
/-! DEFINITION. The statements for the provers. -/

open Sys2Proof Sys2Proof.Machine

/-! ### The queue of commands -/

/-- A step runs the command at the front of the queue on the state with the rest of the queue; with no command waiting and
nothing waiting on FEED TX, the step changes nothing (the model's choice, log entries 1 and 2). -/
def Obligations.StepRunsFrontCommand : Prop :=
  (∀ (s : State) (c : Instr) (rest : List Instr), step (s.withPending (c :: rest)) = exec c (s.withPending rest)) ∧
  ∀ s : State, s.fli.tx = [] → step (s.withPending []) = .next (s.withPending [])

/-! ### Reset and start-up -/

/-- R191: the release of the RESET pin samples the straps, gives every block its power-on values and begins the
initialisation period. The row says whether an editorial frame is in progress whose select went low before (R169; the model's
choice, log entry 36). State.reset is that state for straps all low at time 0 with no such frame (the model's choice, log entry 5). -/
def Obligations.PowerOnValues : Prop :=
  (∀ (straps : Straps) (time : Nat) (selected : Bool) (s : State), ∃ t, exec (.powerOn ⟨straps, selected⟩ time) s = .next t ∧
    t.run = .initialising ∧ t.straps = straps ∧ t.tu = ⟨.seeking, time⟩ ∧ t.atReset ∧
    (∀ f, t.face f = Face.empty) ∧ (∀ a, Memory.read t.gs.mem a = 0) ∧ t.fli.rx = none ∧ t.fli.tx = [] ∧
    t.eli = { Eli.reset with straddles := selected } ∧ t.cleanPin = s.cleanPin ∧ t.pending = s.pending) ∧
  exec (.powerOn ⟨Straps.low, false⟩ 0) State.reset = .next State.reset

/-- R191: the RESET pin ends whatever is in progress and holds every block at its power-on values, with the straps as they were
sampled; while it is held the pixel port sends nothing and the links answer nothing. R176, R177: from the start of a reset
until INIT DONE, COMMAND, DATA OUT and DATA IN frames are ignored, a STATUS frame returns NOT READY with tag 0, and the panel
bus acknowledges no address; the phase stays IDLE. R169: after power-on a frame whose select went low before RESET was released is
ignored until select goes high, during initialisation and after: it drives 00h and changes nothing else. That this frame is the next
editorial row, with which it ends, is the model's choice (log entry 36). A frame is one row from select low to select high (the
model's choice, log entry 14), and the bytes driven stand in a field of the model's own (log entry 13). -/
def Obligations.LinksInReset : Prop :=
  ((∀ s : State, ∃ t, exec .resetAsserted s = .next t ∧ t.run = .held ∧ t.straps = s.straps ∧ t.atReset ∧
    (∀ f, t.face f = Face.empty) ∧ (∀ a, Memory.read t.gs.mem a = 0) ∧ t.fli.rx = none ∧ t.fli.tx = [] ∧
    t.cleanPin = s.cleanPin ∧ t.pending = s.pending) ∧
  ∀ s : State, s.run = .held →
    (∀ x y, s.pixel x y = none) ∧
    (∀ bytes, exec (.feedPacket bytes) s = .next s) ∧
    (∀ bytes, exec (.commandFrame bytes) s = .next s) ∧
    (∀ bytes, s.eli.phase = .idle → exec (.dataOutFrame bytes) s = .next s) ∧
    (∀ n, exec (.dataInFrame n) s = .next s) ∧
    (∀ n, exec (.statusFrame n) s = .next s) ∧
    exec .linkReset s = .next s ∧
    (∀ bytes, exec (.panelWrite bytes) s = .next s) ∧
    (∀ n, exec (.panelStatusRead n) s = .next s) ∧
    exec .startCondition s = .next s ∧ exec .stopCondition s = .next s) ∧
  (∀ s : State, s.run ≠ .held → s.eli.straddles = true → s.eli.phase = .idle →
    let ignored := fun (n : Nat) =>
      { s with eli := { s.eli with straddles := false, dout := List.replicate (n + 1) 0 } }
    (∀ bytes, exec (.commandFrame bytes) s = .next (ignored bytes.length)) ∧
    (∀ bytes, exec (.dataOutFrame bytes) s = .next (ignored bytes.length)) ∧
    (∀ n, exec (.dataInFrame n) s = .next (ignored n)) ∧
    (∀ n, exec (.statusFrame n) s = .next (ignored n)) ∧
    exec .linkReset s = .next (ignored 0) ∧
    (∀ kind, exec (.frameOfUnknownKind kind) s = .next (ignored 0)) ∧
    (∀ h c, edCommand h c s = ignored 24)) ∧
  (∀ s : State, s.run = .initialising → s.eli.straddles = false → s.eli.phase = .idle →
    (∀ bytes, ∃ t, exec (.commandFrame bytes) s = .next t ∧ t = { s with eli := { s.eli with dout := t.eli.dout } }) ∧
    (∀ bytes, ∃ t, exec (.dataOutFrame bytes) s = .next t ∧ t = { s with eli := { s.eli with dout := t.eli.dout } }) ∧
    (∀ n, ∃ t, exec (.dataInFrame n) s = .next t ∧ t = { s with eli := { s.eli with dout := t.eli.dout } }) ∧
    (exec (.statusFrame 12) s =
      .next { s with eli := { s.eli with dout := [0, 0x53, 0, 0x0A, 0, 0, 0, 0, 0, 0, 0, 0, 0] } }) ∧
    (∀ address bytes, s.pbi.transfer = .address → ∃ t, exec (.panelWrite (address :: bytes)) s = .next t ∧
      t = { s with pbi := t.pbi } ∧ t.pbi.transfer = .notAddressed ∧ t.pbi.acks = List.replicate (bytes.length + 1) false))

/-- R191: at the end of the initialisation period the device runs and INIT DONE, without a source, is raised (R186); nothing else
changes. With the default levels and thresholds the three attention lines rise (R188). R192: a device reset gives every block its
device-reset values and begins the initialisation period. The straps are not sampled again, and the faces and the glyph memory, the
timing unit and the framing state of the feed link are kept; the reply bytes that wait are still sent in their order, and a feed
status record is abandoned (R83, R151, R167, R168). DEVICE RESET is answered GOOD at once, and the reset begins with the twelfth
byte of its status block: a STATUS frame that ends before it leaves the reset waiting, and a LINK RESET calls it off. The rows
INIT_DONE and DEVICE_RESET_START by themselves act in every initialising and every running state, and change nothing in any
other (the model's choice, log entry 32). -/
def Obligations.InitDoneAndDeviceReset : Prop :=
  ((∀ s : State, s.run = .initialising → exec .initDone s = .next ({ s with run := .running }.raise .initDone .none)) ∧
  (∀ s : State, s.run ≠ .initialising → exec .initDone s = .next s) ∧
  ∀ (s : State) (m : Master), s.run = .initialising → s.atReset → ∃ t, exec .initDone s = .next t ∧
    (t.au.get m).pending = [⟨.initDone, .none⟩] ∧ t.attention m = true) ∧
  (∀ s : State, s.run = .running → ∃ t, exec .deviceResetStart s = .next t ∧
    t.run = .initialising ∧ t.atReset ∧ t.straps = s.straps ∧ t.tu = s.tu ∧ t.gs.faces = s.gs.faces ∧ t.gs.mem = s.gs.mem ∧
    t.fli.rx = s.fli.rx ∧ t.fli.tx = keptReplies s.fli.tx ∧ t.cleanPin = s.cleanPin ∧ t.frames = s.frames ∧
    t.pending = s.pending) ∧
  (keptReplies [] = [] ∧ (∀ c rest, keptReplies (.reply c :: rest) = .reply c :: keptReplies rest) ∧
    ∀ bytes own rest, keptReplies (.record bytes own :: rest) = keptReplies rest) ∧
  (∀ s : State, s.run ≠ .running → exec .deviceResetStart s = .next s) ∧
  (∀ (s : State) (h : EdHeader), s.takesCommand → h.dataLength = 0 →
    exec (.deviceReset h) s = .next (s.answers h .deviceReset .good [0, 0, 0, 0, 0])) ∧
  ∀ (s : State) (h : EdHeader) (n : Nat), s.listens →
    let waiting := s.answers h .deviceReset .good [0, 0, 0, 0, 0]
    (n < 12 → ∃ t, exec (.statusFrame n) waiting = .next t ∧
      t = { waiting with eli := { waiting.eli with dout := t.eli.dout } }) ∧
    (12 ≤ n → ∃ t u, exec (.statusFrame n) waiting = .next t ∧ exec .deviceResetStart s = .next u ∧
      t = { u with eli := { u.eli with dout := t.eli.dout } } ∧ t.run = .initialising) ∧
    ∃ t, exec .linkReset waiting = .next t ∧ t = { s with eli := t.eli } ∧ t.eli.phase = .idle

/-! ### Timing and frame starts -/

/-- R151 to R154: a pulse within the guard of a LOCKED unit is ignored; any other pulse gives a frame start at its time with the
unit LOCKED, and TIMING is raised when it was not. At the loss limit a LOCKED unit becomes FREE-RUN with TIMING and gives a frame start
1.25 P after the last; in SEEKING and FREE-RUN the unit gives a frame start P after the last. The seven blocks take a frame start in
some order, each once: the quote table, the feed link, each band engine and the compositor each carry out their own frame-start action,
and a band that comes behind the compositor finds the request already sampled (R161). TIMING is raised before they do (DEDUCED, log entry 11). During initialisation and while the RESET pin is held the lock state and the time
of the last frame start move in the same way, but TIMING is not raised and no block takes the frame start: nothing else changes but,
during initialisation, the frames that the pixel port has begun (R155). A pulse whose time lies before the last frame start
counts as within the guard, and LOSS_LIMIT and FREE_RUN_PERIOD come when their sender puts them (the model's choice, log entry 12). -/
def Obligations.FrameStarts : Prop :=
  (∀ (s : State), s.run = .running →
    let starts := fun (i : Instr) (t : State) (tu : Tu) => ∃ order : List Block, order.Perm allBlocks ∧
      exec i s = .next (frameBlocks order false { t with tu := tu, frames := s.frames + 1, freeIndex := s.freeIndex + 1 })
    (∀ time, s.tu.lock = .locked → 4 * (time - s.tu.lastFrame) < 3 * s.period → exec (.referencePulse time) s = .next s) ∧
    (∀ time, s.tu.lock = .locked → 3 * s.period ≤ 4 * (time - s.tu.lastFrame) →
      starts (.referencePulse time) s ⟨.locked, time⟩) ∧
    (∀ time, s.tu.lock ≠ .locked → starts (.referencePulse time) (s.raise .timing .none) ⟨.locked, time⟩) ∧
    (s.tu.lock = .locked →
      starts .lossLimit (s.raise .timing .none) ⟨.freeRun, s.tu.lastFrame + 5 * s.period / 4⟩) ∧
    (s.tu.lock ≠ .locked → starts .freeRunPeriod s ⟨s.tu.lock, s.tu.lastFrame + s.period⟩)) ∧
  (∀ (s : State), s.run ≠ .running →
    let moves := fun (i : Instr) (tu : Tu) =>
      exec i s = .next { s with tu := tu, frames := if s.run = .initialising then s.frames + 1 else s.frames }
    (∀ time, s.tu.lock = .locked → 4 * (time - s.tu.lastFrame) < 3 * s.period → exec (.referencePulse time) s = .next s) ∧
    (∀ time, s.tu.lock = .locked → 3 * s.period ≤ 4 * (time - s.tu.lastFrame) → moves (.referencePulse time) ⟨.locked, time⟩) ∧
    (∀ time, s.tu.lock ≠ .locked → moves (.referencePulse time) ⟨.locked, time⟩) ∧
    (s.tu.lock = .locked → moves .lossLimit ⟨.freeRun, s.tu.lastFrame + 5 * s.period / 4⟩) ∧
    (s.tu.lock ≠ .locked → moves .freeRunPeriod ⟨s.tu.lock, s.tu.lastFrame + s.period⟩)) ∧
  (∀ (s : State), (s.tu.lock ≠ .locked → exec .lossLimit s = .next s) ∧ (s.tu.lock = .locked → exec .freeRunPeriod s = .next s)) ∧
  allBlocks = [.quotes, .feed, .band 0, .band 1, .band 2, .band 3, .compositor] ∧
  ∀ (rest : List Block) (sampled : Bool) (s : State),
    frameBlocks [] sampled s = s ∧
    frameBlocks (.quotes :: rest) sampled s = frameBlocks rest sampled (quoteFrameStart s) ∧
    frameBlocks (.feed :: rest) sampled s = frameBlocks rest sampled (feedFrameStart s) ∧
    (∀ b, frameBlocks (.band b :: rest) sampled s = frameBlocks rest sampled (bandFrameStart sampled b s)) ∧
    frameBlocks (.compositor :: rest) sampled s = frameBlocks rest true (compositorFrameStart s)

/-- R154: what no frame start changes, in whatever order the blocks take it: the reset mode, the straps, the clean pin, the
timing unit, the flash setting, the intake queues and link state of the feed link, the faces and both memories, the free text
blocks' contents, the banks' items, the pins, the levels and thresholds, the panel bus, and the editorial link outside
EXECUTING. -/
def Obligations.FrameStartFrame : Prop :=
  ∀ (order : List Block) (s : State) (sampled : Bool),
    let t := frameBlocks order sampled s
    t.run = s.run ∧ t.straps = s.straps ∧ t.cleanPin = s.cleanPin ∧ t.tu = s.tu ∧ t.flashSetting = s.flashSetting ∧
    (∀ n, (t.lane n).queue = (s.lane n).queue ∧ (t.lane n).held = (s.lane n).held ∧ (t.lane n).limit = (s.lane n).limit) ∧
    t.fli.fault = s.fli.fault ∧ t.fli.bad = s.fli.bad ∧ t.fli.tx = s.fli.tx ∧ t.uePointer = s.uePointer ∧
    t.gs = s.gs ∧ t.ts.text = s.ts.text ∧ t.ts.loadTarget = s.ts.loadTarget ∧
    (∀ b, (t.lists b).bankA = (s.lists b).bankA ∧ (t.lists b).bankB = (s.lists b).bankB) ∧
    t.editStaging = s.editStaging ∧ t.pins = s.pins ∧
    (∀ m, (t.au.get m).levels = (s.au.get m).levels ∧ (t.au.get m).threshold = (s.au.get m).threshold ∧
      (t.au.get m).latch = (s.au.get m).latch) ∧
    t.pbi = s.pbi ∧ t.frames = s.frames ∧ t.pending = s.pending ∧
    (∀ i, (t.quote i).gen = (s.quote i).gen) ∧ (∀ i, (t.story i).gen = (s.story i).gen) ∧
    (s.eli.phase ≠ .executing → t.eli = s.eli)

/-! ### Quotes -/

/-- R14, R15, R16, R17, R19, R30: the frame-start action of the quote table on one record. The flash is counted down first;
a LIVE record is then latched: it copies when its pending source is LIVE and either dirty is set or the displayed source is not
LIVE, and it takes the source, the override text and the stale flag whether or not it copied. No other record is latched. -/
def Obligations.FrameStartLatch : Prop :=
  ∀ (s : State) (i : Fin 1024),
    let q := s.quote i
    let t := (quoteFrameStart s).quote i
    let flash := q.flash - 1
    let tick := if q.flash = 1 then Tick.none else q.tick
    (q.state ≠ .live → t = { q with flash := flash, tick := tick }) ∧
    (q.state = .live → t.dispSource = q.pendSource ∧ t.dispText = q.pendText ∧
      t.stale = (q.lane.any fun n => !(s.lane n).active && !(s.lane n).held)) ∧
    (q.state = .live → ¬ (q.pendSource = .live ∧ (q.dirty = true ∨ q.dispSource ≠ .live)) →
      t = { q with flash := flash, tick := tick, dispSource := t.dispSource, dispText := t.dispText, stale := t.stale }) ∧
    (q.state = .live → q.pendSource = .live → q.dirty = true ∨ q.dispSource ≠ .live →
      t.dispLast = q.pendLast ∧ t.dispRef = q.pendRef ∧ t.dispHalted = q.pendHalted ∧ t.dirty = false ∧
      t.change = changeOf q.pendLast q.pendRef ∧ t.percent = percentOf t.change q.pendRef ∧
      t.netSign = signOf (shownChange q.scale q.decimals t.change) ∧
      (q.pendLast = none → t.tick = .none ∧ t.flash = 0) ∧
      (∀ new, q.dispLast = none → q.pendLast = some new → t.tick = tick ∧ t.flash = flash) ∧
      (∀ old new, q.dispLast = some old → q.pendLast = some new →
        (old = new → t.tick = tick ∧ t.flash = flash) ∧
        (old < new → t.flash = s.flashSetting ∧ t.tick = if s.flashSetting = 0 then .none else .up) ∧
        (new < old → t.flash = s.flashSetting ∧ t.tick = if s.flashSetting = 0 then .none else .down)) ∧
      t = { q with
        dispLast := t.dispLast, dispRef := t.dispRef, dispHalted := t.dispHalted, dispSource := t.dispSource,
        dispText := t.dispText, stale := t.stale, change := t.change, percent := t.percent, netSign := t.netSign,
        tick := t.tick, flash := t.flash, dirty := false })

/-- R27: the change is displayed last minus displayed reference, present when both are present and absent when either is
absent, and lies within −1,999,999,998..+1,999,999,998 for operands in range. -/
def Obligations.ChangeIsTheDifference : Prop :=
  (∀ l r : Int, changeOf (some l) (some r) = some (l - r)) ∧
  (∀ r, changeOf none r = none) ∧ (∀ l, changeOf l none = none) ∧
  ∀ l r c : Int, -999999999 ≤ l → l ≤ 999999999 → -999999999 ≤ r → r ≤ 999999999 → changeOf (some l) (some r) = some c →
    -1999999998 ≤ c ∧ c ≤ 1999999998

/-- R28: the percent is change × 10,000 / reference, rounded to the nearest with halves away from zero and then clamped to
−99,999..+99,999; it is present when the change is present and the reference is above 0, and absent in every other case. -/
def Obligations.PercentIsRoundedThenClamped : Prop :=
  (∀ c r : Int, 0 < r → ∃ p z : Int, percentOf (some c) (some r) = some p ∧
    2 * |z * r - c * 10000| ≤ r ∧ (2 * |z * r - c * 10000| = r → |c * 10000| < |z * r|) ∧
    p = max (-99999) (min 99999 z)) ∧
  (∀ c r : Int, r ≤ 0 → percentOf (some c) (some r) = none) ∧
  (∀ r, percentOf none r = none) ∧ ∀ c, percentOf c none = none

/-- R25, R26: normalisation keeps a mantissa at equal scales, multiplies it exactly below the record's scale, and divides it
above with rounding to the nearest, halves away from zero; it fails for an update scale above 6 and for a result outside
−999,999,999..+999,999,999, and in no other case. -/
def Obligations.NormalisationRounds : Prop :=
  (∀ (u s : Nat) (m : Int), u ≤ s → rescale u s m = m * 10 ^ (s - u)) ∧
  (∀ (u s : Nat) (m : Int), s < u → 2 * |rescale u s m * 10 ^ (u - s) - m| ≤ 10 ^ (u - s) ∧
    (2 * |rescale u s m * 10 ^ (u - s) - m| = 10 ^ (u - s) → |m| < |rescale u s m * 10 ^ (u - s)|)) ∧
  ∀ (u s : Nat) (m : Int), normalise u s m =
    if u ≤ 6 ∧ -999999999 ≤ rescale u s m ∧ rescale u s m ≤ 999999999 then some (rescale u s m) else none

/-- R5, R6: DEFINE QUOTE makes the lowest FREE record LIVE with the next generation, the reference in both halves, the
record stale when its lane is SILENT and not held, and every other field cleared; it is refused with BAD PARAM, then with EXISTS
and the record that holds the symbol, then with FULL. A refused command changes no record. -/
def Obligations.DefineQuote : Prop :=
  ∀ (s : State) (h : EdHeader) (a : DefineArgs), s.takesCommand → h.dataLength = 0 →
    let valid := 1 ≤ a.symLen ∧ a.symLen ≤ 8 ∧ 1 ≤ a.lane ∧ a.lane ≤ 4 ∧ a.scale ≤ 6 ∧ a.decimals ≤ a.scale ∧
      ∀ r, a.reference = some r → -999999999 ≤ r ∧ r ≤ 999999999
    let symbol := a.symbol.take a.symLen
    (¬ valid → exec (.defineQuote h a) s = .next (s.answers h (.defineQuote a) .badParam noValues)) ∧
    (∀ i : Fin 1024, valid → (s.quote i).state = .live → (s.quote i).symbol = some symbol →
      (∀ j, (s.quote j).state = .live → (s.quote j).symbol = some symbol → j = i) →
      exec (.defineQuote h a) s =
        .next (s.answers h (.defineQuote a) .exists_ (bytesOf 2 i.val ++ bytesOf 2 (s.quote i).gen ++ [0]))) ∧
    (valid → (∀ j, (s.quote j).state = .live → (s.quote j).symbol ≠ some symbol) →
      ((∀ j, (s.quote j).state ≠ .free) →
        exec (.defineQuote h a) s = .next (s.answers h (.defineQuote a) .full noValues)) ∧
      ∀ (i : Fin 1024) (lane : Fin 4), a.lane = lane.val + 1 → (s.quote i).state = .free →
        (∀ j, (s.quote j).state = .free → i ≤ j) →
        let gen := nextGen (s.quote i).gen
        exec (.defineQuote h a) s = .next ((s.updQuote i (fun _ =>
          { state := .live, gen := gen, symbol := some symbol, lane := some lane, scale := a.scale, decimals := a.decimals,
            pendSource := .live, pendText := none, pendLast := none, pendRef := a.reference, pendHalted := false,
            dirty := false, dispLast := none, dispRef := a.reference, dispHalted := false, dispSource := .live,
            dispText := none, stale := !(s.lane lane).active && !(s.lane lane).held, change := none, percent := none,
            netSign := .zero, tick := .none, flash := 0, count := 0 })).answers h (.defineQuote a) .good
              (bytesOf 2 i.val ++ bytesOf 2 gen ++ [0])))

/-- R2, R3, R7, R8: RETIRE QUOTE of a reference that resolves raises the generation (65535 goes to 1); a record with no instance
on screen becomes FREE, any other becomes RETIRING with its pending part cleared and its displayed part kept. A reference
that does not resolve is answered NOT FOUND, and nothing changes. R8, R17: a RETIRING record whose on-screen count is 0 is
freed with its generation kept, and a record whose last flash frame is counted down has its tick set to NONE. For any other
record the row changes nothing (the model's reading of the rows that are single steps, log entry 6). -/
def Obligations.RetireQuote : Prop :=
  ((∀ g, g < 65535 → nextGen g = g + 1) ∧ nextGen 65535 = 1 ∧
  ∀ (s : State) (h : EdHeader) (r : Ref), s.takesCommand → h.dataLength = 0 →
    (∀ i : Fin 1024, r = ⟨i.val, (s.quote i).gen⟩ → (s.quote i).state = .live → r.gen ≠ 0 →
      let returned := bytesOf 2 i.val ++ bytesOf 2 (nextGen r.gen) ++ [0]
      ((s.quote i).count = 0 → exec (.retireQuote h r) s =
        .next ((s.updQuote i (fun _ => Quote.free (nextGen r.gen))).answers h (.retireQuote r) .good returned)) ∧
      ((s.quote i).count ≠ 0 → exec (.retireQuote h r) s =
        .next ((s.updQuote i (fun q => { q with
          state := .retiring, gen := nextGen r.gen, pendSource := .live, pendText := none, pendLast := none,
          pendRef := none, pendHalted := false, dirty := false })).answers h (.retireQuote r) .good returned))) ∧
    ((∀ i : Fin 1024, r.index = i.val → (s.quote i).state = .live → (s.quote i).gen = r.gen → r.gen = 0) →
      exec (.retireQuote h r) s = .next (s.answers h (.retireQuote r) .notFound noValues))) ∧
  (∀ (s : State) (i : Fin 1024),
    ((s.quote i).state = .retiring → (s.quote i).count = 0 →
      exec (.retiringRecordFreed i) s = .next (s.updQuote i (fun q => Quote.free q.gen))) ∧
    (¬ ((s.quote i).state = .retiring ∧ (s.quote i).count = 0) → exec (.retiringRecordFreed i) s = .next s) ∧
    ((s.quote i).flash = 1 →
      exec (.flashExpired i) s = .next (s.updQuote i (fun q => { q with flash := 0, tick := .none }))) ∧
    ((s.quote i).flash ≠ 1 → exec (.flashExpired i) s = .next s))

/-- R11: SET SOURCE to LIVE or FROZEN acts at once and clears the override text; OVERRIDE with 1 to 16 data bytes takes its
text first and acts when the last byte arrives, if the reference then resolves. A source code or a data length out of range is
answered BAD PARAM, a reference that does not resolve NOT FOUND, and no record changes.
The row SET_SOURCE_DATA_COMPLETE carries the last byte in a frame of its own (the model's choice, log entry 23). -/
def Obligations.SetSource : Prop :=
  (∀ (s : State) (h : EdHeader) (r : Ref) (code : Nat), s.takesCommand →
    (2 < code ∨ (code = 2 ∧ (h.dataLength = 0 ∨ 16 < h.dataLength)) ∨ (code < 2 ∧ h.dataLength ≠ 0) →
      exec (.setSource h r code) s = .next (s.answers h (.setSource r code) .badParam noValues)) ∧
    (code = 2 → 1 ≤ h.dataLength → h.dataLength ≤ 16 →
      exec (.setSource h r code) s = .next (s.takes .dataOut h (.setSource r code))) ∧
    (code < 2 → h.dataLength = 0 →
      (∀ i : Fin 1024, r.index = i.val → s.resolvesQuote r = true → exec (.setSource h r code) s =
        .next ((s.updQuote i (fun q =>
          { q with pendSource := if code = 0 then .live else .frozen, pendText := none })).answers h
            (.setSource r code) .good noValues)) ∧
      (s.resolvesQuote r = false →
        exec (.setSource h r code) s = .next (s.answers h (.setSource r code) .notFound noValues)))) ∧
  ∀ (s : State) (r : Ref) (last : Byte), s.awaitsLast (.setSource r 2) →
    let link := fun result => { s.eli.completed ⟨result, 0, noValues⟩ with data := s.eli.data ++ [last] }
    (∀ i : Fin 1024, r.index = i.val → s.resolvesQuote r = true → exec (.setSourceDataComplete last) s =
      .next { s.updQuote i (fun q =>
        { q with pendSource := .overridden, pendText := some (s.eli.data ++ [last]) }) with eli := link .good }) ∧
    (s.resolvesQuote r = false → exec (.setSourceDataComplete last) s = .next { s with eli := link .notFound })

/-- R3: a reference resolves when its index is 0 to 1023, the record there is LIVE, and the generations are equal and not 0;
for a story likewise with id 0 to 255 and LOADED (R68). A QUOTE or a STORY item is admissible when its reference resolves, any other
always (R117). That a reference kept through a device reset is judged by the same test, and resolves when its generation is reached
again, is the model's choice, against the words of R24 and R83 (log entry 35). -/
def Obligations.ReferencesResolve : Prop :=
  (∀ (s : State) (r : Ref), s.resolvesQuote r = true ↔
    r.gen ≠ 0 ∧ ∃ i : Fin 1024, r.index = i.val ∧ (s.quote i).state = .live ∧ (s.quote i).gen = r.gen) ∧
  (∀ (s : State) (r : Ref), s.resolvesStory r = true ↔
    r.gen ≠ 0 ∧ ∃ i : Fin 256, r.index = i.val ∧ (s.story i).state = .loaded ∧ (s.story i).gen = r.gen) ∧
  ∀ (s : State) (k : ItemKind), s.admissible k = true ↔ match k with
    | .quote r => s.resolvesQuote r = true
    | .story r => s.resolvesStory r = true
    | .glyph _ => True
    | .spacer _ => True

/-- R12, R13, R18: SET REFERENCE writes or removes the pending reference and sets dirty; it is refused with BAD PARAM for an
update scale above 6, then with NOT FOUND, then with BAD PARAM for a failed normalisation. SET FLASH writes the flash setting
alone. -/
def Obligations.SetReferenceAndFlash : Prop :=
  (∀ (s : State) (h : EdHeader) (r : Ref) (remove : Bool) (u : Nat) (m : Int), s.takesCommand → h.dataLength = 0 →
    let c := EdCommand.setReference r remove u m
    (remove = false → 6 < u → exec (.setReference h r remove u m) s = .next (s.answers h c .badParam noValues)) ∧
    (remove = true ∨ u ≤ 6 → s.resolvesQuote r = false →
      exec (.setReference h r remove u m) s = .next (s.answers h c .notFound noValues)) ∧
    ∀ i : Fin 1024, r.index = i.val → s.resolvesQuote r = true →
      (remove = true → exec (.setReference h r remove u m) s =
        .next ((s.updQuote i (fun q => { q with pendRef := none, dirty := true })).answers h c .good noValues)) ∧
      (remove = false → u ≤ 6 → normalise u (s.quote i).scale m = none →
        exec (.setReference h r remove u m) s = .next (s.answers h c .badParam noValues)) ∧
      (∀ v, remove = false → normalise u (s.quote i).scale m = some v → exec (.setReference h r remove u m) s =
        .next ((s.updQuote i (fun q => { q with pendRef := some v, dirty := true })).answers h c .good noValues))) ∧
  ∀ (s : State) (h : EdHeader) (v : Nat), s.takesCommand → h.dataLength = 0 →
    exec (.setFlash h v) s = .next ({ s with flashSetting := v }.answers h (.setFlash v) .good noValues)

/-- R29, R31 to R39: what is drawn of a quote. The displayed change and the price are rounded to the display decimals, halves
away from zero; the price text has the integer digits without leading zeros, in groups of three for the separated variant, and as
many digits after the point as there are decimals; an absent value is "--". The arrow, the colour, the four forms, the ladder that
draws the first form that fits (the last one when none fits) and the override text are those of the rules; a form that fits stands
with its head at the left edge of the slot and its tail at the right edge, another one as one run from the left edge. R80, R41, R81:
a code is measured and drawn as its own glyph, else as the substitute, else as nothing; a text is as wide as its advances together;
the slot of a QUOTE is the least multiple of the quantum that holds the text of the moment, that of a STORY its text's width, of a
GLYPH its advance and of a SPACER its width. -/
def Obligations.QuoteTexts : Prop :=
  let rounded := fun (m : Int) (k : Nat) (z : Int) =>
    2 * |z * 10 ^ k - m| ≤ 10 ^ k ∧ (2 * |z * 10 ^ k - m| = 10 ^ k → |m| < |z * 10 ^ k|)
  let digits := fun t : List Nat => ∀ c ∈ t, 0x30 ≤ c ∧ c ≤ 0x39
  let value := fun t : List Nat => t.foldl (fun a c => 10 * a + (c - 0x30)) 0
  let writes := fun (d v : Nat) (whole point : List Nat) => ∃ part, digits whole ∧ digits part ∧ whole ≠ [] ∧
    (whole.head? = some 0x30 → whole = [0x30]) ∧ part.length = d ∧ 10 ^ d * value whole + value part = v ∧
    point = if d = 0 then [] else 0x2E :: part
  let signed := fun z : Int => if 0 < z then [0x2B] else if z < 0 then [0x2D] else ([] : List Nat)
  (∀ (scale d : Nat) (c : Int), ∃ z, shownChange scale d (some c) = some z ∧ rounded c (scale - d) z) ∧
  (∀ scale d : Nat, shownChange scale d none = none) ∧
  (∀ z : Int, signOf (some z) = if 0 < z then .plus else if z < 0 then .minus else .zero) ∧ signOf none = .zero ∧
  (∀ q : Quote,
    (q.dispLast = none → ∀ sep, priceText sep q = [0x2D, 0x2D]) ∧
    (∀ l, q.dispLast = some l → ∃ p whole point grouped, rounded l (q.scale - q.decimals) p ∧
      writes q.decimals p.natAbs whole point ∧
      priceText false q = (if p < 0 then [0x2D] else []) ++ whole ++ point ∧
      priceText true q = (if p < 0 then [0x2D] else []) ++ grouped ++ point ∧
      grouped.filter (fun c => c != 0x2C) = whole ∧ grouped.head? ≠ some 0x2C ∧
      ∀ k, k < grouped.length → (grouped[k]? = some 0x2C ↔ (grouped.length - k) % 4 = 0)) ∧
    (q.change = none → absText q = [0x2D, 0x2D]) ∧
    (∀ c, q.change = some c → ∃ z whole point, rounded c (q.scale - q.decimals) z ∧
      writes q.decimals z.natAbs whole point ∧ absText q = signed z ++ whole ++ point) ∧
    (q.percent = none → pctText q = [0x2D, 0x2D]) ∧
    (∀ p, q.percent = some p → ∃ whole point, writes 2 p.natAbs whole point ∧
      pctText q = signed p ++ whole ++ point ++ [0x25]) ∧
    changeText .abs q = absText q ∧ changeText .pct q = pctText q ∧ changeText .both q = absText q ++ 0x20 :: pctText q ∧
    (∀ c : BandConfig,
      (q.dispHalted = true → arrowCode c q = c.arrowHalt) ∧
      (q.dispHalted = false → 0 < q.flash → q.tick = .up → arrowCode c q = c.arrowUp) ∧
      (q.dispHalted = false → 0 < q.flash → q.tick = .down → arrowCode c q = c.arrowDown) ∧
      (q.dispHalted = false → q.flash = 0 → (q.netSign = .plus → arrowCode c q = c.arrowUp) ∧
        (q.netSign = .minus → arrowCode c q = c.arrowDown) ∧ (q.netSign = .zero → arrowCode c q = c.arrowSame))) ∧
    (q.dispSource = .overridden → quoteColour q = 9) ∧
    (q.dispSource ≠ .overridden → q.dispHalted = true → quoteColour q = 8) ∧
    (q.dispSource ≠ .overridden → q.dispHalted = false → (q.stale = true → quoteColour q = 7) ∧
      (q.stale = false → 0 < q.flash → (q.tick = .up → quoteColour q = 5) ∧ (q.tick = .down → quoteColour q = 6)) ∧
      (q.stale = false → q.flash = 0 → (q.netSign = .plus → quoteColour q = 2) ∧
        (q.netSign = .minus → quoteColour q = 3) ∧ (q.netSign = .zero → quoteColour q = 4)))) ∧
  (∀ (f : Face) (pen : Int) (run : List (Nat × Fin 10)), setRun f pen run =
    (List.range run.length).flatMap (fun k => ((run.drop k).take 1).flatMap (fun x =>
      (glyphOf f x.1).toList.map (fun g => ⟨pen + (textWidth f ((run.take k).map Prod.fst) : Int), g, x.2⟩)))) ∧
  (∀ (c : BandConfig) (f : Face) (slot : Nat) (q : Quote),
    let head := (q.symbol.getD []).map (fun b => b.toNat)
    let arrow := arrowCode c q
    let change := changeText c.changeStyle q
    let tails := [priceText true q ++ [0x20, arrow, 0x20] ++ change, priceText false q ++ [0x20, arrow, 0x20] ++ change,
      priceText false q ++ [0x20, arrow], [arrow]]
    let fits := fun tail : List Nat => textWidth f (head ++ 0x20 :: tail) ≤ slot
    let one := fun code : Nat => (code, (1 : Fin 10))
    let other := fun code : Nat => (code, quoteColour q)
    let drawn := fun tail : List Nat =>
      (fits tail → quoteGlyphs c f slot q = setRun f 0 (head.map one) ++
        setRun f ((slot : Int) - (textWidth f tail : Int)) (tail.map other)) ∧
      (¬ fits tail → quoteGlyphs c f slot q = setRun f 0 (head.map one ++ (0x20 :: tail).map other))
    (q.dispSource = .overridden → drawn ((q.dispText.getD []).map (fun b => b.toNat))) ∧
    (q.dispSource ≠ .overridden → ∀ before tail after, tails = before ++ tail :: after → (∀ t ∈ before, ¬ fits t) →
      fits tail ∨ after = [] → drawn tail)) ∧
  (∀ f : Face,
    let present := fun (code : Nat) (g : Glyph) => ∃ n : Fin 1024, n.val = code ∧ tget f.glyphs n = g ∧ g.present = true
    (∀ code g, present code g → glyphOf f code = some g ∧ effectiveAdvance f code = g.advance) ∧
    (∀ code, (¬ ∃ g, present code g) →
      (∀ g, present f.substitute g → glyphOf f code = some g ∧ effectiveAdvance f code = g.advance) ∧
      ((¬ ∃ g, present f.substitute g) → glyphOf f code = none ∧ effectiveAdvance f code = 0)) ∧
    ∀ codes : List Nat, textWidth f codes = (codes.map (effectiveAdvance f)).sum) ∧
  ∀ (s : State) (c : BandConfig),
    let width := textWidth (s.face c.face)
    (∀ (i : Fin 1024) (g : Nat), 0 < c.quantum →
      let q := s.quote i
      let text := (q.symbol.getD []).map (fun b => b.toNat) ++ 0x20 :: (if q.dispSource = .overridden then
        (q.dispText.getD []).map (fun b => b.toNat) else
        priceText true q ++ [0x20, arrowCode c q, 0x20] ++ changeText c.changeStyle q)
      let slot := s.slotOf c (.quote ⟨i.val, g⟩)
      c.quantum ∣ slot ∧ width text ≤ slot ∧ slot < width text + c.quantum) ∧
    (∀ (i : Fin 256) (g : Nat), s.slotOf c (.story ⟨i.val, g⟩) = width (s.storyText i.val)) ∧
    (∀ code, s.slotOf c (.glyph code) = effectiveAdvance (s.face c.face) code) ∧ ∀ w, s.slotOf c (.spacer w) = w

/-! ### Feed link and update engine -/

/-- R43, R46, R51, R167: a data packet whose CRC matches, on a lane that is not held with room for all its records, is TAKEN:
the whole packet joins the tail of the lane's queue, the lane's counter is 0, a SILENT lane becomes ACTIVE with LANE ACTIVE, the
consecutive-bad count is 0 and the reply byte 01h waits on FEED TX. Nothing else changes. Framing goes on from row to row: bytes that
arrive in one row or in two do the same, so that a packet may be split and a row may hold several; in HUNT every byte other than 7Eh is
discarded; a packet whose bytes have not all arrived is kept and changes nothing else. -/
def Obligations.FeedPacketTaken : Prop :=
  (∀ (s : State) (n : Fin 4) (records : List (List Byte)), s.run = .running → s.fli.rx = none → recordsOk records →
    s.fli.fault = false → (s.lane n).held = false → (s.lane n).queue.length + records.length ≤ 512 →
    let t := s.updLane n (fun l =>
      { l with active := true, counter := 0, queue := l.queue ++ records.map updateOf })
    let u : State := { t with fli := { t.fli with bad := 0, tx := t.fli.tx ++ [.reply 0x01] } }
    exec (.feedPacket (goodPacket (byteOf (n.val + 1)) records)) s =
      .next (if (s.lane n).active then u else u.raise .laneActive (.lane n))) ∧
  (∀ (s : State) (first second : List Byte), ∃ t u, exec (.feedPacket first) s = .next t ∧
    exec (.feedPacket second) t = .next u ∧ exec (.feedPacket (first ++ second)) s = .next u) ∧
  ∀ (s : State) (bytes : List Byte), s.run ≠ .held → s.fli.rx = none →
    ((0x7E : Byte) ∉ bytes → exec (.feedPacket bytes) s = .next s) ∧
    (let count := (byteAt bytes 1).toNat
     bytes.length < 2 ∨ (1 ≤ count ∧ count ≤ 32 ∧ bytes.length < 4 + 12 * count) →
      exec (.feedPacket (0x7E :: bytes)) s = .next { s with fli := { s.fli with rx := some bytes } })

/-- R43, R44, R45, R47, R54, R167: what refuses a packet. While LINK FAULT stands or the lane is held, a good data packet is
answered HELD, and one that would take the queue above 512 records is answered FULL, each with FEED REFUSED for the lane. A packet
whose count is 0 or above 32, whose lane is above 4 or whose CRC is wrong is answered BAD, and so is a packet of lane 0 with a record
of another kind or two STATUS QUERY records: it counts one more, and the eighth in a row outside a fault sets LINK FAULT, clears the
count and raises LINK FAULT. During initialisation every framed packet, whatever its lane, count and CRC, is answered NOT READY. No
queue changes. -/
def Obligations.FeedPacketRefused : Prop :=
  let reply := fun (u : State) (bad : Nat) (code : Byte) =>
    { u with fli := { u.fli with bad := bad, tx := u.fli.tx ++ [.reply code] } }
  (∀ (s : State) (n : Fin 4) (records : List (List Byte)), s.fli.rx = none → recordsOk records → s.run = .running →
    let packet := Instr.feedPacket (goodPacket (byteOf (n.val + 1)) records)
    (s.fli.fault = true ∨ (s.lane n).held = true →
      exec packet s = .next (reply (s.raise .feedRefused (.lane n)) 0 0x03)) ∧
    (s.fli.fault = false → (s.lane n).held = false → 512 < (s.lane n).queue.length + records.length →
      exec packet s = .next (reply (s.raise .feedRefused (.lane n)) 0 0x02))) ∧
  ∀ (s : State) (lane count : Byte) (rest : List Byte), s.fli.rx = none →
    let counted := 1 ≤ count.toNat ∧ count.toNat ≤ 32
    let size := 12 * count.toNat
    let kind := fun i : Nat => byteAt rest (12 * i)
    let packet := Instr.feedPacket (0x7E :: lane :: count :: rest)
    (counted → rest.length = size + 2) → (¬ counted → rest = []) →
    (s.run = .initialising → exec packet s = .next (reply s 0 0x05)) ∧
    (s.run = .running →
      ¬ counted ∨ 4 < lane.toNat ∨
        rest.drop size ≠ bytesOf 2 (crcOf (lane :: count :: rest.take size)).toNat ∨
        (lane = 0 ∧ ((∃ i, i < count.toNat ∧ kind i ≠ 0x81 ∧ kind i ≠ 0x82 ∧ kind i ≠ 0x83) ∨
          ∃ i j, i < j ∧ j < count.toNat ∧ kind i = 0x82 ∧ kind j = 0x82)) →
      (s.fli.fault = true → exec packet s = .next (reply s s.fli.bad 0x04)) ∧
      (s.fli.fault = false → s.fli.bad + 1 < 8 → exec packet s = .next (reply s (s.fli.bad + 1) 0x04)) ∧
      (s.fli.fault = false → 8 ≤ s.fli.bad + 1 → exec packet s =
        .next (reply ({ s with fli := { s.fli with fault := true } }.raise .linkFault .none) 0 0x04)))

/-- R54 to R57, R190: the control records of a lane-0 packet. A HEARTBEAT makes each lane it names ACTIVE with its counter at 0,
with LANE ACTIVE for a lane that was SILENT; a SET THRESHOLD stores the feed master's threshold, 7 for a value above 7; a STATUS
QUERY latches the feed master's pending set and queues the feed status record behind the reply. A STATUS QUERY while a read of the
feed master's set is in progress begins none, and its record reports the pending and hold sets together (that it begins one when only
the record of such a query waits is the model's choice, log entry 34). A packet of several records serves them in order, as packets
of one record each would, with one TAKEN before what they send. -/
def Obligations.ControlPackets : Prop :=
  (∀ (s : State) (a b : Byte) (rest : List Byte), s.run = .running → s.fli.rx = none → rest.length = 10 →
    let packet := Instr.feedPacket (goodPacket 0 [a :: b :: rest])
    let taken := fun (items : List TxItem) (f : Fli) => { f with bad := 0, tx := s.fli.tx ++ .reply 0x01 :: items }
    let record := fun kinds : List Event =>
      byteOf (1 + 2 * bit s.fli.fault + 4 * bit (s.attention .feed)) :: byteOf s.laneBits ::
        ([0, 1, 2, 3].map (fun n : Fin 4 => byteOf (((s.lane n).queue.length + 15) / 16)) ++ bytesOf 2 (kindBits kinds))
    (a = 0x81 → ∃ t, exec packet s = .next t ∧ t = { s with fli := t.fli, au := t.au } ∧
      t.fli = taken [] { s.fli with lanes := t.fli.lanes } ∧
      (∀ n : Fin 4, t.lane n = if b.getLsbD n.val then { s.lane n with active := true, counter := 0 } else s.lane n) ∧
      ∀ (m : Master) (e : Event), (s.au.get m).latch = none → (e ∈ (t.au.get m).pending ↔ e ∈ (s.au.get m).pending ∨
        ∃ n : Fin 4, e = ⟨.laneActive, .lane n⟩ ∧ b.getLsbD n.val = true ∧ (s.lane n).active = false ∧
          0 < (s.au.get m).level .laneActive)) ∧
    (a = 0x83 → exec packet s = .next { s with
      fli := taken [] s.fli, au := { s.au with feed := { s.au.feed with threshold := min 7 b.toNat } } }) ∧
    (a = 0x82 → s.au.feed.latch = none → exec packet s = .next { s with
      fli := taken [.record (record s.au.feed.pending) true] s.fli,
      au := { s.au with feed := { s.au.feed with latch := some s.au.feed.pending } } }) ∧
    (a = 0x82 → s.au.feed.latch ≠ none → exec packet s = .next { s with
      fli := taken [.record (record (s.au.feed.pending ++ s.au.feed.hold)) false] s.fli })) ∧
  ∀ (s : State) (r : List Byte) (records : List (List Byte)), s.run = .running → s.fli.rx = none → records ≠ [] →
    recordsOk (r :: records) → (∀ x ∈ r :: records, byteAt x 0 = 0x81 ∨ byteAt x 0 = 0x82 ∨ byteAt x 0 = 0x83) →
    ((r :: records).filter (fun x => byteAt x 0 == 0x82)).length ≤ 1 →
    ∃ (t u : State) (a b : List TxItem), exec (.feedPacket (goodPacket 0 [r])) s = .next t ∧
      t.fli.tx = s.fli.tx ++ .reply 0x01 :: a ∧ exec (.feedPacket (goodPacket 0 records)) t = .next u ∧
      u.fli.tx = t.fli.tx ++ .reply 0x01 :: b ∧
      exec (.feedPacket (goodPacket 0 (r :: records))) s =
        .next { u with fli := { u.fli with tx := s.fli.tx ++ .reply 0x01 :: (a ++ b) } }

/-- R56, R168, R189: FEED TX sends the replies that stand before a feed status record, and the record. With its last byte the
feed master's read is complete: the pairs latched leave the pending set, the pairs held back join it, and the read is over. The
sending of a record that began no read removes nothing (R190). With no record waiting there is no such event (the model's reading of
the row, log entry 23). An idle step sends the next waiting byte, and with the last byte of a record does as the row does (the model's
choice, log entry 2). -/
def Obligations.StatusRecordSent : Prop :=
  (∀ (s : State) (codes record : List Byte) (rest : List TxItem) (latched : List Event),
    s.fli.tx = codes.map TxItem.reply ++ .record record true :: rest → s.au.feed.latch = some latched →
    ∃ t, exec .feedStatusRecordSent s = .next t ∧
      t = { s with fli := { s.fli with tx := rest, txOut := codes ++ record }, au := { s.au with feed := t.au.feed } } ∧
      t.au.feed = { s.au.feed with pending := t.au.feed.pending, hold := [], latch := none } ∧
      ∀ e, e ∈ t.au.feed.pending ↔ (e ∈ s.au.feed.pending ∧ e ∉ latched) ∨ e ∈ s.au.feed.hold) ∧
  (∀ (s : State) (codes record : List Byte) (rest : List TxItem),
    s.fli.tx = codes.map TxItem.reply ++ .record record false :: rest →
    exec .feedStatusRecordSent s = .next { s with fli := { s.fli with tx := rest, txOut := codes ++ record } }) ∧
  (∀ (s : State) (codes : List Byte), s.fli.tx = codes.map TxItem.reply → exec .feedStatusRecordSent s = .next s) ∧
  ∀ (s : State) (c : Byte) (own : Bool) (rest : List TxItem), s.pending = [] →
    (s.fli.tx = .reply c :: rest → step s = .next { s with fli := { s.fli with tx := rest, txOut := [c] } }) ∧
    (∀ d bytes, s.fli.tx = .record (c :: d :: bytes) own :: rest →
      step s = .next { s with fli := { s.fli with tx := .record (d :: bytes) own :: rest, txOut := [c] } }) ∧
    (s.fli.tx = .record [c] own :: rest → step s = exec .feedStatusRecordSent s)

/-- R58 to R61: a turn of the update engine takes the head record of the first lane after its pointer whose queue is not empty,
moves the pointer there, and applies the record to the quote it names, or discards it: with UPDATE DISCARDED for an unknown
kind, a reference that does not resolve and a lane that is not the quote's, with BAD PRICE for a price that does not normalise.
With all queues empty the engine waits. -/
def Obligations.UpdateEngineTurn : Prop :=
  (∀ s : State, (∀ n, (s.lane n).queue = []) → exec .updateEngineTurn s = .next s) ∧
  ∀ (s : State) (n : Fin 4) (u : Update) (rest : List Update), (s.lane n).queue = u :: rest →
    (∀ m : Fin 4, (s.lane m).queue ≠ [] → (n - s.uePointer - 1).val ≤ (m - s.uePointer - 1).val) →
    let t : State := { s.updLane n (fun l => { l with queue := rest }) with uePointer := n }
    let turn := exec .updateEngineTurn s
    (u.kind = 0 ∨ 5 < u.kind.toNat → turn = .next (t.raise .updateDiscarded (.lane n))) ∧
    (s.resolvesQuote ⟨u.index, u.gen⟩ = false → turn = .next (t.raise .updateDiscarded (.lane n))) ∧
    ∀ i : Fin 1024, u.index = i.val → s.resolvesQuote ⟨u.index, u.gen⟩ = true →
      ((s.quote i).lane ≠ some n → turn = .next (t.raise .updateDiscarded (.lane n))) ∧
      ((s.quote i).lane = some n →
        (u.kind = 1 ∨ u.kind = 2 → normalise u.scale (s.quote i).scale u.mantissa = none →
          turn = .next (t.raise .badPrice (.lane n))) ∧
        (∀ v, u.kind = 1 → normalise u.scale (s.quote i).scale u.mantissa = some v →
          turn = .next (t.updQuote i (fun q => { q with pendLast := some v, dirty := true }))) ∧
        (∀ v, u.kind = 2 → normalise u.scale (s.quote i).scale u.mantissa = some v →
          turn = .next (t.updQuote i (fun q => { q with pendRef := some v, dirty := true }))) ∧
        (u.kind = 3 → turn = .next (t.updQuote i (fun q => { q with pendHalted := true, dirty := true }))) ∧
        (u.kind = 4 → turn = .next (t.updQuote i (fun q => { q with pendHalted := false, dirty := true }))) ∧
        (u.kind = 5 → turn = .next (t.updQuote i (fun q => { q with pendLast := none, dirty := true }))))

/-- R45, R49, R52, R53, R63: the lane commands of both masters and LINK RELEASE, which ends LINK FAULT and changes nothing when the
link is not in fault. A lane outside 1 to 4 is answered BAD PARAM, or
raises COMMAND REFUSED when the panel sends it; a silence limit of 0 or above 65535 is answered BAD PARAM. -/
def Obligations.LaneCommands : Prop :=
  (∀ (s : State) (n : Fin 4) (h : EdHeader), s.takesCommand → h.dataLength = 0 →
    let lane := n.val + 1
    exec (.laneHold (.editorial h) lane) s =
      .next ((s.updLane n (fun l => { l with held := true })).answers h (.laneHold lane) .good noValues) ∧
    exec (.laneRelease (.editorial h) lane) s =
      .next ((s.updLane n (fun l => { l with held := false, counter := 0 })).answers h (.laneRelease lane) .good noValues) ∧
    exec (.laneFlush h lane) s =
      .next ((s.updLane n (fun l => { l with queue := [] })).answers h (.laneFlush lane) .good noValues) ∧
    (s.fli.fault = true → exec (.linkRelease (.editorial h)) s =
      .next ({ s with fli := { s.fli with fault := false, bad := 0 } }.answers h .linkRelease .good noValues)) ∧
    (s.fli.fault = false → exec (.linkRelease (.editorial h)) s = .next (s.answers h .linkRelease .good noValues)) ∧
    (∀ limit, 1 ≤ limit → limit ≤ 65535 → exec (.setSilenceLimit h lane limit) s =
      .next ((s.updLane n (fun l => { l with limit := limit })).answers h (.setSilenceLimit lane limit) .good noValues)) ∧
    (∀ limit, limit = 0 ∨ 65535 < limit → exec (.setSilenceLimit h lane limit) s =
      .next (s.answers h (.setSilenceLimit lane limit) .badParam noValues))) ∧
  (∀ (s : State) (n : Fin 4), s.run = .running →
    exec (.laneHold .panel (n.val + 1)) s = .next (s.updLane n (fun l => { l with held := true })) ∧
    exec (.laneRelease .panel (n.val + 1)) s = .next (s.updLane n (fun l => { l with held := false, counter := 0 })) ∧
    (s.fli.fault = true → exec (.linkRelease .panel) s = .next { s with fli := { s.fli with fault := false, bad := 0 } }) ∧
    (s.fli.fault = false → exec (.linkRelease .panel) s = .next s)) ∧
  ∀ (s : State) (lane : Nat) (h : EdHeader), lane = 0 ∨ 4 < lane → s.takesCommand → h.dataLength = 0 →
    exec (.laneHold (.editorial h) lane) s = .next (s.answers h (.laneHold lane) .badParam noValues) ∧
    exec (.laneRelease (.editorial h) lane) s = .next (s.answers h (.laneRelease lane) .badParam noValues) ∧
    exec (.laneFlush h lane) s = .next (s.answers h (.laneFlush lane) .badParam noValues) ∧
    (∀ limit, exec (.setSilenceLimit h lane limit) s =
      .next (s.answers h (.setSilenceLimit lane limit) .badParam noValues)) ∧
    exec (.laneHold .panel lane) s = .next (s.raise .commandRefused (.master .panel)) ∧
    exec (.laneRelease .panel lane) s = .next (s.raise .commandRefused (.master .panel))

/-- R50: at each frame start the counter of every ACTIVE, unheld lane counts one, and a lane whose counter reaches its silence
limit becomes SILENT with LANE SILENT; every other lane stays as it was. The row of that moment does the same for its lane (log
entry 6). -/
def Obligations.SilenceCount : Prop :=
  (∀ (s : State) (n : Fin 4),
    ((s.lane n).active = true → (s.lane n).held = false → (feedFrameStart s).lane n =
      { s.lane n with counter := (s.lane n).counter + 1, active := decide ((s.lane n).counter + 1 < (s.lane n).limit) }) ∧
    ((s.lane n).active = false ∨ (s.lane n).held = true → (feedFrameStart s).lane n = s.lane n)) ∧
  (∀ (s : State) (m : Master) (e : Event), (s.au.get m).latch = none →
    (e ∈ ((feedFrameStart s).au.get m).pending ↔ e ∈ (s.au.get m).pending ∨
      ∃ n : Fin 4, e = ⟨.laneSilent, .lane n⟩ ∧ (s.lane n).active = true ∧ (s.lane n).held = false ∧
        (s.lane n).limit ≤ (s.lane n).counter + 1 ∧ 0 < (s.au.get m).level .laneSilent)) ∧
  ∀ (s : State) (n : Fin 4),
    let due := (s.lane n).active = true ∧ (s.lane n).held = false ∧ (s.lane n).limit ≤ (s.lane n).counter + 1
    (due → exec (.laneSilent n) s = .next
      ((s.updLane n (fun l => { l with counter := l.counter + 1, active := false })).raise .laneSilent (.lane n))) ∧
    (¬ due → exec (.laneSilent n) s = .next s)

/-! ### Stories, faces and images -/

/-- R69, R70: LOAD STORY of an even data length of 2 to 4096 bytes designates the lowest FREE story and the lowest free blocks
that hold it, and takes its data; it is refused with BAD PARAM for another length and with FULL for want of a story or of blocks.
With its last byte the story is LOADED with the next generation, the designated blocks and a count of 0, and every other byte of the
text blocks reads as before (two bytes a code, 32 codes a block, R67).
The row LOAD_STORY_COMPLETE carries the last byte in a frame of its own (the model's choice, log entry 23). -/
def Obligations.LoadStory : Prop :=
  (∀ (s : State) (h : EdHeader), s.takesCommand →
    let valid := h.dataLength ≠ 0 ∧ h.dataLength % 2 = 0 ∧ h.dataLength ≤ 4096
    let needed := (h.dataLength / 2 + 31) / 32
    (¬ valid → exec (.loadStory h) s = .next (s.answers h .loadStory .badParam noValues)) ∧
    (valid → (∀ i, (s.story i).state ≠ .free) ∨ s.ts.freeBlocks.length < needed →
      exec (.loadStory h) s = .next (s.answers h .loadStory .full noValues)) ∧
    ∀ i : Fin 256, valid → needed ≤ s.ts.freeBlocks.length → (s.story i).state = .free →
      (∀ j, (s.story j).state = .free → i ≤ j) → exec (.loadStory h) s =
        .next ({ s with ts := { s.ts with loadTarget := some ⟨i, s.ts.freeBlocks.take needed⟩ } }.takes .dataOut h .loadStory)) ∧
  ∀ (s : State) (last : Byte) (target : LoadTarget), s.awaitsLast .loadStory → s.ts.loadTarget = some target →
    let gen := nextGen (s.story target.id).gen
    ∃ t, exec (.loadStoryComplete last) s = .next t ∧
      t = { s with ts := t.ts, eli := s.eli.completed ⟨.good, 0, bytesOf 2 target.id.val ++ bytesOf 2 gen ++ [0]⟩ } ∧
      t.story target.id = ⟨.loaded, gen, s.eli.dataLength / 2, target.blocks, 0⟩ ∧
      (∀ j, j ≠ target.id → t.story j = s.story j) ∧
      (∀ k, k ∈ t.ts.freeBlocks ↔ k ∈ s.ts.freeBlocks ∧ k ∉ target.blocks) ∧ t.ts.loadTarget = none ∧
      ∀ block, target.blocks[s.eli.counter / 64]? = some block → Memory.wf s.ts.text = true →
        ∀ a, Memory.read t.ts.text a = if a = 64 * block + s.eli.counter % 64 then last else Memory.read s.ts.text a

/-- R66, R67, R69, R70, R171: a story sent whole reads back as the codes sent, two bytes a code with the high byte first, in
every state whose free blocks are distinct; and no story that stands in blocks that are not free changes its text. -/
def Obligations.StoryReadsBack : Prop :=
  ∀ (s : State) (h : EdHeader) (bytes : List Byte) (i : Fin 256), s.takesCommand → Memory.wf s.ts.text = true →
    s.ts.freeBlocks.Nodup → bytes.length = h.dataLength → h.dataLength ≠ 0 → h.dataLength % 2 = 0 → h.dataLength ≤ 4096 →
    (h.dataLength / 2 + 31) / 32 ≤ s.ts.freeBlocks.length → (s.story i).state = .free →
    (∀ j, (s.story j).state = .free → i ≤ j) →
    ∃ t u, exec (.loadStory h) s = .next t ∧ exec (.dataOutFrame bytes) t = .next u ∧ (u.story i).state = .loaded ∧
      u.storyText i.val = (List.range (h.dataLength / 2)).map (fun k =>
        256 * (byteAt bytes (2 * k)).toNat + (byteAt bytes (2 * k + 1)).toNat) ∧
      ∀ j, j ≠ i → (s.story j).length ≤ 32 * (s.story j).blocks.length →
        (∀ k ∈ (s.story j).blocks, k ∉ s.ts.freeBlocks) → u.storyText j.val = s.storyText j.val

/-- R68, R71, R72: DELETE STORY of a reference that resolves raises the generation; a story with no instance on screen becomes
FREE and its blocks return to the free set, any other becomes DELETING with its text kept. A DELETING story whose count is 0 is
freed in the same way, and the row of that moment changes nothing for any other story (log entry 6). -/
def Obligations.DeleteStory : Prop :=
  let freed := fun (s : State) (i : Fin 256) (gen : Nat) (t : State) =>
    t = { s with ts := t.ts } ∧ t.ts.text = s.ts.text ∧ t.ts.loadTarget = s.ts.loadTarget ∧ t.story i = Story.free gen ∧
      (∀ j, j ≠ i → t.story j = s.story j) ∧
      (∀ k, k ∈ t.ts.freeBlocks ↔ k ∈ s.ts.freeBlocks ∨ k ∈ (s.story i).blocks) ∧
      (s.ts.freeBlocks.Pairwise (· ≤ ·) → t.ts.freeBlocks.Pairwise (· ≤ ·))
  (∀ (s : State) (h : EdHeader) (r : Ref), s.takesCommand → h.dataLength = 0 →
    (s.resolvesStory r = false → exec (.deleteStory h r) s = .next (s.answers h (.deleteStory r) .notFound noValues)) ∧
    ∀ i : Fin 256, r.index = i.val → s.resolvesStory r = true →
      let returned := bytesOf 2 i.val ++ bytesOf 2 (nextGen r.gen) ++ [0]
      ((s.story i).count = 0 → ∃ t, freed s i (nextGen r.gen) t ∧
        exec (.deleteStory h r) s = .next (t.answers h (.deleteStory r) .good returned)) ∧
      ((s.story i).count ≠ 0 → exec (.deleteStory h r) s = .next ((s.updStory i (fun d =>
        { d with state := .deleting, gen := nextGen r.gen })).answers h (.deleteStory r) .good returned))) ∧
  ∀ (s : State) (i : Fin 256),
    ((s.story i).state = .deleting → (s.story i).count = 0 →
      ∃ t, freed s i (s.story i).gen t ∧ exec (.deletingStoryFreed i) s = .next t) ∧
    (¬ ((s.story i).state = .deleting ∧ (s.story i).count = 0) → exec (.deletingStoryFreed i) s = .next s)

/-- R75, R76, R78: LOAD FACE is refused with BAD PARAM for a parameter out of range and with BUSY for a face in drawing use; it
takes 12 bytes an entry, and with the last byte the face is replaced whole by the glyphs of the entries, provided that every entry
is in range, no code comes twice, every image lies within glyph memory and the face is still not in drawing use. UNLOAD FACE empties
a face that no configured band uses.
The row LOAD_FACE_COMPLETE carries the last byte in a frame of its own (the model's choice, log entry 23). -/
def Obligations.Faces : Prop :=
  let drawing := fun (s : State) (f : Fin 4) => ∃ b c, (s.band b).prog.drawing = true ∧ (s.band b).config = some c ∧ c.face = f
  let used := fun (s : State) (f : Fin 4) => ∃ b c, (s.band b).prog ≠ .off ∧ (s.band b).config = some c ∧ c.face = f
  (∀ (s : State) (h : EdHeader) (a : FaceArgs), s.takesCommand →
    let valid := a.face ≤ 3 ∧ 1 ≤ a.lineHeight ∧ a.lineHeight ≤ 256 ∧ a.baseline ≤ a.lineHeight ∧ a.substitute ≤ 1023 ∧
      a.count ≤ 1024 ∧ h.dataLength = 12 * a.count
    (¬ valid → exec (.loadFace h a) s = .next (s.answers h (.loadFace a) .badParam noValues)) ∧
    ∀ f : Fin 4, valid → a.face = f.val →
      (drawing s f → exec (.loadFace h a) s = .next (s.answers h (.loadFace a) .busy noValues)) ∧
      (¬ drawing s f → a.count ≠ 0 → exec (.loadFace h a) s = .next (s.takes .dataOut h (.loadFace a))) ∧
      (¬ drawing s f → a.count = 0 → exec (.loadFace h a) s = .next (({ s with gs := { s.gs with staging := [] } }.setFace f
        ⟨true, a.lineHeight, a.baseline, a.substitute, Vector.replicate 1024 Glyph.absent⟩).answers h (.loadFace a) .good
          noValues))) ∧
  (∀ (s : State) (a : FaceArgs) (f : Fin 4) (last : Byte) (entries : List (List Byte)), s.awaitsLast (.loadFace a) →
    a.face = f.val → s.gs.staging ++ [last] = entries.flatten → entries.length = a.count → (∀ e ∈ entries, e.length = 12) →
    let valid := (∀ e ∈ entries, entryCode e ≤ 1023 ∧ -64 ≤ (entryGlyph e).bearingX ∧ (entryGlyph e).bearingX ≤ 63 ∧
        (entryGlyph e).offset < 4194304 ∧ ((entryGlyph e).width = 0 ∨ (entryGlyph e).height = 0 ∨
          (entryGlyph e).offset + (entryGlyph e).width * (entryGlyph e).height ≤ 4194304)) ∧
      (entries.map entryCode).Nodup
    let ended := fun (s : State) (r : Result) =>
      { s with gs := { s.gs with staging := [] }, eli := s.eli.completed ⟨r, 0, noValues⟩ }
    (¬ valid → exec (.loadFaceComplete last) s = .next (ended s .badParam)) ∧
    (valid → drawing s f → exec (.loadFaceComplete last) s = .next (ended s .busy)) ∧
    (valid → ¬ drawing s f → ∃ face : Face,
      exec (.loadFaceComplete last) s = .next (ended (s.setFace f face) .good) ∧
      face.loaded = true ∧ face.lineHeight = a.lineHeight ∧ face.baseline = a.baseline ∧ face.substitute = a.substitute ∧
      (∀ (code : Fin 1024) (e : List Byte), e ∈ entries → entryCode e = code.val → tget face.glyphs code = entryGlyph e) ∧
      ∀ code : Fin 1024, (∀ e ∈ entries, entryCode e ≠ code.val) → tget face.glyphs code = Glyph.absent)) ∧
  ∀ (s : State) (h : EdHeader) (face : Nat), s.takesCommand → h.dataLength = 0 →
    (3 < face → exec (.unloadFace h face) s = .next (s.answers h (.unloadFace face) .badParam noValues)) ∧
    ∀ f : Fin 4, face = f.val →
      (used s f → exec (.unloadFace h face) s = .next (s.answers h (.unloadFace face) .busy noValues)) ∧
      (¬ used s f →
        exec (.unloadFace h face) s = .next ((s.setFace f Face.empty).answers h (.unloadFace face) .good noValues))

/-- R74, R77, R171: LOAD GLYPH IMAGES is refused with BAD PARAM for no data or a range past the end of glyph memory, and with
BUSY for a range that meets an image of a face in drawing use. Each byte is written at the offset plus its place in the data, and
every other byte of glyph memory reads as before; the byte that makes the data whole ends the command with GOOD.
The row LOAD_GLYPH_IMAGES_COMPLETE carries the last byte in a frame of its own (the model's choice, log entry 23). -/
def Obligations.GlyphImages : Prop :=
  (∀ (s : State) (h : EdHeader) (offset : Nat), s.takesCommand →
    let meets := ∃ f g, s.drawingUse f = true ∧ g ∈ tlist (s.face f).glyphs ∧ g.present = true ∧ 0 < g.width ∧ 0 < g.height ∧
      g.offset < offset + h.dataLength ∧ offset < g.offset + g.width * g.height
    let valid := h.dataLength ≠ 0 ∧ offset + h.dataLength ≤ 4194304
    (¬ valid → exec (.loadGlyphImages h offset) s = .next (s.answers h (.loadImages offset) .badParam noValues)) ∧
    (valid → meets → exec (.loadGlyphImages h offset) s = .next (s.answers h (.loadImages offset) .busy noValues)) ∧
    (valid → ¬ meets → exec (.loadGlyphImages h offset) s = .next (s.takes .dataOut h (.loadImages offset)))) ∧
  (∀ (s : State) (offset : Nat) (bytes : List Byte), s.listens → s.eli.phase = .dataOut →
    s.eli.command = some (.loadImages offset) → offset + s.eli.dataLength ≤ 4194304 → Memory.wf s.gs.mem = true →
    bytes ≠ [] → s.eli.counter + bytes.length ≤ s.eli.dataLength →
    ∃ t, exec (.dataOutFrame bytes) s = .next t ∧
      t = { s with gs := { s.gs with mem := t.gs.mem }, eli := t.eli } ∧
      (∀ a, Memory.read t.gs.mem a =
        if offset + s.eli.counter ≤ a ∧ a < offset + s.eli.counter + bytes.length then
          byteAt bytes (a - (offset + s.eli.counter)) else Memory.read s.gs.mem a) ∧
      t.eli.counter = s.eli.counter + bytes.length ∧
      (t.eli.phase = if t.eli.counter = s.eli.dataLength then .statusReady else .dataOut) ∧
      (t.eli.counter = s.eli.dataLength → t.eli.status = some ⟨.good, 0, noValues⟩)) ∧
  ∀ (s : State) (offset : Nat) (last : Byte), s.awaitsLast (.loadImages offset) → offset + s.eli.dataLength ≤ 4194304 →
    exec (.loadGlyphImagesComplete last) s = .next { s with
      gs := { s.gs with mem := Memory.write s.gs.mem (offset + s.eli.counter) last },
      eli := s.eli.completed ⟨.good, 0, noValues⟩ }

/-! ### Run lists -/

/-- R86, R87, R89, R91: DELETE and CLEAR of EDIT RUN LIST and COPY BANK change the shadow bank alone, in one step, and return
its new length. They are answered BUSY while the band holds a pending-commit record, and BAD PARAM for a DELETE past the end of the
bank. Before anything else they are answered BAD PARAM, whatever the band holds, for a band above 3, for a data length above 0, and a
DELETE for no items or more than 256. -/
def Obligations.ShadowBankEdits : Prop :=
  (∀ (s : State) (h : EdHeader) (b : Fin 4), s.takesCommand → h.dataLength = 0 →
    let bank := if (s.lists b).onAirB then (s.lists b).bankA else (s.lists b).bankB
    let other := if (s.lists b).onAirB then (s.lists b).bankB else (s.lists b).bankA
    let wrote := fun (items : List Item) (c : EdCommand) =>
      (s.updLists b (fun r => if r.onAirB then { r with bankA := items } else { r with bankB := items })).answers h c .good
        (bytesOf 2 items.length ++ [0, 0, 0])
    ((s.lists b).commit = none →
      (∀ pos count, 1 ≤ count → count ≤ 256 → pos + count ≤ bank.length → exec (.editDelete h b.val pos count) s =
        .next (wrote (bank.take pos ++ bank.drop (pos + count)) (.edit b.val 1 pos count))) ∧
      (∀ pos count, count = 0 ∨ 256 < count ∨ bank.length < pos + count → exec (.editDelete h b.val pos count) s =
        .next (s.answers h (.edit b.val 1 pos count) .badParam noValues)) ∧
      (∀ pos count, exec (.editClear h b.val pos count) s = .next (wrote [] (.edit b.val 3 pos count))) ∧
      exec (.copyBank h b.val) s = .next (wrote other (.copyBank b.val))) ∧
    ((s.lists b).commit ≠ none →
      (∀ pos count, 1 ≤ count → count ≤ 256 → exec (.editDelete h b.val pos count) s =
        .next (s.answers h (.edit b.val 1 pos count) .busy noValues)) ∧
      (∀ pos count, exec (.editClear h b.val pos count) s =
        .next (s.answers h (.edit b.val 3 pos count) .busy noValues)) ∧
      exec (.copyBank h b.val) s = .next (s.answers h (.copyBank b.val) .busy noValues))) ∧
  ∀ (s : State) (h : EdHeader) (band : Nat), s.takesCommand →
    (∀ pos count, 3 < band ∨ h.dataLength ≠ 0 ∨ count = 0 ∨ 256 < count → exec (.editDelete h band pos count) s =
      .next (s.answers h (.edit band 1 pos count) .badParam noValues)) ∧
    (3 < band ∨ h.dataLength ≠ 0 →
      (∀ pos count, exec (.editClear h band pos count) s =
        .next (s.answers h (.edit band 3 pos count) .badParam noValues)) ∧
      exec (.copyBank h band) s = .next (s.answers h (.copyBank band) .badParam noValues))

/-- R87, R183: INSERT and REPLACE take 9 bytes an item when they fit the shadow bank and no record is pending; an INSERT that
would take the bank above 256 items is answered FULL. Before anything else both are answered BAD PARAM, whatever the band holds, for a
band above 3, for no items or more than 256, and for a data length that is not 9 bytes an item. The 9 bytes of an item entry spell the item (R85); an entry is none that has another kind code, a number out of range, a generation of 0 on a
QUOTE or a STORY, or a colour on another kind than STORY (R88 check 3), or a generation that is not 0 on a GLYPH or a SPACER (DEDUCED, log
entry 17; flag bits that the table does not name are not read, log entry 16). R88, R89: with the
last byte of its items an INSERT or a REPLACE puts them into the shadow bank in one step and returns the new length, when
every entry is an item and every reference resolves. The first entry that is none is answered BAD PARAM, and else the first
that does not resolve NOT FOUND, each with the entry's number and with the bank unchanged. Before the entries are looked at, the
edit is judged again by the commit pending and the shadow bank as they then stand: BUSY, BAD PARAM or FULL, with residue 0. A commit
created and carried out during the data phase leaves no record, and such an edit is not BUSY (the model's choice, log entry 30).
The row EDIT_DATA_COMPLETE carries the last byte in a frame of its own (the model's choice, log entry 23). -/
def Obligations.EditsWithItems : Prop :=
  ((∀ i : Item, (∀ g, i.gap = some g → g ≤ 1024) →
    (match i.kind with
      | .quote r => r.index ≤ 1023 ∧ 1 ≤ r.gen ∧ r.gen ≤ 65535 ∧ i.colour = none
      | .story r => r.index ≤ 255 ∧ 1 ≤ r.gen ∧ r.gen ≤ 65535 ∧ ∀ c, i.colour = some c → c ≤ 9
      | .glyph c => c ≤ 65535 ∧ i.colour = none
      | .spacer w => 1 ≤ w ∧ w ≤ 4096 ∧ i.colour = none) →
    (itemBytes i).length = 9 ∧ itemOf (itemBytes i) = some i) ∧
  (∀ e : List Byte, e.length = 9 →
    let kind := byteAt e 0
    let first := 256 * (byteAt e 2).toNat + (byteAt e 3).toNat
    let gen := 256 * (byteAt e 4).toNat + (byteAt e 5).toNat
    let gap := if (byteAt e 1).getLsbD 0 then some (256 * (byteAt e 6).toNat + (byteAt e 7).toNat) else none
    let colour := if (byteAt e 1).getLsbD 1 then some (byteAt e 8).toNat else none
    let refused := kind ∉ [(1 : Byte), 2, 3, 4] ∨ (kind = 1 ∧ (1023 < first ∨ gen = 0)) ∨ (kind = 2 ∧ (255 < first ∨ gen = 0)) ∨
      (kind = 3 ∧ gen ≠ 0) ∨ (kind = 4 ∧ (first = 0 ∨ 4096 < first ∨ gen ≠ 0)) ∨ (∃ g, gap = some g ∧ 1024 < g) ∨
      (∃ k, colour = some k ∧ (kind ≠ 2 ∨ 9 < k))
    (refused → itemOf e = none) ∧
    (¬ refused → itemOf e = some ⟨if kind = 1 then .quote ⟨first, gen⟩ else if kind = 2 then .story ⟨first, gen⟩
      else if kind = 3 then .glyph first else .spacer first, gap, colour⟩)) ∧
  ∀ (s : State) (h : EdHeader) (b : Fin 4) (pos count : Nat), s.takesCommand → 1 ≤ count → count ≤ 256 →
    h.dataLength = 9 * count →
    let n := (s.lists b).shadow.length
    ((s.lists b).commit = none →
      (pos ≤ n → n + count ≤ 256 →
        exec (.editInsert h b.val pos count) s = .next (s.takes .dataOut h (.edit b.val 0 pos count))) ∧
      (pos ≤ n → 256 < n + count →
        exec (.editInsert h b.val pos count) s = .next (s.answers h (.edit b.val 0 pos count) .full noValues)) ∧
      (n < pos →
        exec (.editInsert h b.val pos count) s = .next (s.answers h (.edit b.val 0 pos count) .badParam noValues)) ∧
      (pos + count ≤ n →
        exec (.editReplace h b.val pos count) s = .next (s.takes .dataOut h (.edit b.val 2 pos count))) ∧
      (n < pos + count →
        exec (.editReplace h b.val pos count) s = .next (s.answers h (.edit b.val 2 pos count) .badParam noValues))) ∧
    ((s.lists b).commit ≠ none →
      exec (.editInsert h b.val pos count) s = .next (s.answers h (.edit b.val 0 pos count) .busy noValues) ∧
      exec (.editReplace h b.val pos count) s = .next (s.answers h (.edit b.val 2 pos count) .busy noValues))) ∧
  (∀ (s : State) (h : EdHeader) (band pos count : Nat), s.takesCommand →
    3 < band ∨ count = 0 ∨ 256 < count ∨ h.dataLength ≠ 9 * count →
    exec (.editInsert h band pos count) s = .next (s.answers h (.edit band 0 pos count) .badParam noValues) ∧
    exec (.editReplace h band pos count) s = .next (s.answers h (.edit band 2 pos count) .badParam noValues)) ∧
  (∀ (s : State) (b : Fin 4) (op pos count : Nat) (last : Byte) (entries : List (List Byte)), op = 0 ∨ op = 2 →
    s.awaitsLast (.edit b.val op pos count) → s.editStaging ++ [last] = entries.flatten → entries.length = count →
    (∀ e ∈ entries, e.length = 9) → (s.lists b).commit = none →
    (op = 0 → pos ≤ (s.lists b).shadow.length ∧ (s.lists b).shadow.length + count ≤ 256) →
    (op = 2 → pos + count ≤ (s.lists b).shadow.length) →
    let ended := fun (t : State) (r : Result) (v : List Byte) =>
      { t with editStaging := [], eli := s.eli.completed ⟨r, 0, v⟩ }
    (∀ items : List Item, entries.map itemOf = items.map some → (∀ i ∈ items, s.admissible i.kind = true) →
      let bank := (s.lists b).shadow.take pos ++ items ++ (s.lists b).shadow.drop (if op = 0 then pos else pos + count)
      exec (.editDataComplete last) s = .next (ended
        (s.updLists b (fun r => if r.onAirB then { r with bankA := bank } else { r with bankB := bank })) .good
          (bytesOf 2 bank.length ++ [0, 0, 0]))) ∧
    (∀ (before after : List (List Byte)) (e : List Byte), entries = before ++ e :: after →
      (∀ x ∈ before, itemOf x ≠ none) → itemOf e = none →
      exec (.editDataComplete last) s = .next (ended s .badParam (bytesOf 2 before.length ++ [0, 0, 0]))) ∧
    ∀ (before after : List Item) (i : Item), entries.map itemOf = (before ++ i :: after).map some →
      (∀ x ∈ before, s.admissible x.kind = true) → s.admissible i.kind = false →
      exec (.editDataComplete last) s = .next (ended s .notFound (bytesOf 2 before.length ++ [0, 0, 0]))) ∧
  ∀ (s : State) (b : Fin 4) (op pos count : Nat) (last : Byte), op = 0 ∨ op = 2 → s.awaitsLast (.edit b.val op pos count) →
    let n := (s.lists b).shadow.length
    let refused := fun (r : Result) => exec (.editDataComplete last) s =
      .next { s with editStaging := [], eli := s.eli.completed ⟨r, 0, noValues⟩ }
    ((s.lists b).commit ≠ none → refused .busy) ∧
    ((s.lists b).commit = none → (op = 0 ∧ n < pos) ∨ (op = 2 ∧ n < pos + count) → refused .badParam) ∧
    ((s.lists b).commit = none → op = 0 → pos ≤ n → 256 < n + count → refused .full)

/-! ### The editorial link -/

/-- R23, R64, R73, R79, R99, R123, R124, R166, R170, R172, R190: a read whose parameters are in range and whose data length is the
length of its reports begins; any other is answered BAD PARAM. -/
def Obligations.ReadsBegin : Prop :=
  ∀ (s : State) (h : EdHeader), s.takesCommand →
    let begins := fun (i : Instr) (c : EdCommand) (ok : Prop) =>
      (ok → exec i s = .next (s.takes .dataIn h c)) ∧ (¬ ok → exec i s = .next (s.answers h c .badParam noValues))
    (∀ start count d, begins (.readQuotes h start count d) (.readQuotes start count d)
      (start ≤ 1023 ∧ 1 ≤ count ∧ count ≤ 1024 ∧ d ≤ 2 ∧ h.dataLength = 32 * count)) ∧
    begins (.readLanes h) .readLanes (h.dataLength = 39) ∧
    (∀ start count, begins (.readStories h start count) (.readStories start count)
      (start ≤ 255 ∧ 1 ≤ count ∧ count ≤ 256 ∧ h.dataLength = 9 * count + 4)) ∧
    (∀ face start count, begins (.readFace h face start count) (.readFace face start count)
      (face ≤ 3 ∧ start ≤ 1023 ∧ 1 ≤ count ∧ count ≤ 1024 ∧ h.dataLength = 10 + 12 * count)) ∧
    (∀ band bank start count d, begins (.readRunList h band bank start count d) (.readRunList band bank start count d)
      (band ≤ 3 ∧ bank ≤ 1 ∧ start ≤ 255 ∧ 1 ≤ count ∧ count ≤ 256 ∧ d ≤ 2 ∧ h.dataLength = 6 + 11 * count)) ∧
    (∀ band, begins (.readBand h band) (.readBand band) (band ≤ 3 ∧ h.dataLength = 119)) ∧
    (∀ band, begins (.readWindow h band) (.readWindow band) (band ≤ 3 ∧ h.dataLength = 1601)) ∧
    begins (.readOutput h) .readOutput (h.dataLength = 36) ∧
    begins (.readEvents h) .readEvents (h.dataLength = 129)

/-- R23, R172: READ QUOTES clocked in one frame sends one snapshot a record, from the start index upward, downward or not moving,
round the table; the read then stands in STATUS READY with GOOD, and nothing outside the link has changed. Each symbol has at
most eight codes (R1). R189, R190: READ EVENTS sends the number of pairs pending at its first byte, and the pairs in the
order in which they were first raised, filled up with FFh. With its last byte the pairs latched leave the pending set and the
pairs held back meanwhile join it.
The row READ_EVENTS_COMPLETE clocks what is left of READ EVENTS (the model's choice, log entry 23). -/
def Obligations.ReadData : Prop :=
  (∀ (s : State) (start count d : Nat), s.listens → s.eli.phase = .dataIn →
    s.eli.command = some (.readQuotes start count d) → s.eli.dataLength = 32 * count → s.eli.counter = 0 → s.eli.latch = [] →
    s.eli.reportNo = 0 → start ≤ 1023 → 1 ≤ count → count ≤ 1024 → d ≤ 2 →
    (∀ i symbol, (s.quote i).symbol = some symbol → symbol.length ≤ 8) →
    let index := fun k : Nat => if d = 0 then (start + k) % 1024 else if d = 1 then (start + 1024 - k) % 1024 else start
    ∃ t, exec (.dataInFrame (32 * count)) s = .next t ∧ t = { s with eli := t.eli } ∧ t.eli.phase = .statusReady ∧
      t.eli.status = some ⟨.good, 0, noValues⟩ ∧
      t.eli.dout = 0 :: (List.range count).flatMap (fun k => quoteBytes (s.quote (Fin.ofNat 1024 (index k))))) ∧
  ((∀ s : State, s.listens → s.eli.phase = .dataIn → s.eli.command = some .readEvents → s.eli.dataLength = 129 →
    s.eli.counter = 0 → s.eli.latch = [] → s.au.editorial.pending.length ≤ 64 → s.au.editorial.hold = [] →
    ∃ t, exec .readEventsComplete s = .next t ∧ t = { s with eli := t.eli, au := { s.au with editorial := t.au.editorial } } ∧
      t.au.editorial = { s.au.editorial with pending := [], hold := [], latch := none } ∧
      t.eli.dout = [0, byteOf s.au.editorial.pending.length] ++
        s.au.editorial.pending.flatMap (fun e => [byteOf e.kind.number.val, byteOf e.source.code]) ++
        List.replicate (128 - 2 * s.au.editorial.pending.length) 0xFF) ∧
  ∀ (s : State) (latched : List Event), s.listens → s.eli.phase = .dataIn → s.eli.command = some .readEvents →
    s.eli.counter < s.eli.dataLength → s.eli.latch.length = s.eli.dataLength - s.eli.counter →
    s.au.editorial.latch = some latched →
    ∃ t, exec .readEventsComplete s = .next t ∧ t = { s with eli := t.eli, au := { s.au with editorial := t.au.editorial } } ∧
      t.eli.phase = .statusReady ∧ t.eli.status = some ⟨.good, 0, noValues⟩ ∧ t.eli.dout = 0 :: s.eli.latch ∧
      t.au.editorial = { s.au.editorial with pending := t.au.editorial.pending, hold := [], latch := none } ∧
      ∀ e, e ∈ t.au.editorial.pending ↔ (e ∈ s.au.editorial.pending ∧ e ∉ latched) ∨ e ∈ s.au.editorial.hold)

/-- R64, R73, R79, R99, R124, R166, R172, R183: the bytes that a read clocked in one frame sends: those of its reports in their
order, most significant byte first, with nothing changed outside the link. The fields of a quote snapshot (R23), an absent lane as 0
(the model's choice, log entry 24), and of a configuration record received and sent. R123: READ BAND sends the stored record or 96
zeros and the fields of the band; the target is the effective target (R113) of a CRAWL band, and any other a free value
(log entry 10). That READ WINDOW sends the break mark in bit 0 and the presence of a colour in bit 1 of its flags byte and zeros for the reference
of a SPACER, and that empty positions of READ RUN LIST and READ WINDOW and an absent configuration are sent as zeros, is the model's
reading, not R123, R124 or R183's words (DEDUCED, log entries 18 and 27). R172: a read goes on over any number of frames; each report is taken from the state at its first byte, and a report begun is
sent from its latch. -/
def Obligations.ReadReports : Prop :=
  let reading := fun (s : State) (c : EdCommand) (n : Nat) => s.listens ∧ s.eli.phase = .dataIn ∧
    s.eli.command = some c ∧ s.eli.dataLength = n ∧ s.eli.counter = 0 ∧ s.eli.latch = [] ∧ s.eli.reportNo = 0
  let ends := fun (s t : State) (bytes : List Byte) (free : Nat) =>
    t = { s with eli := t.eli, freeIndex := s.freeIndex + free } ∧ t.eli.phase = .statusReady ∧
      t.eli.status = some ⟨.good, 0, noValues⟩ ∧ t.eli.dout = 0 :: bytes
  let sends := fun (c : EdCommand) (n : Nat) (s : State) (bytes : List Byte) => reading s c n →
    bytes.length = n ∧ ∃ t, exec (.dataInFrame n) s = .next t ∧ ends s t bytes 0
  let number := fun v : Nat => bytesOf 2 v
  let yes := fun b : Bool => byteOf (if b then 1 else 0)
  let kindOf := fun k : InstKind => match k with
    | .quote r => (1, r.index, r.gen)
    | .story r => (2, r.index, r.gen)
    | .glyph c => (3, c, 0)
    | .spacer => (4, 0, 0)
  let record := fun (c : ConfigRecord) (high : Nat) (unread : List Byte) =>
    let wide := fun v : Nat => number (v + 1024 * high)
    [byteOf c.presentation] ++ number c.yOrigin ++ number c.height ++ [byteOf c.face] ++ number c.baseline ++
      (tlist c.palette).flatMap (fun p => wide p.r ++ wide p.g ++ wide p.b) ++ wide c.backKey ++ number c.gap ++
      [byteOf c.quantum] ++ number c.speed ++ number c.accel ++ number c.clearSpeed ++
      [byteOf c.fade, byteOf c.changeStyle, byteOf c.smooth] ++ number c.flipHold ++
      [byteOf c.flipTransition, byteOf c.rollFrames] ++ number c.arrowUp ++ number c.arrowDown ++ number c.arrowSame ++
      number c.arrowHalt ++ unread
  let stored := fun c : BandConfig => record ⟨match c.presentation with
      | .crawl => 0
      | .flip => 1, c.yOrigin, c.height, c.face.val, c.baseline, c.palette, c.backKey, c.gap, c.quantum, c.speedTarget,
    c.accel, c.clearSpeed, c.fade, match c.changeStyle with
      | .abs => 0
      | .pct => 1
      | .both => 2, if c.smooth then 1 else 0, c.flipHold, match c.flipTransition with
      | .cut => 0
      | .roll => 1, c.rollFrames, c.arrowUp, c.arrowDown, c.arrowSame, c.arrowHalt⟩ 0 [0, 0]
  (∀ s : State, sends .readLanes 39 s ([0, 1, 2, 3].flatMap (fun n : Fin 4 =>
      [byteOf (n.val + 1), yes (s.lane n).active, yes (s.lane n).held] ++ number (s.lane n).counter ++
        number (s.lane n).limit ++ number (s.lane n).queue.length) ++
    [yes s.fli.fault, byteOf s.fli.bad, byteOf (s.uePointer.val + 1)])) ∧
  (∀ (s : State) (start count : Nat), start ≤ 255 → 1 ≤ count → count ≤ 256 →
    sends (.readStories start count) (9 * count + 4) s ((List.range count).flatMap (fun k =>
      let id := Fin.ofNat 256 (start + k)
      let d := s.story id
      byteOf id.val :: (match d.state with
        | .free => 0
        | .loaded => 1
        | .deleting => 2) :: number d.gen ++ number d.length ++ [byteOf d.blocks.length] ++ number d.count) ++
      number s.ts.freeBlocks.length ++
      number ((List.finRange 256).filter (fun i => decide ((s.story i).state = .free))).length)) ∧
  (∀ (s : State) (f : Fin 4) (start count : Nat), start ≤ 1023 → 1 ≤ count → count ≤ 1024 →
    let d := s.face f
    sends (.readFace f.val start count) (10 + 12 * count) s ([yes d.loaded] ++ number d.lineHeight ++ number d.baseline ++
      number d.substitute ++ number ((List.finRange 1024).filter (fun i => (tget d.glyphs i).present)).length ++
      [byteOf (bit (s.drawingUse f) + 2 * bit (s.configuredUse f))] ++ (List.range count).flatMap (fun k =>
        let code := Fin.ofNat 1024 (start + k)
        let g := tget d.glyphs code
        number code.val ++ [byteOf g.advance, BitVec.ofInt 8 g.bearingX, BitVec.ofInt 8 g.bearingY, byteOf g.width,
          byteOf g.height] ++ bytesOf 4 g.offset ++ [yes g.present]))) ∧
  (∀ (s : State) (b : Fin 4) (bankB : Bool) (start count d : Nat), start ≤ 255 → 1 ≤ count → count ≤ 256 → d ≤ 2 →
    let r := s.lists b
    let bank := if bankB then r.bankB else r.bankA
    sends (.readRunList b.val (bit bankB) start count d) (6 + 11 * count) s (yes bankB :: number bank.length ++
      [yes (r.onAirB == bankB), match r.commit with
        | none => 0
        | some .immediate => 1
        | some .loopEnd => 2, byteOf (s.band b).cursor] ++ (List.range count).flatMap (fun k =>
        let place := if d = 0 then (start + k) % 256 else if d = 1 then (start + 256 - k) % 256 else start
        byteOf place :: match bank[place]? with
          | none => List.replicate 10 0
          | some i =>
            let field := match i.kind with
              | .quote r => (1, r.index, r.gen)
              | .story r => (2, r.index, r.gen)
              | .glyph c => (3, c, 0)
              | .spacer w => (4, w, 0)
            [1, byteOf field.1, byteOf (bit i.gap.isSome + 2 * bit i.colour.isSome)] ++ number field.2.1 ++
              number field.2.2 ++ number (i.gap.getD 0) ++ [byteOf (i.colour.getD 0)]))) ∧
  (∀ (s : State) (b : Fin 4), reading s (.readBand b.val) 119 → ∃ t target,
    exec (.dataInFrame 119) s = .next t ∧
    (∀ c, (s.band b).config = some c → c.presentation = .crawl → target = if (s.band b).halted then 0 else
      if (s.band b).prog = .clearing then c.clearSpeed else c.speedTarget) ∧
    let d := s.band b
    ends s t ((match d.config with
        | none => List.replicate 96 0
        | some c => stored c) ++
      [yes d.config.isSome, byteOf d.prog.code, yes d.halted] ++ number d.speed ++ number target ++
      [if d.halted = false then 0 else if 0 < d.speed then 1 else 2, byteOf d.cursor, byteOf d.window.length,
        yes d.deferral, byteOf d.queue.length, byteOf d.breaks.length] ++ number (d.saved.getD 65535) ++
      [match d.page.phase with
        | .empty => 0
        | .holding => 1
        | .rolling => 2
        | .leaving => 3] ++ number d.page.hold ++ [byteOf d.page.roll, byteOf d.page.outgoing,
        byteOf (s.vis b).state.code, byteOf (s.vis b).step, yes (s.tally b)]) 1) ∧
  (∀ (s : State) (b : Fin 4),
    let w := (s.band b).window
    sends (.readWindow b.val) 1601 s (byteOf w.length :: (List.range 64).flatMap (fun k => byteOf k :: match w[k]? with
      | none => List.replicate 24 0
      | some i =>
        let field := kindOf i.kind
        [1, byteOf field.1, byteOf (bit i.brk + 2 * bit i.colour.isSome)] ++ number field.2.1 ++ number field.2.2 ++
          bytesOfInt 4 i.x ++ bytesOfInt 4 (i.x / 256) ++ bytesOf 4 i.slot ++ number i.gap ++ [byteOf (i.colour.getD 0)] ++
          bytesOfInt 2 i.voffset))) ∧
  (∀ s : State, sends .readOutput 36 s ([byteOf s.tu.lock.code] ++ number (if s.straps.rate5994 then 16683 else 20000) ++
    [yes s.cleanPin, yes s.cmp.edFlag, yes s.cmp.panelFlag, yes s.cmp.sampled, yes s.cmp.ack] ++
    [0, 1, 2, 3].flatMap (fun b : Fin 4 => [byteOf (s.vis b).state.code, byteOf (s.vis b).step, yes (s.tally b)]) ++
    [0, 1, 2, 3].flatMap (fun n : Fin 4 => [yes (s.pin n).function, byteOf (s.pin n).select.code, yes (s.pin n).level,
      yes (s.driven n)]))) ∧
  (([.off, .ready, .running, .draining, .clearing, .breaking] : List Prog).map Prog.code = [0, 1, 2, 3, 4, 5] ∧
    ([.shown, .fadingOut, .hidden, .fadingIn] : List VisState).map VisState.code = [0, 1, 2, 3] ∧
    ([.seeking, .locked, .freeRun] : List LockState).map LockState.code = [0, 1, 2] ∧
    ([.attentionFeed, .attentionEditorial, .attentionPanel, .tally 0, .tally 1, .tally 2, .tally 3, .cleanAck] :
      List PinSelect).map PinSelect.code = [0, 1, 2, 4, 5, 6, 7, 8]) ∧
  (∀ (q : Quote) (symbol : List Byte), q.symbol.getD [] = symbol → symbol.length ≤ 8 →
    let absent := fun (k low : Nat) (z : Option Int) => bytesOfInt k (z.getD (-(low : Int)))
    quoteBytes q = byteOf ((match q.state with
        | .free => 0
        | .live => 1
        | .retiring => 2) + 16 * symbol.length) :: number q.gen ++ symbol ++ List.replicate (8 - symbol.length) 0 ++
      [byteOf (16 * q.scale + q.decimals), byteOf ((match q.lane with
        | none => 0
        | some n => n.val + 1) + match q.dispSource with
          | .live => 0
          | .frozen => 16
          | .overridden => 32),
        byteOf (bit q.dispHalted + 2 * bit q.stale + 4 * bit q.dirty + (match q.netSign with
          | .zero => 0
          | .plus => 16
          | .minus => 32) + match q.tick with
            | .none => 0
            | .up => 64
            | .down => 128), byteOf q.flash] ++ number q.count ++
      absent 4 0x80000000 q.dispLast ++ absent 4 0x80000000 q.dispRef ++ absent 4 0x80000000 q.change ++
      absent 3 0x800000 q.percent) ∧
  (∀ (c : ConfigRecord) (high : Nat) (a b : Byte),
    (∀ v ∈ [c.presentation, c.face, c.quantum, c.fade, c.changeStyle, c.smooth, c.flipTransition, c.rollFrames], v < 256) →
    (∀ v ∈ [c.yOrigin, c.height, c.baseline, c.gap, c.speed, c.accel, c.clearSpeed, c.flipHold, c.arrowUp, c.arrowDown,
      c.arrowSame, c.arrowHalt], v < 65536) →
    (∀ p ∈ tlist c.palette, p.r < 1024 ∧ p.g < 1024 ∧ p.b < 1024) → c.backKey < 1024 → high < 64 →
    (record c high [a, b]).length = 96 ∧ configOf (record c high [a, b]) = c) ∧
  (∀ (s : State) (n m : Nat), s.listens → s.eli.phase = .dataIn → s.eli.command ≠ none →
    s.eli.counter + n < s.eli.dataLength →
    ∃ t u, exec (.dataInFrame n) s = .next t ∧ exec (.dataInFrame m) t = .next u ∧ t.eli.phase = .dataIn ∧
      t.eli.counter = s.eli.counter + n ∧
      exec (.dataInFrame (n + m)) s =
        .next { u with eli := { u.eli with dout := t.eli.dout ++ u.eli.dout.drop 1 } }) ∧
  ∀ (s : State) (c : EdCommand), s.listens → s.eli.phase = .dataIn → s.eli.command = some c →
    s.eli.counter + 1 < s.eli.dataLength →
    let sent := fun (bytes : List Byte) (k : Nat) => exec (.dataInFrame 1) s = .next { s with eli := { s.eli with
      counter := s.eli.counter + 1, latch := bytes.tail, reportNo := k, dout := [0, bytes.headD 0] } }
    (s.eli.latch ≠ [] → sent s.eli.latch s.eli.reportNo) ∧
    (s.eli.latch = [] → c ≠ .readEvents → (∀ b, c ≠ .readBand b) → sent (report c s.eli.reportNo s) (s.eli.reportNo + 1))

/-- R173, R176: twelve bytes of STATUS return the command's status block and put the link in IDLE; fewer leave the status to be
read again from its first byte; in EXECUTING the block is PENDING. A LINK RESET drives 00h and puts the link in IDLE from every
phase: a data phase ends without effect but for the bytes already written to the memories, an incomplete READ EVENTS gives back
the pairs held, and nothing else changes. -/
def Obligations.StatusAndLinkReset : Prop :=
  (∀ (s : State) (st : Status) (n : Nat), s.listens → s.eli.phase = .statusReady → s.eli.status = some st →
    st.values.length = 5 →
    let block := [0x53, s.eli.tag, byteOf st.result.code] ++ bytesOf 4 st.residue ++ st.values
    (n < 12 → exec (.statusFrame n) s = .next { s with eli := { s.eli with dout := 0 :: block.take n } }) ∧
    (12 ≤ n → s.eli.command ≠ some .deviceReset →
      exec (.statusFrame n) s = .next { s with eli :=
        { Eli.reset with ticket := s.eli.ticket, dout := 0 :: (block ++ List.replicate (n - 12) 0) } })) ∧
  (∀ (s : State) (n : Nat), s.listens → s.eli.phase = .executing → n ≤ 12 → exec (.statusFrame n) s = .next { s with
    eli := { s.eli with dout := 0 :: [0x53, s.eli.tag, 0x01, 0, 0, 0, 0, 0, 0, 0, 0, 0].take n } }) ∧
  ∀ s : State, s.run ≠ .held → s.eli.straddles = false →
    let idle := { Eli.reset with ticket := s.eli.ticket, dout := [0] }
    (s.eli.phase = .dataOut → exec .linkReset s = .next { s with
      eli := idle, ts := { s.ts with loadTarget := none }, gs := { s.gs with staging := [] }, editStaging := [] }) ∧
    (s.eli.phase = .dataIn → s.eli.command = some .readEvents → s.au.editorial.latch ≠ none →
      ∃ t, exec .linkReset s = .next t ∧ t = { s with eli := idle, au := { s.au with editorial := t.au.editorial } } ∧
        t.au.editorial = { s.au.editorial with pending := t.au.editorial.pending, hold := [], latch := none } ∧
        ∀ e, e ∈ t.au.editorial.pending ↔ e ∈ s.au.editorial.pending ∨ e ∈ s.au.editorial.hold) ∧
    (s.eli.phase ≠ .dataOut →
      ¬ (s.eli.phase = .dataIn ∧ s.eli.command = some .readEvents ∧ s.au.editorial.latch ≠ none) →
      exec .linkReset s = .next { s with eli := idle })

/-- R169, R171, R174, R175: a frame of the wrong kind for the phase puts the link in PHASE ERROR at its kind byte and settles what was
in flight: a data phase ends without effect but for the bytes already written to the memories, a READ EVENTS that has begun
returns nothing and merges its hold set, and nothing else changes. The tag, data length and counter of the command in flight are
kept, and are 0 from IDLE and after a LENGTH ERROR, which ran no command. A STATUS frame, also the one that enters PHASE ERROR,
returns the block of PHASE ERROR with that tag and the bytes not transferred as residue; in PHASE ERROR every other frame is ignored.
A data byte past the data length does the same after the command's own effect, which stands. -/
def Obligations.PhaseErrors : Prop :=
  let unknown := fun kind : Byte => kind ∉ [0x01, 0x02, 0x03, 0x04, 0x0F]
  let block := fun (e : Eli) (n : Nat) =>
    0 :: (([0x53, e.tag, 0x09] ++ bytesOf 4 (e.dataLength - e.counter) ++ [0, 0, 0, 0, 0]).take n ++ List.replicate (n - 12) 0)
  let settled := fun s t : State =>
    let noCommand := s.eli.phase = .idle ∨
      (s.eli.phase = .statusReady ∧ ∃ st, s.eli.status = some st ∧ st.result = .lengthError)
    let data := s.eli.phase = .dataOut
    let events := s.eli.phase = .dataIn ∧ s.eli.command = some .readEvents ∧ s.au.editorial.latch ≠ none
    t = { s with
      eli := { s.eli with
        phase := .phaseError, tag := t.eli.tag, command := none, dataLength := t.eli.dataLength, counter := t.eli.counter,
        data := [], reportNo := 0, latch := [], status := none, dout := t.eli.dout }
      ts := t.ts, gs := t.gs, editStaging := t.editStaging, au := t.au } ∧
    (noCommand → t.eli.tag = 0 ∧ t.eli.dataLength = 0 ∧ t.eli.counter = 0) ∧
    (¬ noCommand → t.eli.tag = s.eli.tag ∧ t.eli.dataLength = s.eli.dataLength ∧ t.eli.counter = s.eli.counter) ∧
    (data → t.ts = { s.ts with loadTarget := none } ∧ t.gs = { s.gs with staging := [] } ∧ t.editStaging = []) ∧
    (¬ data → t.ts = s.ts ∧ t.gs = s.gs ∧ t.editStaging = s.editStaging) ∧
    (¬ events → t.au = s.au) ∧
    (events → t.au = { s.au with editorial := { s.au.editorial with
        pending := t.au.editorial.pending, hold := [], latch := none } } ∧
      (∃ new, t.au.editorial.pending = s.au.editorial.pending ++ new) ∧
      ∀ e, e ∈ t.au.editorial.pending ↔ e ∈ s.au.editorial.pending ∨ e ∈ s.au.editorial.hold)
  let silent := fun (n : Nat) (t : State) => t.eli.dout = List.replicate (n + 1) 0
  (∀ s : State, s.listens → s.eli.phase ≠ .phaseError →
    (∀ kind, unknown kind → ∃ t, exec (.frameOfUnknownKind kind) s = .next t ∧ settled s t ∧ silent 0 t) ∧
    (s.eli.phase ≠ .idle → ∀ bytes, ∃ t, exec (.commandFrame bytes) s = .next t ∧ settled s t ∧ silent bytes.length t) ∧
    (s.eli.phase ≠ .dataOut → ∀ bytes, ∃ t, exec (.dataOutFrame bytes) s = .next t ∧ settled s t ∧ silent bytes.length t) ∧
    (s.eli.phase ≠ .dataIn → ∀ n, ∃ t, exec (.dataInFrame n) s = .next t ∧ settled s t ∧ silent n t) ∧
    (s.eli.phase ≠ .executing → s.eli.phase ≠ .statusReady → ∀ n, ∃ t, exec (.statusFrame n) s = .next t ∧ settled s t ∧
      t.eli.dout = block t.eli n)) ∧
  (∀ s : State, s.listens → s.eli.phase = .phaseError →
    let ignored := fun (t : State) (n : Nat) => t = { s with eli := { s.eli with dout := List.replicate (n + 1) 0 } }
    (∀ kind, unknown kind → ∃ t, exec (.frameOfUnknownKind kind) s = .next t ∧ ignored t 0) ∧
    (∀ bytes, ∃ t, exec (.commandFrame bytes) s = .next t ∧ ignored t bytes.length) ∧
    (∀ bytes, ∃ t, exec (.dataOutFrame bytes) s = .next t ∧ ignored t bytes.length) ∧
    (∀ n, ∃ t, exec (.dataInFrame n) s = .next t ∧ ignored t n) ∧
    ∀ n, exec (.statusFrame n) s = .next { s with eli := { s.eli with dout := block s.eli n } }) ∧
  ∀ (s t : State) (bytes more : List Byte) (extra : Byte), s.listens → s.eli.phase = .dataOut →
    s.eli.command ≠ none → bytes ≠ [] → s.eli.counter + bytes.length = s.eli.dataLength →
    exec (.dataOutFrame bytes) s = .next t →
    exec (.dataOutFrame (bytes ++ extra :: more)) s = .next { t with eli := { t.eli with
      phase := .phaseError, command := none, data := [], reportNo := 0, latch := [], status := none,
      dout := List.replicate (bytes.length + more.length + 2) 0 } }

/-- R169, R170, R181, R183, R185: the kind byte of a frame picks its row, and the 24 bytes of a COMMAND frame spell the command that
the row of the table carries out: signature, tag, code, target, flags, data length, 14 parameter bytes of which those that the
command does not use are not read, and a last byte of 0. A block that is taken leaves the link in the phase of its outcome, with its
tag, command and data length held. A frame of another length is answered LENGTH ERROR with residue 0; a wrong signature, a last byte
that is not 0 or a code outside the catalogue BAD PARAM with the data length as residue; and so is a command that carries no data and
has a data length above 0, and an edit whose operation is none of the four. That a bit of the flags byte or of a parameter that the tables do not name, and the
target byte of a command without a target, change nothing is the model's reading, not R183's words (DEDUCED, log entry 16). -/
def Obligations.CommandFrames : Prop :=
  (∀ (s : State) (tag target flags : Byte) (dataLength : Nat), dataLength < 4294967296 →
    let h : EdHeader := ⟨tag, dataLength⟩
    let block := fun (code : Byte) (p rest : List Byte) => [0x4D, tag, code, target, flags] ++ bytesOf 4 dataLength ++ p ++ rest ++ [0]
    let spells := fun (code : Byte) (p : List Byte) (i : Instr) => ∀ rest : List Byte, p.length + rest.length = 14 →
      exec (.commandFrame (block code p rest)) s = exec i s
    let request := fun r : EdRequest => Instr.bandRequestQueued (.editorial h target.toNat r)
    (∀ (symbol : List Byte) (scale decimals : Byte) (r : Int), symbol.length = 8 → -2147483648 ≤ r → r < 2147483648 →
      spells 0x10 (symbol ++ [scale, decimals] ++ bytesOfInt 4 r) (.defineQuote h ⟨target.toNat, flags.toNat % 16, symbol,
        scale.toNat, decimals.toNat, if flags.getLsbD 7 then some r else none⟩)) ∧
    (∀ (i g : Nat) (u : Byte) (m : Int), i < 65536 → g < 65536 → -2147483648 ≤ m → m < 2147483648 →
      spells 0x11 (bytesOf 2 i ++ bytesOf 2 g) (.retireQuote h ⟨i, g⟩) ∧
      spells 0x12 (bytesOf 2 i ++ bytesOf 2 g ++ [u]) (.setSource h ⟨i, g⟩ u.toNat) ∧
      spells 0x13 (bytesOf 2 i ++ bytesOf 2 g ++ [u] ++ bytesOfInt 4 m)
        (.setReference h ⟨i, g⟩ (flags.getLsbD 0) u.toNat m)) ∧
    (∀ (i n : Nat) (a b d : Byte), i < 65536 → n < 65536 →
      spells 0x15 (bytesOf 2 i ++ bytesOf 2 n ++ [d]) (.readQuotes h i n d.toNat) ∧
      spells 0x24 (bytesOf 2 n) (.setSilenceLimit h target.toNat n) ∧
      spells 0x32 ([a] ++ bytesOf 2 n) (.readStories h a.toNat n) ∧
      spells 0x3B (bytesOf 2 i ++ bytesOf 2 n) (.readFace h target.toNat i n) ∧
      spells 0x40 ([0] ++ bytesOf 2 i ++ bytesOf 2 n) (.editInsert h target.toNat i n) ∧
      spells 0x40 ([1] ++ bytesOf 2 i ++ bytesOf 2 n) (.editDelete h target.toNat i n) ∧
      spells 0x40 ([2] ++ bytesOf 2 i ++ bytesOf 2 n) (.editReplace h target.toNat i n) ∧
      spells 0x40 ([3] ++ bytesOf 2 i ++ bytesOf 2 n) (.editClear h target.toNat i n) ∧
      (3 < a.toNat → ∀ rest, rest.length = 9 → s.takesCommand →
        exec (.commandFrame (block 0x40 ([a] ++ bytesOf 2 i ++ bytesOf 2 n) rest)) s =
          .next (s.answers h (.edit target.toNat a.toNat i n) .badParam noValues)) ∧
      spells 0x43 ([a, b] ++ bytesOf 2 n ++ [d]) (.readRunList h target.toNat a.toNat b.toNat n d.toNat) ∧
      spells 0x56 (bytesOf 2 n) (request (.setSpeed n))) ∧
    (∀ (a b c d : Nat), a < 65536 → b < 65536 → c < 65536 → d < 65536 →
      spells 0x38 (bytesOf 2 a ++ bytesOf 2 b ++ bytesOf 2 c ++ bytesOf 2 d) (.loadFace h ⟨target.toNat, a, b, c, d⟩)) ∧
    (∀ offset, offset < 4294967296 → spells 0x3A (bytesOf 4 offset) (.loadGlyphImages h offset)) ∧
    (∀ (a b c : Byte) (g : Nat), g < 65536 →
      spells 0x31 ([a] ++ bytesOf 2 g) (.deleteStory h ⟨a.toNat, g⟩) ∧
      spells 0x57 ([a] ++ bytesOf 2 g ++ [b, c]) (request (.brk ⟨a.toNat, g⟩ b.toNat c.toNat)) ∧
      spells 0x61 [a, b, c] (.setPin h target.toNat a.toNat b.toNat c.toNat) ∧
      spells 0x14 [a] (.setFlash h a.toNat) ∧ spells 0x42 [a] (request (.commit a.toNat)) ∧
      spells 0x53 [a] (request (.takeOff a.toNat)) ∧ spells 0x60 [a] (.softClean (.editorial h) a.toNat) ∧
      spells 0x71 [a] (.setThreshold (.editorial h) a.toNat)) ∧
    (∀ levels : List Byte, levels.length = 8 → spells 0x70 levels
      (.setLevels h target.toNat (levels.flatMap (fun l => [l.toNat / 16, l.toNat % 16])))) ∧
    spells 0x20 [] (.laneHold (.editorial h) target.toNat) ∧ spells 0x21 [] (.laneRelease (.editorial h) target.toNat) ∧
    spells 0x22 [] (.laneFlush h target.toNat) ∧ spells 0x23 [] (.linkRelease (.editorial h)) ∧
    spells 0x25 [] (.readLanes h) ∧ spells 0x30 [] (.loadStory h) ∧ spells 0x39 [] (.unloadFace h target.toNat) ∧
    spells 0x41 [] (.copyBank h target.toNat) ∧ spells 0x50 [] (request .configure) ∧ spells 0x51 [] (request .release) ∧
    spells 0x52 [] (request (.takeOn (flags.getLsbD 0))) ∧ spells 0x54 [] (request .halt) ∧
    spells 0x55 [] (request .resume) ∧ spells 0x58 [] (request .breakClear) ∧ spells 0x59 [] (.readBand h target.toNat) ∧
    spells 0x5A [] (.readWindow h target.toNat) ∧ spells 0x62 [] (.readOutput h) ∧ spells 0x72 [] (.readEvents h) ∧
    spells 0x7F [] (.deviceReset h)) ∧
  (∀ (s : State) (bytes : List Byte), s.takesCommand →
    let refused := fun (tag : Byte) (n : Nat) (r : Result) => { s with eli := { Eli.reset with
      phase := .statusReady, tag := tag, dataLength := n, status := some ⟨r, n, noValues⟩, ticket := s.eli.ticket,
      dout := List.replicate (bytes.length + 1) 0 } }
    let good := bytes.length = 24 ∧ byteAt bytes 0 = 0x4D ∧ byteAt bytes 23 = 0 ∧ (byteAt bytes 2).toNat ∈
        [0x10, 0x11, 0x12, 0x13, 0x14, 0x15, 0x20, 0x21, 0x22, 0x23, 0x24, 0x25, 0x30, 0x31, 0x32, 0x38, 0x39, 0x3A, 0x3B, 0x40,
          0x41, 0x42, 0x43, 0x50, 0x51, 0x52, 0x53, 0x54, 0x55, 0x56, 0x57, 0x58, 0x59, 0x5A, 0x60, 0x61, 0x62, 0x70, 0x71, 0x72,
          0x7F]
    (good → ∃ (t : State) (c : EdCommand), exec (.commandFrame bytes) s = .next t ∧ t.eli.tag = byteAt bytes 1 ∧
      t.eli.command = some c ∧ t.eli.dataLength = field bytes 5 4 ∧ t.eli.counter = 0 ∧
      t.eli.dout = List.replicate 25 0 ∧
      ((t.eli.phase = .statusReady ∧ t.eli.status.map Status.residue = some (field bytes 5 4)) ∨
        (t.eli.status = none ∧ (t.eli.phase = .executing ∨
          (0 < t.eli.dataLength ∧ (t.eli.phase = .dataOut ∨ t.eli.phase = .dataIn)))))) ∧
    (bytes.length ≠ 24 → exec (.commandFrame bytes) s = .next (refused (byteAt bytes 1) 0 .lengthError)) ∧
    (bytes.length = 24 → ¬ good →
      exec (.commandFrame bytes) s = .next (refused (byteAt bytes 1) (field bytes 5 4) .badParam))) ∧
  (∀ (s : State) (h : EdHeader), s.takesCommand → 0 < h.dataLength →
    let refused := fun (i : Instr) (c : EdCommand) => exec i s = .next (s.answers h c .badParam noValues)
    (∀ a, refused (.defineQuote h a) (.defineQuote a)) ∧
    (∀ r, refused (.retireQuote h r) (.retireQuote r) ∧ refused (.deleteStory h r) (.deleteStory r)) ∧
    (∀ r remove u m, refused (.setReference h r remove u m) (.setReference r remove u m)) ∧
    (∀ v, refused (.setFlash h v) (.setFlash v) ∧ refused (.laneHold (.editorial h) v) (.laneHold v) ∧
      refused (.laneRelease (.editorial h) v) (.laneRelease v) ∧ refused (.laneFlush h v) (.laneFlush v) ∧
      refused (.unloadFace h v) (.unloadFace v) ∧ refused (.copyBank h v) (.copyBank v) ∧
      refused (.softClean (.editorial h) v) (.softClean v) ∧ refused (.setThreshold (.editorial h) v) (.setThreshold v)) ∧
    refused (.linkRelease (.editorial h)) .linkRelease ∧ refused (.deviceReset h) .deviceReset ∧
    (∀ lane limit, refused (.setSilenceLimit h lane limit) (.setSilenceLimit lane limit)) ∧
    (∀ pin mode select level, refused (.setPin h pin mode select level) (.setPin pin mode select level)) ∧
    (∀ master levels, refused (.setLevels h master levels) (.setLevels master levels)) ∧
    ∀ band r, r ≠ .configure → refused (.bandRequestQueued (.editorial h band r)) (.request band r)) ∧
  ∀ (s : State) (rest : List Byte),
    edFrame [] s = s ∧
    exec (.commandFrame rest) s = .next (edFrame (0x01 :: rest) s) ∧
    (imagesOutside s = false → exec (.dataOutFrame rest) s = .next (edFrame (0x02 :: rest) s)) ∧
    exec (.dataInFrame rest.length) s = .next (edFrame (0x03 :: rest) s) ∧
    exec (.statusFrame rest.length) s = .next (edFrame (0x04 :: rest) s) ∧
    exec .linkReset s = .next (edFrame (0x0F :: rest) s) ∧
    ∀ kind, exec (.frameOfUnknownKind kind) s = .next (edFrame [kind] s)

/-! ### Clean, pins and attention -/

/-- R159, R164, R187: SOFT CLEAN writes the sender's own flag, CLEAN REQUEST the pin, SET PIN one output pin, SET LEVELS one
master's whole level table, SET THRESHOLD the sender's own threshold, and nothing else. A value out of range is answered BAD PARAM, or
raises COMMAND REFUSED when the panel sends it. -/
def Obligations.OutputAndAttentionSettings : Prop :=
  (∀ (s : State) (level : Bool), exec (.cleanRequest level) s = .next { s with cleanPin := level }) ∧
  (∀ (s : State) (h : EdHeader), s.takesCommand → h.dataLength = 0 →
    (∀ v, v ≤ 1 → exec (.softClean (.editorial h) v) s =
      .next ({ s with cmp := { s.cmp with edFlag := decide (v = 1) } }.answers h (.softClean v) .good noValues)) ∧
    (∀ v, 1 < v → exec (.softClean (.editorial h) v) s = .next (s.answers h (.softClean v) .badParam noValues)) ∧
    (∀ (n : Fin 4) (mode level : Bool) (code : Nat) (select : PinSelect),
      (code, select) ∈ [(0, PinSelect.attentionFeed), (1, .attentionEditorial), (2, .attentionPanel), (4, .tally 0),
        (5, .tally 1), (6, .tally 2), (7, .tally 3), (8, .cleanAck)] →
      exec (.setPin h n.val (bit mode) code (bit level)) s = .next ({ s with pins := tset s.pins n ⟨mode, select, level⟩ }.answers
        h (.setPin n.val (bit mode) code (bit level)) .good noValues)) ∧
    (∀ pin mode code level, 3 < pin ∨ 1 < mode ∨ 1 < level ∨ code = 3 ∨ 8 < code →
      exec (.setPin h pin mode code level) s = .next (s.answers h (.setPin pin mode code level) .badParam noValues)) ∧
    (∀ (master : Nat) (m : Master) (levels : List Nat), (master, m) ∈ [(0, Master.feed), (1, .editorial), (2, .panel)] →
      levels.length = 16 → (∀ l ∈ levels, l ≤ 7) →
      ∃ table : Vector Nat 16, tlist table = levels ∧ exec (.setLevels h master levels) s = .next ((s.updMaster m
        (fun t => { t with levels := table })).answers h (.setLevels master levels) .good noValues)) ∧
    (∀ master levels, 2 < master ∨ (∃ l ∈ levels, 7 < l) → exec (.setLevels h master levels) s =
      .next (s.answers h (.setLevels master levels) .badParam noValues)) ∧
    (∀ v, v ≤ 7 → exec (.setThreshold (.editorial h) v) s = .next ((s.updMaster .editorial
      (fun t => { t with threshold := v })).answers h (.setThreshold v) .good noValues)) ∧
    (∀ v, 7 < v → exec (.setThreshold (.editorial h) v) s = .next (s.answers h (.setThreshold v) .badParam noValues))) ∧
  ∀ s : State, s.run = .running →
    (∀ v, v ≤ 1 → exec (.softClean .panel v) s = .next { s with cmp := { s.cmp with panelFlag := decide (v = 1) } }) ∧
    (∀ v, 1 < v → exec (.softClean .panel v) s = .next (s.raise .commandRefused (.master .panel))) ∧
    (∀ v, v ≤ 7 → exec (.setThreshold .panel v) s = .next (s.updMaster .panel (fun t => { t with threshold := v }))) ∧
    (∀ v, 7 < v → exec (.setThreshold .panel v) s = .next (s.raise .commandRefused (.master .panel)))

/-- R163, R164, R188: a master's attention line is high while its pending set holds a pair whose kind has a level above the
master's threshold; a band's tally is on in a drawing state while the band is not HIDDEN; a pin drives its level in LEVEL
mode and its selected function in FUNCTION mode. R186: a raised pair is recorded by each master whose level for the kind is
above 0, in its pending set, or in its hold set while a read of its set is in progress; a pair already there keeps its place,
and a master whose level is 0 records nothing. -/
def Obligations.EventsLinesAndPins : Prop :=
  ((∀ (s : State) (m : Master), s.attention m = true ↔
    ∃ e ∈ (s.au.get m).pending, (s.au.get m).threshold < (s.au.get m).level e.kind) ∧
  (∀ (s : State) (b : Fin 4), s.tally b = true ↔
    (s.band b).prog ≠ .off ∧ (s.band b).prog ≠ .ready ∧ (s.vis b).state ≠ .hidden) ∧
  ∀ (s : State) (n : Fin 4),
    ((s.pin n).function = false → s.driven n = (s.pin n).level) ∧
    ((s.pin n).function = true → s.driven n = match (s.pin n).select with
      | .attentionFeed => s.attention .feed
      | .attentionEditorial => s.attention .editorial
      | .attentionPanel => s.attention .panel
      | .tally b => s.tally b
      | .cleanAck => s.cmp.ack)) ∧
  (∀ (s : State) (k : EventKind) (src : EventSource) (m : Master),
    let old := s.au.get m
    let new := (s.raise k src).au.get m
    let e : Event := ⟨k, src⟩
    (old.level k = 0 → new = old) ∧
    (0 < old.level k → old.latch = none →
      new = { old with pending := if e ∈ old.pending then old.pending else old.pending ++ [e] }) ∧
    (0 < old.level k → old.latch ≠ none →
      new = { old with hold := if e ∈ old.hold then old.hold else old.hold ++ [e] }) ∧
    (s.raise k src) = { s with au := (s.raise k src).au })

/-- R160: at a frame start, while clean is requested, a band in a drawing state goes down one step and is HIDDEN at step 0;
while it is not, a band that is not SHOWN goes up one step and is SHOWN at its full step F, at 1 when F is 0. The rows of the last step of a
fade do the same for a band that stands one step before its end, and nothing for any other; they do not test the clean
request, so that the one acts as for a request and the other as for none (the model's choice, log entry 6). The compositor's action of a frame start samples
the pin and the two soft-clean flags, moves every band in a drawing state by that sample and leaves the visibility of the others (R159,
R160). It then judges CLEAN ACK: high when clean is sampled and every band is HIDDEN or not in a drawing state, low when it is not
sampled, as it was in every other case (R162). -/
def Obligations.VisibilityMoves : Prop :=
  (∀ (s : State) (b : Fin 4) (c : BandConfig), (s.band b).config = some c → (s.band b).prog.drawing = true →
    let v := s.vis b
    let full := if c.fade = 0 then 1 else c.fade
    (v.state ≠ .hidden → v.step ≤ 1 → moveBand true b s = s.setVis b ⟨.hidden, 0⟩) ∧
    (v.state ≠ .hidden → 1 < v.step → moveBand true b s = s.setVis b ⟨.fadingOut, v.step - 1⟩) ∧
    (v.state = .hidden → moveBand true b s = s) ∧
    (v.state ≠ .shown → v.step + 1 < full → moveBand false b s = s.setVis b ⟨.fadingIn, v.step + 1⟩) ∧
    (v.state ≠ .shown → full ≤ v.step + 1 → moveBand false b s = s.setVis b ⟨.shown, full⟩) ∧
    (v.state = .shown → moveBand false b s = s) ∧
    (v.state = .fadingOut → v.step ≤ 1 → exec (.fadeOutComplete b) s = .next (s.setVis b ⟨.hidden, 0⟩)) ∧
    (v.state ≠ .fadingOut ∨ 1 < v.step → exec (.fadeOutComplete b) s = .next s) ∧
    (v.state = .fadingIn → full ≤ v.step + 1 → exec (.fadeInComplete b) s = .next (s.setVis b ⟨.shown, full⟩)) ∧
    (v.state ≠ .fadingIn ∨ v.step + 1 < full → exec (.fadeInComplete b) s = .next s)) ∧
  ∀ s : State,
    let clean := s.cleanPin || s.cmp.edFlag || s.cmp.panelFlag
    let t := compositorFrameStart s
    t = { s with cmp := { s.cmp with sampled := clean, ack := t.cmp.ack, vis := t.cmp.vis } } ∧
    (∀ b, (s.band b).prog.drawing = true → (s.band b).config ≠ none → t.vis b = (moveBand clean b s).vis b) ∧
    (∀ b, (s.band b).prog.drawing = false → t.vis b = s.vis b) ∧
    (clean = false → t.cmp.ack = false) ∧
    (clean = true → (∀ b, (s.band b).prog.drawing = true → (t.vis b).state = .hidden) → t.cmp.ack = true) ∧
    (clean = true → ∀ b, (s.band b).prog.drawing = true → (t.vis b).state ≠ .hidden → t.cmp.ack = s.cmp.ack)

/-- R159 to R162: whatever the order in which the blocks take a frame start, after it the request sampled is the request of that
moment, CLEAN ACK is low when clean is not requested, and CLEAN ACK is high only while every band in a drawing state is HIDDEN with
step 0, if that held before. With clean requested and every band HIDDEN or not in a drawing state before it, CLEAN ACK is high after it, and
a band taken on meanwhile is HIDDEN (R161). -/
def Obligations.CleanAcknowledge : Prop :=
  ∀ (order : List Block) (s : State), order.Perm allBlocks →
    (s.cmp.ack = true → ∀ b, (s.band b).prog.drawing = true → s.vis b = ⟨.hidden, 0⟩) →
    (∀ b, (s.vis b).state = .hidden → (s.vis b).step = 0) →
    let t := frameBlocks order false s
    t.cmp.sampled = s.cleanRequested ∧ (s.cleanRequested = false → t.cmp.ack = false) ∧
    (t.cmp.ack = true → ∀ b, (t.band b).prog.drawing = true → t.vis b = ⟨.hidden, 0⟩) ∧
    (∀ b, (t.vis b).state = .hidden → (t.vis b).step = 0) ∧
    (s.cleanRequested = true → (∀ b, (s.band b).prog.drawing = true → (s.vis b).state = .hidden) →
      t.cmp.ack = true ∧ ∀ b, (t.band b).prog.drawing = true → (t.vis b).state = .hidden)

/-! ### Band requests -/

/-- R105, R106, R170, R178: an editorial band request joins its band's queue behind the others and the link waits in EXECUTING; a
panel request joins it too, and a broadcast joins the queue of every band. A queue of 8 answers BUSY, or COMMAND REFUSED with the
band as source when the panel sends. Before its queue is looked at, an editorial request is answered BAD PARAM for a band above 3, a code
that is no value, and a data length that is not 0, or not 96 for CONFIGURE. CONFIGURE takes 96 bytes first. The answer of a request taken reaches the exchange that waits for
it; a refused panel request raises COMMAND REFUSED. A queue filled while a CONFIGURE sends its record answers BUSY with residue 0
(R103), and a broadcast raises COMMAND REFUSED for each band whose queue is full. At a frame start a band takes the requests of its
queue oldest first, each against the state that those before it have left, a refused one changes nothing, and the queue is then empty;
a band that is then in a drawing state takes the steps of its presentation in their order: ramp, move, admission and the ends of a
drain and of a clearing (R114), or the page step and the end of a drain (R140). -/
def Obligations.RequestsQueued : Prop :=
  let carries := fun (r : EdRequest) (q : BandRequest) => match r, q with
    | .release, .release => True
    | .takeOn f, .takeOn f' => f' = f
    | .takeOff m, .takeOffDrain => m = 0
    | .takeOff m, .takeOffCut => m = 1
    | .halt, .halt => True
    | .resume, .resume => True
    | .setSpeed v, .setSpeed v' => v' = v
    | .commit m, .commit .immediate => m = 0
    | .commit m, .commit .loopEnd => m = 1
    | .brk x k u, .brk x' k' .next => x' = x ∧ k' = k ∧ u = 0 ∧ x.index ≤ 255 ∧ 1 ≤ k ∧ k ≤ 15
    | .brk x k u, .brk x' k' .now => x' = x ∧ k' = k ∧ u = 1 ∧ x.index ≤ 255 ∧ 1 ≤ k ∧ k ≤ 15
    | .breakClear, .breakClear => True
    | _, _ => False
  let joins := fun (s : State) (b : Fin 4) (o : Origin) (q : BandRequest) =>
    s.updBand b (fun d => { d with queue := d.queue ++ [⟨o, q⟩] })
  (∀ (s : State) (h : EdHeader) (b : Fin 4) (r : EdRequest), s.takesCommand → h.dataLength = 0 →
    (∀ q, carries r q →
      ((s.band b).queue.length < 8 → exec (.bandRequestQueued (.editorial h b.val r)) s = .next
        { joins s b (.editorial (s.eli.ticket + 1)) q with eli :=
          { s.eli.took .executing h (.request b.val r) with ticket := s.eli.ticket + 1 } }) ∧
      (8 ≤ (s.band b).queue.length → exec (.bandRequestQueued (.editorial h b.val r)) s =
        .next (s.answers h (.request b.val r) .busy noValues))) ∧
    ((∀ q, ¬ carries r q) → exec (.bandRequestQueued (.editorial h b.val r)) s =
      .next (s.answers h (.request b.val r) .badParam noValues))) ∧
  (∀ (s : State) (h : EdHeader) (band : Nat) (r : EdRequest), s.takesCommand →
    3 < band ∨ (r = .configure ∧ h.dataLength ≠ 96) ∨ (r ≠ .configure ∧ h.dataLength ≠ 0) →
    exec (.bandRequestQueued (.editorial h band r)) s = .next (s.answers h (.request band r) .badParam noValues)) ∧
  (∀ (s : State) (h : EdHeader) (b : Fin 4) (record : List Byte), s.takesCommand → h.dataLength = 96 → record.length = 96 →
    (8 ≤ (s.band b).queue.length → exec (.bandRequestQueued (.editorial h b.val .configure)) s =
      .next (s.answers h (.request b.val .configure) .busy noValues)) ∧
    ((s.band b).queue.length < 8 → ∃ t u,
      exec (.bandRequestQueued (.editorial h b.val .configure)) s = .next t ∧
      t = s.takes .dataOut h (.request b.val .configure) ∧ exec (.dataOutFrame record) t = .next u ∧
      u = { joins s b (.editorial (s.eli.ticket + 1)) (.configure (configOf record)) with eli := u.eli } ∧
      u.eli.phase = .executing ∧ u.eli.ticket = s.eli.ticket + 1)) ∧
  (∀ (s : State) (b : Fin 4) (last : Byte), s.awaitsLast (.request b.val .configure) → 8 ≤ (s.band b).queue.length →
    exec (.dataOutFrame [last]) s = .next { s with
      eli := { s.eli.completed ⟨.busy, 0, noValues⟩ with data := s.eli.data ++ [last] } }) ∧
  (∀ (s : State) (b : Fin 4) (r : PanelRequest), s.run = .running →
    ((s.band b).queue.length < 8 → exec (.bandRequestQueued (.panel b r)) s = .next (joins s b .panel (PanelRequest.toBand r))) ∧
    (8 ≤ (s.band b).queue.length → exec (.bandRequestQueued (.panel b r)) s = .next (s.raise .commandRefused (.band b)))) ∧
  (∀ (s : State) (i : Instr) (q : BandRequest), s.run = .running → (i, q) ∈ [(Instr.allTakeOff false, BandRequest.takeOffDrain),
      (.allTakeOff true, .takeOffCut), (.allHalt, .halt), (.allResume, .resume)] →
    ∃ t, exec i s = .next t ∧ t = { s with bands := t.bands, au := t.au } ∧
      (∀ b, t.band b = if (s.band b).queue.length < 8 then { s.band b with queue := (s.band b).queue ++ [⟨.panel, q⟩] }
        else s.band b) ∧
      t.au = ((List.finRange 4).filter (fun b => decide (8 ≤ (s.band b).queue.length))).foldl
        (fun au b => au.raise ⟨.commandRefused, .band b⟩) s.au) ∧
  (∀ (s : State) (b : Fin 4) (sampled : Bool),
    let t := takeQueue sampled b s
    t = (s.band b).queue.foldl (fun u q => takeRequest sampled q.origin b q.request u)
      (s.updBand b (fun d => { d with queue := [] })) ∧
    (t.band b).queue = [] ∧
    (∀ (r : BandRequest) (u : State), (judgeRequest sampled b r u).1.1 ≠ .good → (judgeRequest sampled b r u).2 = u) ∧
    ((t.band b).prog.drawing = false → bandFrameStart sampled b s = t) ∧
    ∀ c, (t.band b).prog.drawing = true → (t.band b).config = some c →
      (c.presentation = .crawl → ∃ u v, exec (.drainEnd b) (admissionStep c b (moveStep b (rampStep c b t))) = .next u ∧
        exec (.clearingEnd b) u = .next v ∧ bandFrameStart sampled b s = v) ∧
      (c.presentation = .flip → exec (.drainEnd b) (pageStep c b t) = .next (bandFrameStart sampled b s))) ∧
  ∀ (s : State) (b : Fin 4) (r : Result) (v : List Byte) (ticket : Nat),
    (s.eli.phase = .executing → s.eli.ticket = ticket → deliver (.editorial ticket) b r v s =
      { s with eli := { s.eli with phase := .statusReady, status := some ⟨r, 0, v⟩ } }) ∧
    (s.eli.phase ≠ .executing ∨ s.eli.ticket ≠ ticket → deliver (.editorial ticket) b r v s = s) ∧
    deliver .panel b .good v s = s ∧ (r ≠ .good → deliver .panel b r v s = s.raise .commandRefused (.band b))

/-- R102, R103, R104: CONFIGURE in OFF or READY stores the record, with gap, quantum, speeds, accel and fade clamped, and takes an OFF
band to READY; a field out of range is answered BAD PARAM with the number of its row, the first of them, and lines shared with a band
that is not OFF BAD PARAM with 19. In a drawing state it is answered BUSY. RELEASE takes a READY band to OFF and removes its
configuration; in any other state it is answered WRONG MODE. The rows take one request alone in the band's present
state, outside a frame start's run of its queue (the model's choice, log entry 7). -/
def Obligations.ConfigureAndRelease : Prop :=
  (∀ (s : State) (ticket : Nat) (b : Fin 4) (c : ConfigRecord), s.run = .running →
    let taken := exec (.configure ticket b c) s
    let answer := fun (r : Result) (v : List Byte) (t : State) => Host.Outcome.next (deliver (.editorial ticket) b r v t)
    let rows : List (Nat × Prop) :=
      [(1, c.presentation ≤ 1), (2, c.yOrigin + c.height ≤ s.lines), (3, 16 ≤ c.height ∧ c.height ≤ 256),
       (4, ∃ f : Fin 4, c.face = f.val ∧ (s.face f).loaded = true), (5, c.baseline < c.height), (13, c.changeStyle ≤ 2),
       (14, c.smooth ≤ 1), (15, 1 ≤ c.flipHold), (16, c.flipTransition ≤ 1), (17, 1 ≤ c.rollFrames ∧ c.rollFrames ≤ 64)]
    let shares := ∃ (o : Fin 4) (k : BandConfig), o ≠ b ∧ (s.band o).prog ≠ .off ∧ (s.band o).config = some k ∧
      c.yOrigin < k.yOrigin + k.height ∧ k.yOrigin < c.yOrigin + c.height
    ((s.band b).prog.drawing = true → taken = answer .busy noValues s) ∧
    ((s.band b).prog.drawing = false →
      (∀ (before after : List (Nat × Prop)) (n : Nat) (p : Prop), rows = before ++ (n, p) :: after → (∀ x ∈ before, x.2) → ¬ p →
        taken = answer .badParam [byteOf n, 0, 0, 0, 0] s) ∧
      ((∀ x ∈ rows, x.2) → shares → taken = answer .badParam [19, 0, 0, 0, 0] s) ∧
      ((∀ x ∈ rows, x.2) → ¬ shares → ∃ k : BandConfig,
        (k.presentation.code = c.presentation ∧ k.yOrigin = c.yOrigin ∧ k.height = c.height ∧ k.face.val = c.face ∧
          k.baseline = c.baseline ∧ k.palette = c.palette ∧ k.backKey = c.backKey ∧ k.gap = min 1024 c.gap ∧
          k.quantum = (if c.quantum = 0 then 16 else min 64 c.quantum) ∧ k.speedTarget = min 8192 c.speed ∧
          k.accel = (if c.accel = 0 then 1 else min 8192 c.accel) ∧ k.clearSpeed = min 8192 c.clearSpeed ∧
          k.fade = min 64 c.fade ∧ k.changeStyle.code = c.changeStyle ∧ bit k.smooth = c.smooth ∧ k.flipHold = c.flipHold ∧
          k.flipTransition.code = c.flipTransition ∧ k.rollFrames = c.rollFrames ∧ k.arrowUp = c.arrowUp ∧
          k.arrowDown = c.arrowDown ∧ k.arrowSame = c.arrowSame ∧ k.arrowHalt = c.arrowHalt) ∧
        ((s.band b).prog = .ready → taken = answer .good noValues (s.updBand b (fun d => { d with config := some k }))) ∧
        ((s.band b).prog = .off → (s.lists b).commit = none → taken = answer .good noValues
          (((s.updBand b (fun d => { d with config := some k, prog := .ready, page := ⟨.empty, 0, 0, 0⟩ })).setVis b
            ⟨.hidden, 0⟩).raise .bandState (.band b)))))) ∧
  ∀ (s : State) (ticket : Nat) (b : Fin 4), s.run = .running →
    ((s.band b).prog = .ready → exec (.release ticket b) s = .next (deliver (.editorial ticket) b .good noValues
      ((s.updBand b (fun d => { d with config := none, halted := false, cursor := 0, prog := .off })).raise .bandState
        (.band b)))) ∧
    ((s.band b).prog ≠ .ready →
      exec (.release ticket b) s = .next (deliver (.editorial ticket) b .wrongMode noValues s))

/-- R107 to R110, R136, R137, R149, R161: TAKE ON, TAKE OFF DRAIN and TAKE OFF CUT by the program state at their turn. Every
other state is answered WRONG MODE. A cut reports each instance of the window as removed, so that a RETIRING record or a DELETING
story whose instances are all in this window is freed; a pending-commit record that the band holds is carried out after the change to
READY (R96). The rows take one request alone in the band's present state, and TAKE ON judges the visibility as if the compositor had
not yet sampled (the model's choice, log entry 7). -/
def Obligations.TakeOnAndOff : Prop :=
  ∀ (s : State) (o : Origin) (b : Fin 4), s.run = .running →
    let d := s.band b
    let answer := fun (r : Result) (t : State) => Host.Outcome.next (deliver o b r noValues t)
    let becomes := fun (p : Prog) (f : Band → Band) => (s.updBand b (fun d => { f d with prog := p })).raise .bandState (.band b)
    (∀ fromTop : Bool,
      (∀ c, d.prog = .ready → d.config = some c → exec (.takeOn o b fromTop) s = answer .good
        ((((s.updBand b (fun d => { d with
          prog := .running, cursor := if fromTop then 0 else d.cursor,
          speed := if c.presentation = .crawl ∧ d.halted = false then c.speedTarget else 0 })).setVis b
            (if s.cleanRequested then ⟨.hidden, 0⟩ else ⟨.shown, if c.fade = 0 then 1 else c.fade⟩)).raise .bandState (.band b)))) ∧
      (d.prog = .draining → exec (.takeOn o b fromTop) s =
        answer .good (becomes .running (fun d => { d with cursor := if fromTop then 0 else d.cursor }))) ∧
      (d.prog ≠ .ready → d.prog ≠ .draining → exec (.takeOn o b fromTop) s = answer .wrongMode s)) ∧
    (d.prog = .running → exec (.takeOffDrain o b) s = answer .good (becomes .draining (fun d => { d with breaks := [] }))) ∧
    (d.prog = .clearing ∨ d.prog = .breaking → exec (.takeOffDrain o b) s = answer .good (becomes .draining
      (fun d => { d with breaks := [], cursor := d.saved.getD d.cursor, saved := none }))) ∧
    (d.prog = .off ∨ d.prog = .ready ∨ d.prog = .draining → exec (.takeOffDrain o b) s = answer .wrongMode s) ∧
    (d.prog = .off ∨ d.prog = .ready → exec (.takeOffCut o b) s = answer .wrongMode s) ∧
    (d.prog.drawing = true → (s.lists b).commit = none → ∃ t, exec (.takeOffCut o b) s = answer .good t ∧
      t = { s with
        quotes := t.quotes, ts := { s.ts with stories := t.ts.stories, freeBlocks := t.ts.freeBlocks },
        bands := t.bands, cmp := { s.cmp with vis := t.cmp.vis }, au := t.au } ∧
      t.band b = { d with
        window := [], breaks := [], saved := none, deferral := false, speed := 0, prog := .ready, page := ⟨.empty, 0, 0, 0⟩ } ∧
      (∀ k, k ≠ b → t.band k = s.band k ∧ t.vis k = s.vis k) ∧ t.vis b = ⟨.hidden, 0⟩ ∧
      t.au = s.au.raise ⟨.bandState, .band b⟩ ∧
      (∀ i : Fin 1024, let n := quoteInstances i.val d.window
        ((s.quote i).state = .live → t.quote i = { s.quote i with count := (s.quote i).count - n }) ∧
        ((s.quote i).state = .retiring → n < (s.quote i).count →
          t.quote i = { s.quote i with count := (s.quote i).count - n }) ∧
        ((s.quote i).state = .retiring → 0 < n → (s.quote i).count = n → t.quote i = Quote.free (s.quote i).gen)) ∧
      ∀ i : Fin 256, let n := storyInstances i.val d.window
        ((s.story i).state = .loaded → t.story i = { s.story i with count := (s.story i).count - n }) ∧
        ((s.story i).state = .deleting → 0 < n → (s.story i).count = n →
          t.story i = Story.free (s.story i).gen ∧ ∀ k ∈ (s.story i).blocks, k ∈ t.ts.freeBlocks)) ∧
    (d.prog.drawing = true → (s.lists b).commit ≠ none → ∃ t u,
      exec (.takeOffCut o b) (s.updLists b (fun r => { r with commit := none })) = answer .good t ∧ t.eli = s.eli ∧
      exec (.bankSwap b) t = .next u ∧ exec (.takeOffCut o b) s = answer .good u)

/-- R92, R93, R111, R112: HALT and RESUME write the halted flag, SET SPEED and NUDGE the speed target within 0 to 8192, in every
state but OFF, where they are answered WRONG MODE. COMMIT writes a pending-commit record in a drawing state and swaps at once in OFF
and READY. R95: a swap puts the former shadow bank on air with both banks' contents unchanged, sets the cursor to 0, and a saved
cursor to 0, removes the pending-commit record and raises BANK SWAPPED with the band as source; the window, the program state, the
motion and everything else stay as they were. The rows take one request alone in the band's present state, outside a frame start's run
of its queue (the model's choice, log entry 7), and the row BANK_SWAP makes the swap in every running state, whether or not a record
is pending or due (the model's choice, log entry 22). -/
def Obligations.MotionAndCommit : Prop :=
  (∀ (s : State) (o : Origin) (ticket : Nat) (b : Fin 4), s.run = .running →
    let target := fun (f : Nat → Nat) =>
      s.updBand b (fun d => { d with config := d.config.map (fun c => { c with speedTarget := f c.speedTarget }) })
    ((s.band b).prog ≠ .off →
      exec (.halt o b) s = .next (deliver o b .good noValues (s.updBand b (fun d => { d with halted := true }))) ∧
      exec (.resume o b) s = .next (deliver o b .good noValues (s.updBand b (fun d => { d with halted := false }))) ∧
      (∀ v, exec (.setSpeed ticket b v) s =
        .next (deliver (.editorial ticket) b .good noValues (target (fun _ => min 8192 v)))) ∧
      exec (.nudge b true) s = .next (target (fun v => min 8192 (v + 256))) ∧
      exec (.nudge b false) s = .next (target (fun v => v - 256))) ∧
    ((s.band b).prog = .off →
      exec (.halt o b) s = .next (deliver o b .wrongMode noValues s) ∧
      exec (.resume o b) s = .next (deliver o b .wrongMode noValues s) ∧
      (∀ v, exec (.setSpeed ticket b v) s = .next (deliver (.editorial ticket) b .wrongMode noValues s)) ∧
      ∀ up, exec (.nudge b up) s = .next (s.raise .commandRefused (.band b))) ∧
    ∀ m, ((s.band b).prog.drawing = true → exec (.commit ticket b m) s = .next
        (deliver (.editorial ticket) b .good noValues (s.updLists b (fun r => { r with commit := some m })))) ∧
      ((s.band b).prog.drawing = false → ∃ t, exec (.bankSwap b) s = .next t ∧
        exec (.commit ticket b m) s = .next (deliver (.editorial ticket) b .good noValues t))) ∧
  ∀ (s : State) (b : Fin 4), s.run = .running → ∃ t, exec (.bankSwap b) s = .next t ∧
    t = { s with rls := t.rls, bands := t.bands, au := t.au } ∧
    (t.lists b).onAir = (s.lists b).shadow ∧ (t.lists b).shadow = (s.lists b).onAir ∧
    (t.lists b).bankA = (s.lists b).bankA ∧ (t.lists b).bankB = (s.lists b).bankB ∧ (t.lists b).commit = none ∧
    (t.band b).cursor = 0 ∧ (∀ k, (s.band b).saved = some k → (t.band b).saved = some 0) ∧
    ((s.band b).saved = none → (t.band b).saved = none) ∧
    t.band b = { s.band b with cursor := (t.band b).cursor, saved := (t.band b).saved } ∧
    (∀ c, c ≠ b → t.lists c = s.lists c ∧ t.band c = s.band c) ∧
    t.au = s.au.raise ⟨.bankSwapped, .band b⟩

/-- R126 to R129, R135: an accepted NEXT break joins the back of the break queue and a NOW break stands behind the NOW entries; a
NOW break taken in RUNNING saves the cursor and makes the band CLEARING. A break is answered WRONG MODE in FLIP, OFF, READY and
DRAINING, then NOT FOUND, then BUSY with 4 entries queued. BREAK CLEAR empties the queue and brings a CLEARING or BREAKING band back
to RUNNING at its saved cursor. The rows take one request alone in the band's present state, with no frame-start step after it (the
model's choice, log entry 7). -/
def Obligations.Breaks : Prop :=
  ∀ (s : State) (ticket : Nat) (b : Fin 4), s.run = .running →
    let d := s.band b
    let answer := fun (r : Result) (t : State) => Host.Outcome.next (deliver (.editorial ticket) b r noValues t)
    let closed := d.presentation = some .flip ∨ d.prog = .off ∨ d.prog = .ready ∨ d.prog = .draining
    (∀ (story : Ref) (k : Nat),
      let both := fun (x : Host.Outcome State Fault Refusal) =>
        exec (.breakNext ticket b story k) s = x ∧ exec (.breakNow ticket b story k) s = x
      (closed → both (answer .wrongMode s)) ∧
      (¬ closed → s.resolvesStory story = false → both (answer .notFound s)) ∧
      (¬ closed → s.resolvesStory story = true → 4 ≤ d.breaks.length → both (answer .busy s)) ∧
      (¬ closed → s.resolvesStory story = true → d.breaks.length < 4 →
        exec (.breakNext ticket b story k) s =
          answer .good (s.updBand b (fun d => { d with breaks := d.breaks ++ [⟨story, .next, k⟩] })) ∧
        ∀ nows nexts, d.breaks = nows ++ nexts → (∀ e ∈ nows, e.urgency = .now) → (∀ e ∈ nexts, e.urgency = .next) →
          let queue := nows ++ ⟨story, .now, k⟩ :: nexts
          (d.prog ≠ .running →
            exec (.breakNow ticket b story k) s = answer .good (s.updBand b (fun d => { d with breaks := queue }))) ∧
          (d.prog = .running → exec (.breakNow ticket b story k) s = answer .good ((s.updBand b (fun d =>
            { d with breaks := queue, saved := some d.cursor, prog := .clearing })).raise .bandState (.band b))))) ∧
    (closed → exec (.breakClear ticket b) s = answer .wrongMode s) ∧
    (¬ closed → d.prog = .running →
      exec (.breakClear ticket b) s = answer .good (s.updBand b (fun d => { d with breaks := [] }))) ∧
    (¬ closed → d.prog ≠ .running → exec (.breakClear ticket b) s = answer .good ((s.updBand b (fun d =>
      { d with breaks := [], cursor := d.saved.getD d.cursor, saved := none, prog := .running })).raise .bandState (.band b)))

/-! ### Bands at a frame start -/

/-- R96, R122, R130, R148: a DRAINING band whose window is empty becomes READY with speed 0, its deferral flag and its page state
cleared and its visibility HIDDEN, and a pending commit is then carried out; a CLEARING band whose window is empty becomes BREAKING.
Any other band stays as it is (the rows read as single steps, log entry 6). -/
def Obligations.DrainAndClearingEnd : Prop :=
  ∀ (s : State) (b : Fin 4),
    let ended := (s.band b).prog = .draining ∧ (s.band b).window = []
    let cleared := (s.band b).prog = .clearing ∧ (s.band b).window = []
    let ready := ((s.updBand b (fun d => { d with
      speed := 0, deferral := false, page := ⟨.empty, 0, 0, 0⟩, prog := .ready })).setVis b ⟨.hidden, 0⟩).raise .bandState (.band b)
    (ended → (s.lists b).commit = none → exec (.drainEnd b) s = .next ready) ∧
    (ended → (s.lists b).commit ≠ none → s.run = .running → exec (.drainEnd b) s = exec (.bankSwap b) ready) ∧
    (¬ ended → exec (.drainEnd b) s = .next s) ∧
    (cleared → exec (.clearingEnd b) s =
      .next ((s.updBand b (fun d => { d with prog := .breaking })).raise .bandState (.band b))) ∧
    (¬ cleared → exec (.clearingEnd b) s = .next s)

/-- R141, R142: a page build carries out a pending IMMEDIATE commit, and any pending commit of an empty bank. It considers the item at
the cursor: one that is not admissible is skipped with ITEM SKIPPED; one whose slot fits behind the page's last gap within W is taken, at
the X that its predecessor's slot and gap give (0 for the first, which is clipped to W when its slot is wider: the model's choice, log
entry 31); the cursor advances, with LOOP END and the LOOP END swap at a wrap. It ends at an item that does not fit, at 32 instances, at a
wrap with an instance, or, with STARVED, after as many skips as the bank has items. R144 to R148: the transitions of a FLIP band that is
not halted. At the expiry of a hold a RUNNING band builds the next page: under CUT it holds in place of the old one; under ROLL the old
page is outgoing and both stand at step 1, or the old page leaves alone when the build took nothing. A DRAINING band builds none: its page
is removed under CUT and leaves under ROLL. A roll past its last step removes the outgoing page; at the end of a LEAVING roll a RUNNING band
builds its next page. Phase, hold and window are as the rules give (the roll step and outgoing count that remain are free values, log
entry 9); no other band, no LIVE record and no LOADED story changes but in its on-screen count; nothing happens at any other point (log
entry 6). The page step (R140): an EMPTY page of a RUNNING band, halted or not, builds one (R143), a hold counts down and a roll advances
unless the band is halted, and each ends as the rows say. -/
def Obligations.FlipTransitions : Prop :=
  (∀ (s : State) (b : Fin 4) (c : BandConfig), (s.band b).config = some c → c.presentation = .flip →
    (s.band b).prog.drawing = true → (s.band b).halted = false →
    let d := s.band b
    let m := d.window.length
    let lines := fun k : Nat => ((c.height * k / c.rollFrames : Nat) : Int)
    let raised := fun (v : Int) (w : List Inst) => w.map (fun i => { i with voffset := v })
    let kept := fun t : State =>
      t = { s with
        quotes := t.quotes, ts := { s.ts with stories := t.ts.stories, freeBlocks := t.ts.freeBlocks },
        rls := t.rls, bands := t.bands, au := t.au, freeIndex := t.freeIndex } ∧
      t.band b = { d with
        cursor := (t.band b).cursor, saved := (t.band b).saved, window := (t.band b).window, page := (t.band b).page } ∧
      (∀ k, k ≠ b → t.band k = s.band k ∧ t.lists k = s.lists k) ∧
      (∀ i, (s.quote i).state ≠ .retiring → t.quote i = { s.quote i with count := (t.quote i).count }) ∧
      ∀ i, (s.story i).state ≠ .deleting → t.story i = { s.story i with count := (t.story i).count }
    (d.page.phase = .holding → d.page.hold ≤ 1 → ∃ t, exec (.holdExpired b) s = .next t ∧ kept t ∧
      (d.prog = .draining → c.flipTransition = .cut →
        (t.band b).window = [] ∧ (t.band b).page = { d.page with phase := .empty, hold := 0 }) ∧
      (d.prog = .draining → c.flipTransition = .roll → (t.band b).window = raised (-lines 1) d.window ∧
        (t.band b).page = ⟨.leaving, 0, 1, m⟩) ∧
      (d.prog ≠ .draining → c.flipTransition = .cut →
        let built := pageBuild c b 0 s
        (t.band b).window = (built.2.band b).window.drop m ∧ (t.band b).page = (if built.1 = 0 then
          { d.page with phase := .empty, hold := 0 } else { d.page with phase := .holding, hold := c.flipHold })) ∧
      (d.prog ≠ .draining → c.flipTransition = .roll →
        let built := pageBuild c b ((c.height : Int) - lines 1) s
        (built.1 = 0 → (t.band b).window = raised (-lines 1) d.window ∧ (t.band b).page = ⟨.leaving, 0, 1, m⟩) ∧
        (built.1 ≠ 0 → (t.band b).window = raised (-lines 1) d.window ++
            raised ((c.height : Int) - lines 1) ((built.2.band b).window.drop m) ∧
          (t.band b).page = ⟨.rolling, 0, 1, m⟩))) ∧
    (d.page.phase = .rolling → c.rollFrames ≤ d.page.roll → ∃ t, exec (.rollEnd b) s = .next t ∧ kept t ∧
      (t.band b).window = raised 0 (d.window.drop d.page.outgoing) ∧ (t.band b).page.phase = .holding ∧
      (t.band b).page.hold = c.flipHold ∧ (t.band b).page.outgoing = 0) ∧
    (d.page.phase = .leaving → c.rollFrames ≤ d.page.roll → d.window.length ≤ d.page.outgoing →
      ∃ t, exec (.leavingEnd b) s = .next t ∧ kept t ∧
        (d.prog = .draining → (t.band b).window = [] ∧ (t.band b).page.phase = .empty) ∧
        (d.prog = .draining → (t.band b).page.hold = d.page.hold) ∧
        (d.prog = .running →
          let built := pageBuild c b 0 (removeFront b d.page.outgoing s)
          t = { built.2 with bands := t.bands, freeIndex := t.freeIndex } ∧
          t.band b = { built.2.band b with page := (t.band b).page } ∧
          (built.1 = 0 → (t.band b).page.phase = .empty ∧ (t.band b).page.hold = 0) ∧
          (built.1 ≠ 0 → (t.band b).page.phase = .holding ∧ (t.band b).page.hold = c.flipHold))) ∧
    (¬ (d.page.phase = .holding ∧ d.page.hold ≤ 1) → exec (.holdExpired b) s = .next s) ∧
    (¬ (d.page.phase = .rolling ∧ c.rollFrames ≤ d.page.roll) → exec (.rollEnd b) s = .next s) ∧
    (¬ (d.page.phase = .leaving ∧ c.rollFrames ≤ d.page.roll) → exec (.leavingEnd b) s = .next s) ∧
    ∀ halted : Bool,
      let u := s.updBand b (fun d => { d with halted := halted })
      let t := pageStep c b u
      let paged := fun (t : State) (p : Page) => t.updBand b (fun d => { d with page := p })
      (d.page.phase = .empty → d.prog = .running →
        let built := pageBuild c b 0 u
        (built.1 = 0 → t = paged built.2 { d.page with hold := 0 }) ∧
        (built.1 ≠ 0 → t = paged built.2 { d.page with phase := .holding, hold := c.flipHold })) ∧
      (d.page.phase = .empty → d.prog ≠ .running → t = u) ∧
      (d.page.phase ≠ .empty → halted = true → t = u) ∧
      (halted = false →
        (d.page.phase = .holding → 1 < d.page.hold → t = paged u { d.page with hold := d.page.hold - 1 }) ∧
        (d.page.phase = .holding → d.page.hold ≤ 1 → exec (.holdExpired b) u = .next t) ∧
        (d.page.phase = .rolling ∨ d.page.phase = .leaving → d.page.roll < c.rollFrames →
          let k := d.page.roll + 1
          t = u.updBand b (fun d => { d with
            page := { d.page with roll := k },
            window := raised (-lines k) (d.window.take d.page.outgoing) ++
              raised ((c.height : Int) - lines k) (d.window.drop d.page.outgoing) })) ∧
        (d.page.phase = .rolling → c.rollFrames ≤ d.page.roll → exec (.rollEnd b) u = .next t) ∧
        (d.page.phase = .leaving → c.rollFrames ≤ d.page.roll → exec (.leavingEnd b) u = .next t))) ∧
  ∀ (s : State) (b : Fin 4) (c : BandConfig) (voffset : Int),
    ((s.lists b).onAir = [] ∨ (s.band b).cursor < (s.lists b).onAir.length) →
    let used := fun page : List Inst => (page.map Inst.slot).sum + (page.dropLast.map Inst.gap).sum
    let fits := fun (page : List Inst) (slot : Nat) =>
      ∀ p, page.getLast? = some p → used page + p.gap + slot ≤ s.width
    let left := fun page : List Inst => match page.getLast? with
      | none => (0 : Int)
      | some p => p.x + ((p.slot : Int) + (p.gap : Int)) * 256
    let considers := fun x y : Build => x.ended = false ∧ x.skips < (x.state.lists b).onAir.length ∧
      ∃ i, (x.state.lists b).onAir[(x.state.band b).cursor]? = some i ∧
        let wraps := decide ((x.state.lists b).onAir.length ≤ (x.state.band b).cursor + 1)
        let slot := x.state.slotOf c i.kind
        let inst := i.shownAt c (left x.page) (if x.page = [] then min s.width slot else slot) voffset
        ((x.state.admissible i.kind = true ∧ fits x.page slot ∧ y = ⟨(x.state.shows b inst).advanced b, x.page ++ [inst], 0,
            wraps || decide (x.page.length + 1 = 32)⟩) ∨
          (x.state.admissible i.kind = false ∧ y = ⟨(x.state.raise .itemSkipped (.band b)).advanced b, x.page,
            if wraps = true ∧ (x.state.lists b).commit = some .loopEnd then 0 else x.skips + 1,
            wraps && decide (x.page ≠ [])⟩))
    let ends := fun x : Build => x.ended = true ∨ (x.page = [] ∧ (x.state.lists b).onAir.length ≤ x.skips) ∨
      ∃ i, (x.state.lists b).onAir[(x.state.band b).cursor]? = some i ∧ x.state.admissible i.kind = true ∧
        ¬ fits x.page (x.state.slotOf c i.kind)
    let first := if (s.lists b).commit = some .immediate then s.swapped b else s
    let begun := if (first.lists b).onAir = [] ∧ (first.lists b).commit ≠ none then first.swapped b else first
    ∃ x, Relation.ReflTransGen considers ⟨begun, [], 0, false⟩ x ∧ ends x ∧ (x.state.band b).window = (s.band b).window ++ x.page ∧
      pageBuild c b voffset s = (x.page.length, if x.page = [] then x.state.raise .starved (.band b) else x.state)

/-- R113, R115: the ramp moves the speed of a CRAWL band toward its effective target by at most accel, and the move takes the speed
from the X of every instance and removes from the front those whose right end has reached the left edge, until one has not. -/
def Obligations.CrawlMotion : Prop :=
  ∀ (s : State) (b : Fin 4) (c : BandConfig),
    let d := s.band b
    let t := moveStep b (rampStep c b s)
    let target := if d.halted then 0 else if d.prog = .clearing then c.clearSpeed else c.speedTarget
    (t.band b).speed = (if d.speed < target then min target (d.speed + c.accel) else max target (d.speed - c.accel)) ∧
    (∃ gone : List Inst,
      d.window.map (fun i => { i with x := i.x - ((t.band b).speed : Int) }) = gone ++ (t.band b).window ∧
      (∀ i ∈ gone, i.x + (i.slot : Int) * 256 ≤ 0) ∧
      ∀ i, (t.band b).window.head? = some i → 0 < i.x + (i.slot : Int) * 256) ∧
    t.band b = { d with speed := (t.band b).speed, window := (t.band b).window } ∧ ∀ k, k ≠ b → t.band k = s.band k

/-- R116 to R121, R132 to R134: the admission step of a CRAWL band. A pending IMMEDIATE commit is carried out first, in every state;
nothing else happens outside RUNNING and BREAKING. There the step considers candidates while the tail T lies within the limit and the
window holds fewer than 64. The head of the break queue comes first: an instance of its story with the default gap and the break mark is
admitted and one repeat used up, or the entry is dropped whole with ITEM SKIPPED; when the queue has become empty a BREAKING band has
its context restored and is RUNNING, with BAND STATE, and BREAK DONE is raised. Else it is the item at the cursor: its instance is
admitted, or it is skipped with ITEM SKIPPED, and the cursor advances, with LOOP END and the LOOP END swap at a wrap; an empty bank swaps
for a pending commit. An admission stands at T, or at the limit in an empty window or after a deferral, and clears the deferral flag.
The step stops, and only then, when T lies past the limit; at 64 instances, with the deferral flag set and WINDOW FULL when it was not;
or with STARVED, at an empty bank or after as many skips as the bank has items. It removes and moves no instance. The cursor stands
within the on-air bank, so does a saved one, and a BREAKING band has an entry (EveryStepKeepsWindows says that every step keeps this). -/
def Obligations.AdmissionFillsTheBand : Prop :=
  ∀ (s : State) (b : Fin 4) (c : BandConfig),
    let tail := fun u : State => match (u.band b).window.getLast? with
      | none => (u.limit : Int)
      | some i => i.x + ((i.slot : Int) + (i.gap : Int)) * 256
    let place := fun u : State => if (u.band b).deferral = true then (u.limit : Int) else tail u
    let room := fun u : State => tail u ≤ (u.limit : Int) ∧ (u.band b).window.length < 64
    let admitted := fun (u : State) (i : Inst) => (u.updBand b (fun d => { d with deferral := false })).shows b i
    let skipped := fun u : State => u.raise .itemSkipped (.band b)
    let queued := fun (u : State) (entries : List BreakEntry) => u.updBand b (fun d => { d with breaks := entries })
    let broken := fun u : State => if (u.band b).breaks ≠ [] then u else
      (if (u.band b).prog = .breaking then (u.updBand b (fun d =>
        { d with cursor := d.saved.getD d.cursor, saved := none, prog := .running })).raise .bandState (.band b)
      else u).raise .breakDone (.band b)
    let considers := fun x y : Admission => room x.state ∧
      ((∃ e rest, (x.state.band b).breaks = e :: rest ∧ y = if x.state.resolvesStory e.story = true then
          ⟨broken (queued (admitted x.state ⟨.story e.story, place x.state, x.state.slotOf c (.story e.story), c.gap, none, 0, true⟩)
            (if e.repeats ≤ 1 then rest else { e with repeats := e.repeats - 1 } :: rest)), 0⟩
        else ⟨broken (skipped (queued x.state rest)), x.skips⟩) ∨
      ((x.state.band b).breaks = [] ∧ (x.state.lists b).onAir = [] ∧ (x.state.lists b).commit ≠ none ∧
        y = ⟨x.state.swapped b, 0⟩) ∨
      ((x.state.band b).breaks = [] ∧ x.skips < (x.state.lists b).onAir.length ∧
        ∃ i, (x.state.lists b).onAir[(x.state.band b).cursor]? = some i ∧ y = if x.state.admissible i.kind = true then
            ⟨(admitted x.state (i.shownAt c (place x.state) (x.state.slotOf c i.kind) 0)).advanced b, 0⟩
          else ⟨(skipped x.state).advanced b, if (x.state.lists b).onAir.length ≤ (x.state.band b).cursor + 1 ∧
            (x.state.lists b).commit = some .loopEnd then 0 else x.skips + 1⟩))
    let stops := fun (x : Admission) (t : State) =>
      ((x.state.limit : Int) < tail x.state ∧ t = x.state) ∨
      (tail x.state ≤ (x.state.limit : Int) ∧ 64 ≤ (x.state.band b).window.length ∧
        t = if (x.state.band b).deferral = true then x.state
          else (x.state.updBand b (fun d => { d with deferral := true })).raise .windowFull (.band b)) ∨
      (room x.state ∧ (x.state.band b).breaks = [] ∧ (x.state.lists b).onAir.length ≤ x.skips ∧
        ((x.state.lists b).onAir = [] → (x.state.lists b).commit = none) ∧ t = x.state.raise .starved (.band b))
    let t := admissionStep c b s
    let begun := if (s.lists b).commit = some .immediate then s.swapped b else s
    ((s.band b).prog ≠ .running → (s.band b).prog ≠ .breaking → t = begun) ∧
    ((s.band b).prog = .running ∨ ((s.band b).prog = .breaking ∧ (s.band b).breaks ≠ []) →
      ((s.lists b).onAir = [] ∨ (s.band b).cursor < (s.lists b).onAir.length) →
      (∀ k, (s.band b).prog = .breaking → (s.band b).saved = some k → (s.lists b).onAir = [] ∨ k < (s.lists b).onAir.length) →
      (∃ x, Relation.ReflTransGen considers ⟨begun, 0⟩ x ∧ stops x t) ∧
      ((s.band b).window.length ≤ 64 →
        ((s.limit : Int) < t.tailX b ∨ ((t.band b).window.length = 64 ∧ (t.band b).deferral = true) ∨
          ∀ m, (s.au.get m).latch = none → 0 < (s.au.get m).level .starved →
            ⟨.starved, .band b⟩ ∈ (t.au.get m).pending) ∧ (t.band b).window.length ≤ 64) ∧
      (∃ new : List Inst, (t.band b).window = (s.band b).window ++ new) ∧
      ((t.band b).prog = .running ∨ ((s.band b).prog = .breaking ∧ (t.band b).prog = .breaking ∧ (t.band b).breaks ≠ [])))

/-- R155 to R158: the pixel port sends nothing outside the raster or while the RESET pin is held, and clear pixels during
initialisation and on lines that belong to no band in a drawing state. On a band's lines each fill component and the key mix the
colour of the coverage with the background by the coverage, rounded, and the key is scaled by the step over the fade frames; where
the coverage is 0 the pixel is the background. A column takes its coverage from the instance whose slot stands there, and 0 where none
stands; an instance at a sub-pixel phase above 0 mixes each column with the one before it, and draws nothing outside its slot; a
glyph stands at its bearing from the pen and from the baseline, moved by the vertical offset, and both its home line and the line it
is drawn on lie within the band. An instance draws the images of its kind: a QUOTE those of its form within its slot, in the form's colours
(R36 to R39); a STORY its text as one run from pen 0, in its colour override or else entry 1 (R82, R85); a GLYPH its code at pen 0 in entry
1, by its own glyph, else by the face's substitute, else nothing (R80); a SPACER none. Where images meet, the largest coverage
stands with its colour, of equal ones the later (R157). -/
def Obligations.Pixels : Prop :=
  (∀ (s : State) (x y : Nat), s.run = .held ∨ s.width ≤ x ∨ s.lines ≤ y → s.pixel x y = none) ∧
  (∀ (s : State) (x y : Nat), x < s.width → y < s.lines → s.run = .initialising → s.pixel x y = some ⟨⟨0, 0, 0⟩, 0⟩) ∧
  (∀ (s : State) (x y : Nat), x < s.width → y < s.lines → s.run = .running →
    let on := fun (b : Fin 4) (c : BandConfig) => (s.band b).prog.drawing = true ∧ (s.band b).config = some c ∧
      c.yOrigin ≤ y ∧ y < c.yOrigin + c.height
    ((∀ b c, ¬ on b c) → s.pixel x y = some ⟨⟨0, 0, 0⟩, 0⟩) ∧
    ∀ b c, on b c → (∀ b' c', b' < b → ¬ on b' c') →
      let cover := s.windowCoverage c (s.band b).window (x : Int) ((y : Int) - (c.yOrigin : Int))
      let v := cover.1
      let front := tget c.palette cover.2
      let back := tget c.palette 0
      let mix := fun f k : Nat => (f * v + k * (255 - v) + 127) / 255
      let sent := fun key : Nat => if c.fade = 0 then key * (s.vis b).step else key * (s.vis b).step / c.fade
      s.pixel x y = some ⟨⟨mix front.r back.r, mix front.g back.g, mix front.b back.b⟩, sent (mix 1023 c.backKey)⟩ ∧
      (v = 0 → s.pixel x y = some ⟨back, sent c.backKey⟩) ∧
      ((s.vis b).step = 0 → ∃ p, s.pixel x y = some p ∧ p.key = 0)) ∧
  (∀ (s : State) (c : BandConfig) (w : List Inst) (x l : Int),
    let stands := fun i : Inst => i.x / 256 ≤ x ∧ x < i.x / 256 + (i.slot : Int)
    ((∀ i ∈ w, ¬ stands i) → (s.windowCoverage c w x l).1 = 0) ∧
    ∀ i ∈ w, (∀ k ∈ w, k ≠ i → ¬ stands k) →
      let own := s.drawnCoverage c i (x - i.x / 256) l
      (s.windowCoverage c w x l).1 = own.1 ∧ (own.1 ≠ 0 → s.windowCoverage c w x l = own)) ∧
  (∀ (s : State) (c : BandConfig) (i : Inst) (j l : Int),
    let p := if c.smooth then ((i.x % 256) / 16).toNat else 0
    let here := s.coverage c i j l
    let before := s.coverage c i (j - 1) l
    (j < 0 ∨ (i.slot : Int) ≤ j → here.1 = 0 ∧ (s.drawnCoverage c i j l).1 = 0) ∧
    (p = 0 → s.drawnCoverage c i j l = here) ∧
    (p ≠ 0 → 0 ≤ j → j < i.slot → s.drawnCoverage c i j l = ((here.1 * (16 - p) + before.1 * p + 8) / 16,
      if before.1 * p ≤ here.1 * (16 - p) then here.2 else before.2))) ∧
  (∀ (s : State) (c : BandConfig) (i : Inst),
    let f := s.face c.face
    (∀ (n : Fin 1024) (gen : Nat), i.kind = .quote ⟨n.val, gen⟩ → s.instGlyphs c i = quoteGlyphs c f i.slot (s.quote n)) ∧
    (∀ (n : Fin 256) (gen : Nat) (entry : Fin 10), i.kind = .story ⟨n.val, gen⟩ →
      (i.colour = none ∧ entry = 1) ∨ i.colour = some entry.val →
      s.instGlyphs c i = setRun f 0 ((s.storyText n.val).map (fun code => (code, entry)))) ∧
    (∀ code, i.kind = .glyph code → s.instGlyphs c i = setRun f 0 [(code, 1)]) ∧
    (i.kind = .spacer → s.instGlyphs c i = [])) ∧
  (∀ (s : State) (c : BandConfig) (i : Inst) (j l : Int), 0 ≤ j → j < i.slot →
    let home := l - i.voffset
    let image := fun p : Placed =>
      let col := j - (p.pen + p.glyph.bearingX)
      let row := home - ((c.baseline : Int) - p.glyph.bearingY)
      if 0 ≤ col ∧ col < p.glyph.width ∧ 0 ≤ row ∧ row < p.glyph.height ∧ 0 ≤ home ∧ home < c.height ∧ 0 ≤ l ∧ l < c.height then
        some (Memory.read s.gs.mem (p.glyph.offset + row.toNat * p.glyph.width + col.toNat)).toNat
      else none
    ((∀ p ∈ s.instGlyphs c i, image p = none) → (s.coverage c i j l).1 = 0) ∧
    ∀ before p after v, s.instGlyphs c i = before ++ p :: after → image p = some v →
      (∀ q ∈ before, ∀ w, image q = some w → w ≤ v) → (∀ q ∈ after, ∀ w, image q = some w → w < v) →
      s.coverage c i j l = (v, p.entry)) ∧
  ∀ (s : State) (c : BandConfig) (i : Inst) (code : Nat) (j l : Int), i.kind = .glyph code →
    let present := fun (code : Nat) (g : Glyph) =>
      ∃ n : Fin 1024, n.val = code ∧ tget (s.face c.face).glyphs n = g ∧ g.present = true
    let missing := fun code : Nat => ¬ ∃ g, present code g
    (missing code → missing (s.face c.face).substitute → (s.coverage c i j l).1 = 0) ∧
    ∀ g : Glyph, present code g ∨ (missing code ∧ present (s.face c.face).substitute g) →
    let home := l - i.voffset
    let col := j - g.bearingX
    let row := home - ((c.baseline : Int) - g.bearingY)
    let within := 0 ≤ j ∧ j < i.slot ∧ 0 ≤ col ∧ col < g.width ∧ 0 ≤ row ∧ row < g.height ∧ 0 ≤ home ∧ home < c.height ∧
      0 ≤ l ∧ l < c.height
    (within → s.coverage c i j l = ((Memory.read s.gs.mem (g.offset + row.toNat * g.width + col.toNat)).toNat, 1)) ∧
    (¬ within → (s.coverage c i j l).1 = 0)

/-! ### The panel bus -/

/-- R177, R178, R180, R184: a start condition opens a transfer; the device acknowledges its own address, the general call address,
a command byte it knows and the arguments that the command takes, and nothing after a byte it did not acknowledge. A whole write acts
at its end as the row of its command does; one without its arguments, or with an argument out of range, raises COMMAND REFUSED; one with
a byte that was not acknowledged does nothing. After the general call address only the command bytes of the four broadcasts are
acknowledged, and a write with another, or with a byte beyond the arguments, is discarded; the general call address with the read
direction is not acknowledged (R178). That an option bit of TAKE ON other than bit 0 changes nothing is the model's reading (DEDUCED,
log entry 16). A broadcast write does at its stop what the same write does at the device's own
address, and a repeated start ends a write as a stop does and opens a new transfer.
The acknowledge bits stand in a field of the model's own (log entry 13). -/
def Obligations.PanelWrites : Prop :=
  ∀ s : State, s.run = .running →
    let own := byteOf (2 * (0x58 + s.straps.panelAddr.val))
    let during := fun (t : Transfer) => { s with pbi := { s.pbi with transfer := t } }
    let heard := fun (t : Transfer) (bytes : List Byte) (t' : Transfer) (acks : List Bool) =>
      exec (.panelWrite bytes) (during t) = .next { s with pbi := { s.pbi with transfer := t', acks := acks } }
    let acts := fun (bytes : List Byte) (i : Instr) => ∃ t, exec i (during (.write bytes false)) = .next t ∧
      exec .stopCondition (during (.write bytes false)) =
        .next { t with pbi := { t.pbi with transfer := .notAddressed, block := [] } }
    let refused := fun (bytes : List Byte) => exec .stopCondition (during (.write bytes false)) =
      .next { s.raise .commandRefused (.master .panel) with pbi := { s.pbi with transfer := .notAddressed, block := [] } }
    exec .startCondition (during .notAddressed) = .next { s with pbi := { s.pbi with transfer := .address, block := [] } } ∧
    (∀ (c : Byte) (arguments : List Byte), panelArguments c = some arguments.length →
      heard .address (own :: c :: arguments) (.write (c :: arguments) false) (List.replicate (arguments.length + 2) true)) ∧
    (∀ (c : Byte) (arguments : List Byte), (c, arguments.length) ∈ [((0x20 : Byte), 1), (0x30, 1), (0x31, 0), (0x32, 0)] →
      heard .address (0 :: c :: arguments) (.broadcast (c :: arguments) false)
        (List.replicate (arguments.length + 2) true)) ∧
    (∀ (c : Byte) (rest : List Byte), c ∉ [(0x20 : Byte), 0x30, 0x31, 0x32] →
      heard .address (0 :: c :: rest) (.broadcast [] true) (true :: List.replicate (rest.length + 1) false)) ∧
    (∀ (c : Byte) (arguments rest : List Byte) (x : Byte),
      (c, arguments.length) ∈ [((0x20 : Byte), 1), (0x30, 1), (0x31, 0), (0x32, 0)] →
      heard .address (0 :: c :: arguments ++ x :: rest) (.broadcast (c :: arguments) true)
        (List.replicate (arguments.length + 2) true ++ List.replicate (rest.length + 1) false)) ∧
    (∀ (c : Byte) (rest : List Byte), panelArguments c = none →
      heard .address (own :: c :: rest) (.write [] true) (true :: List.replicate (rest.length + 1) false)) ∧
    (∀ (c : Byte) (arguments rest : List Byte) (x : Byte), panelArguments c = some arguments.length →
      heard .address (own :: c :: arguments ++ x :: rest) (.write (c :: arguments) true)
        (List.replicate (arguments.length + 2) true ++ List.replicate (rest.length + 1) false)) ∧
    (∀ (address : Byte) (rest : List Byte), address ≠ own → address ≠ own + 1 → address ≠ 0 →
      heard .address (address :: rest) .notAddressed (List.replicate (rest.length + 1) false)) ∧
    (∀ (b : Fin 4) (x : Byte),
      acts [0x01, byteOf b.val, x] (.bandRequestQueued (.panel b (.takeOn (x.getLsbD 0)))) ∧
      acts [0x02, byteOf b.val] (.bandRequestQueued (.panel b .takeOffDrain)) ∧
      acts [0x03, byteOf b.val] (.bandRequestQueued (.panel b .takeOffCut)) ∧
      acts [0x04, byteOf b.val] (.bandRequestQueued (.panel b .halt)) ∧
      acts [0x05, byteOf b.val] (.bandRequestQueued (.panel b .resume)) ∧
      acts [0x06, byteOf b.val, 0] (.bandRequestQueued (.panel b (.nudge false))) ∧
      acts [0x06, byteOf b.val, 1] (.bandRequestQueued (.panel b (.nudge true))) ∧
      acts [0x10, x] (.laneHold .panel x.toNat) ∧ acts [0x11, x] (.laneRelease .panel x.toNat) ∧
      acts [0x12] (.linkRelease .panel) ∧ acts [0x20, x] (.softClean .panel x.toNat) ∧
      acts [0x21, x] (.setThreshold .panel x.toNat) ∧ acts [0x30, 0] (.allTakeOff false) ∧
      acts [0x30, 1] (.allTakeOff true) ∧ acts [0x31] .allHalt ∧ acts [0x32] .allResume) ∧
    (∀ x y : Byte, 3 < x.toNat → refused [0x01, x, y] ∧ refused [0x02, x] ∧ refused [0x03, x] ∧ refused [0x04, x] ∧
      refused [0x05, x] ∧ refused [0x06, x, y]) ∧
    (∀ x y : Byte, 1 < x.toNat → refused [0x06, y, x] ∧ refused [0x30, x]) ∧
    (∀ (c : Byte) (arguments : List Byte) (n : Nat), panelArguments c = some n → arguments.length < n →
      refused (c :: arguments)) ∧
    (∀ bytes : List Byte, exec .stopCondition (during (.write bytes true)) =
      .next { s with pbi := { s.pbi with transfer := .notAddressed, block := [] } }) ∧
    ∀ (bytes : List Byte) (discard : Bool),
      exec .stopCondition (during (.broadcast bytes discard)) = exec .stopCondition (during (.write bytes discard)) ∧
      exec .startCondition (during (.broadcast bytes discard)) = exec .startCondition (during (.write bytes discard)) ∧
      ∃ t, exec .stopCondition (during (.write bytes discard)) = .next t ∧ t.pbi.transfer = .notAddressed ∧
        exec .startCondition (during (.write bytes discard)) = .next { t with pbi := { t.pbi with transfer := .address } }

/-- R179, R180, R184, R189: the device's address with the read direction latches the panel status block and the panel master's
pending set, and the block's bytes are sent one by one. The last bit of byte 7 completes the read: the pairs latched leave the
pending set and the pairs held back join it. A stop or a start before it leaves the pending set whole and gives back the pairs held.
Bytes clocked after byte 7 carry 00h, and once the read is complete neither they nor a stop nor a start changes the pending set.
The model's choice, log entry 23 (DESIGN CHOICE): before position 8 the row PANEL_STATUS_READ_COMPLETE clocks the rest of the block,
and at position 8 and above, where the block is sent, it answers the same state. The model's choice, log entry 13: the bytes sent and
the acknowledge bits stand in fields of the model's own. -/
def Obligations.PanelStatusReads : Prop :=
  (∀ (s : State) (n : Nat), s.run = .running → s.pbi.transfer = .address →
    let band := fun b : Fin 4 =>
      byteOf ((s.band b).prog.code + 8 * (s.band b).motionCode + 32 * (s.vis b).state.code + 128 * bit (s.tally b))
    let block := [byteOf (1 + 2 * bit (s.attention .panel) + 4 * bit s.cmp.sampled + 8 * bit s.cmp.ack + 16 * bit s.fli.fault +
      32 * s.tu.lock.code), band 0, band 1, band 2, band 3, byteOf s.laneBits] ++ bytesOf 2 (kindBits s.au.panel.pending)
    (n < 8 → exec (.panelStatusRead n) s = .next { s with
      pbi := ⟨.read n, block, [true], block.take n⟩,
      au := { s.au with panel := { s.au.panel with latch := some s.au.panel.pending } } }) ∧
    (8 ≤ n → ∃ t, exec (.panelStatusRead n) s = .next t ∧ t = { s with
        pbi := ⟨.read n, block, [true], block ++ List.replicate (n - 8) 0⟩, au := { s.au with panel := t.au.panel } } ∧
      t.au.panel = { s.au.panel with pending := t.au.panel.pending, hold := [], latch := none } ∧
      ∀ e, e ∈ t.au.panel.pending ↔ e ∈ s.au.panel.hold)) ∧
  (∀ (s : State) (position : Nat), s.run = .running → s.pbi.transfer = .read position → 8 ≤ position →
    exec .panelStatusReadComplete s = .next s ∧
    exec .stopCondition s = .next { s with pbi := { s.pbi with transfer := .notAddressed, block := [] } } ∧
    exec .startCondition s = .next { s with pbi := { s.pbi with transfer := .address, block := [] } }) ∧
  ∀ (s : State) (position : Nat) (latched : List Event), s.run = .running → s.pbi.transfer = .read position → position < 8 →
    s.pbi.block.length = 8 → s.au.panel.latch = some latched →
    (∃ t, exec .panelStatusReadComplete s = .next t ∧ t = { s with
        pbi := { s.pbi with transfer := .read 8, out := s.pbi.block.drop position }, au := { s.au with panel := t.au.panel } } ∧
      t.au.panel = { s.au.panel with pending := t.au.panel.pending, hold := [], latch := none } ∧
      ∀ e, e ∈ t.au.panel.pending ↔ (e ∈ s.au.panel.pending ∧ e ∉ latched) ∨ e ∈ s.au.panel.hold) ∧
    ∀ stop : Bool, ∃ t, exec (if stop then .stopCondition else .startCondition) s = .next t ∧ t = { s with
        pbi := { s.pbi with transfer := if stop then .notAddressed else .address, block := [] },
        au := { s.au with panel := t.au.panel } } ∧
      t.au.panel = { s.au.panel with pending := t.au.panel.pending, hold := [], latch := none } ∧
      ∀ e, e ∈ t.au.panel.pending ↔ e ∈ s.au.panel.pending ∨ e ∈ s.au.panel.hold

/-! ### Invariants that every step keeps -/

/-- R4, R67: every step keeps both memories in canonical form, the symbols of LIVE records unique, and the text pool whole: the free
blocks in ascending number, no block held twice or held and free, held and free blocks together 4096, every story in as many
blocks as its length needs, and a load's designated blocks free (R66, R69, R70). -/
def Obligations.EveryStepKeepsStores : Prop :=
  (∀ s t : State, s.memoryOk → step s = .next t → t.memoryOk) ∧
  (∀ s t : State, s.symbolsOk → step s = .next t → t.symbolsOk) ∧
  (∀ s t : State, s.poolOk → step s = .next t → t.poolOk)

/-- R9, R10, R72: every step keeps the on-screen counts of quotes and stories equal to their instances in the four windows. -/
def Obligations.EveryStepKeepsCounts : Prop :=
  ∀ s t : State, s.quoteCountsOk ∧ s.storyCountsOk → step s = .next t → t.quoteCountsOk ∧ t.storyCountsOk

/-- R44, R48, R84, R105, R126: every step keeps every queue and bank within its size. -/
def Obligations.EveryStepKeepsQueues : Prop := ∀ s t : State, s.queuesOk → step s = .next t → t.queuesOk

/-- R101, R139: every step keeps every window within its size and in the shape that the program state and the page phase give. R119,
R129, R96: every step keeps the cursor within the on-air bank, or at 0; a saved context exactly in CLEARING and BREAKING, with the
cursor's value; no pending commit and no deferral in OFF and READY; a configuration exactly outside OFF; break entries in every
CLEARING and BREAKING band, and else in a RUNNING CRAWL band alone (R126, R127, R132 to R137). -/
def Obligations.EveryStepKeepsWindows : Prop :=
  (∀ s t : State, s.windowsOk → step s = .next t → t.windowsOk) ∧
  (∀ s t : State, s.ordersOk → step s = .next t → t.ordersOk)

/-- R102, R103, R112, R113: every step keeps the bands that are not OFF on lines of their own within the raster, and speeds and
configurations within their ranges. -/
def Obligations.EveryStepKeepsLinesAndSpeeds : Prop :=
  ∀ s t : State, s.linesOk ∧ s.speedsOk → step s = .next t → t.linesOk ∧ t.speedsOk

/-- R186, R189: every step keeps the pending sets and the hold sets free of equal pairs, and the hold set empty outside a read. -/
def Obligations.EveryStepKeepsAttention : Prop := ∀ s t : State, s.attentionOk → step s = .next t → t.attentionOk

/-- R77, R171 to R176: with the editorial link in order, no step stops, and every step keeps it in order. -/
def Obligations.NoStepStops : Prop :=
  ∀ s : State, s.linkOk → s.imagesOk → ∃ t, step s = .next t ∧ t.linkOk ∧ t.imagesOk

/-- State.reset meets every invariant of this file. -/
def Obligations.ResetIsInOrder : Prop :=
  State.reset.memoryOk ∧ State.reset.symbolsOk ∧ State.reset.quoteCountsOk ∧ State.reset.storyCountsOk ∧ State.reset.queuesOk ∧
    State.reset.windowsOk ∧ State.reset.linesOk ∧ State.reset.speedsOk ∧ State.reset.attentionOk ∧ State.reset.linkOk ∧
    State.reset.imagesOk ∧ State.reset.poolOk ∧ State.reset.ordersOk
end

