-- ==== Sys2Proof/Laws/State.lean ====
section
/-! SUPPORT. One lemma for each field and each named update of the state, true by `rfl`; and what each table accessor reads
after each update of its table. -/

namespace Sys2Proof.Machine

/-! ### State.updQuote -/

@[simp] theorem State.updQuote_run (s : State) (i : Fin 1024) (f : Quote → Quote) : (s.updQuote i f).run = s.run := rfl
@[simp] theorem State.updQuote_straps (s : State) (i : Fin 1024) (f : Quote → Quote) : (s.updQuote i f).straps = s.straps := rfl
@[simp] theorem State.updQuote_cleanPin (s : State) (i : Fin 1024) (f : Quote → Quote) : (s.updQuote i f).cleanPin = s.cleanPin := rfl
@[simp] theorem State.updQuote_tu (s : State) (i : Fin 1024) (f : Quote → Quote) : (s.updQuote i f).tu = s.tu := rfl
@[simp] theorem State.updQuote_quotes (s : State) (i : Fin 1024) (f : Quote → Quote) : (s.updQuote i f).quotes = tupd s.quotes i f := rfl
@[simp] theorem State.updQuote_flashSetting (s : State) (i : Fin 1024) (f : Quote → Quote) : (s.updQuote i f).flashSetting = s.flashSetting := rfl
@[simp] theorem State.updQuote_fli (s : State) (i : Fin 1024) (f : Quote → Quote) : (s.updQuote i f).fli = s.fli := rfl
@[simp] theorem State.updQuote_uePointer (s : State) (i : Fin 1024) (f : Quote → Quote) : (s.updQuote i f).uePointer = s.uePointer := rfl
@[simp] theorem State.updQuote_ts (s : State) (i : Fin 1024) (f : Quote → Quote) : (s.updQuote i f).ts = s.ts := rfl
@[simp] theorem State.updQuote_gs (s : State) (i : Fin 1024) (f : Quote → Quote) : (s.updQuote i f).gs = s.gs := rfl
@[simp] theorem State.updQuote_rls (s : State) (i : Fin 1024) (f : Quote → Quote) : (s.updQuote i f).rls = s.rls := rfl
@[simp] theorem State.updQuote_editStaging (s : State) (i : Fin 1024) (f : Quote → Quote) : (s.updQuote i f).editStaging = s.editStaging := rfl
@[simp] theorem State.updQuote_bands (s : State) (i : Fin 1024) (f : Quote → Quote) : (s.updQuote i f).bands = s.bands := rfl
@[simp] theorem State.updQuote_cmp (s : State) (i : Fin 1024) (f : Quote → Quote) : (s.updQuote i f).cmp = s.cmp := rfl
@[simp] theorem State.updQuote_pins (s : State) (i : Fin 1024) (f : Quote → Quote) : (s.updQuote i f).pins = s.pins := rfl
@[simp] theorem State.updQuote_au (s : State) (i : Fin 1024) (f : Quote → Quote) : (s.updQuote i f).au = s.au := rfl
@[simp] theorem State.updQuote_eli (s : State) (i : Fin 1024) (f : Quote → Quote) : (s.updQuote i f).eli = s.eli := rfl
@[simp] theorem State.updQuote_pbi (s : State) (i : Fin 1024) (f : Quote → Quote) : (s.updQuote i f).pbi = s.pbi := rfl
@[simp] theorem State.updQuote_frames (s : State) (i : Fin 1024) (f : Quote → Quote) : (s.updQuote i f).frames = s.frames := rfl
@[simp] theorem State.updQuote_freeIndex (s : State) (i : Fin 1024) (f : Quote → Quote) : (s.updQuote i f).freeIndex = s.freeIndex := rfl
@[simp] theorem State.updQuote_pending (s : State) (i : Fin 1024) (f : Quote → Quote) : (s.updQuote i f).pending = s.pending := rfl

/-! ### State.updStory -/

@[simp] theorem State.updStory_run (s : State) (i : Fin 256) (f : Story → Story) : (s.updStory i f).run = s.run := rfl
@[simp] theorem State.updStory_straps (s : State) (i : Fin 256) (f : Story → Story) : (s.updStory i f).straps = s.straps := rfl
@[simp] theorem State.updStory_cleanPin (s : State) (i : Fin 256) (f : Story → Story) : (s.updStory i f).cleanPin = s.cleanPin := rfl
@[simp] theorem State.updStory_tu (s : State) (i : Fin 256) (f : Story → Story) : (s.updStory i f).tu = s.tu := rfl
@[simp] theorem State.updStory_quotes (s : State) (i : Fin 256) (f : Story → Story) : (s.updStory i f).quotes = s.quotes := rfl
@[simp] theorem State.updStory_flashSetting (s : State) (i : Fin 256) (f : Story → Story) : (s.updStory i f).flashSetting = s.flashSetting := rfl
@[simp] theorem State.updStory_fli (s : State) (i : Fin 256) (f : Story → Story) : (s.updStory i f).fli = s.fli := rfl
@[simp] theorem State.updStory_uePointer (s : State) (i : Fin 256) (f : Story → Story) : (s.updStory i f).uePointer = s.uePointer := rfl
@[simp] theorem State.updStory_ts (s : State) (i : Fin 256) (f : Story → Story) : (s.updStory i f).ts = { s.ts with stories := tupd s.ts.stories i f } := rfl
@[simp] theorem State.updStory_gs (s : State) (i : Fin 256) (f : Story → Story) : (s.updStory i f).gs = s.gs := rfl
@[simp] theorem State.updStory_rls (s : State) (i : Fin 256) (f : Story → Story) : (s.updStory i f).rls = s.rls := rfl
@[simp] theorem State.updStory_editStaging (s : State) (i : Fin 256) (f : Story → Story) : (s.updStory i f).editStaging = s.editStaging := rfl
@[simp] theorem State.updStory_bands (s : State) (i : Fin 256) (f : Story → Story) : (s.updStory i f).bands = s.bands := rfl
@[simp] theorem State.updStory_cmp (s : State) (i : Fin 256) (f : Story → Story) : (s.updStory i f).cmp = s.cmp := rfl
@[simp] theorem State.updStory_pins (s : State) (i : Fin 256) (f : Story → Story) : (s.updStory i f).pins = s.pins := rfl
@[simp] theorem State.updStory_au (s : State) (i : Fin 256) (f : Story → Story) : (s.updStory i f).au = s.au := rfl
@[simp] theorem State.updStory_eli (s : State) (i : Fin 256) (f : Story → Story) : (s.updStory i f).eli = s.eli := rfl
@[simp] theorem State.updStory_pbi (s : State) (i : Fin 256) (f : Story → Story) : (s.updStory i f).pbi = s.pbi := rfl
@[simp] theorem State.updStory_frames (s : State) (i : Fin 256) (f : Story → Story) : (s.updStory i f).frames = s.frames := rfl
@[simp] theorem State.updStory_freeIndex (s : State) (i : Fin 256) (f : Story → Story) : (s.updStory i f).freeIndex = s.freeIndex := rfl
@[simp] theorem State.updStory_pending (s : State) (i : Fin 256) (f : Story → Story) : (s.updStory i f).pending = s.pending := rfl

/-! ### State.setFace -/

@[simp] theorem State.setFace_run (s : State) (i : Fin 4) (f : Face) : (s.setFace i f).run = s.run := rfl
@[simp] theorem State.setFace_straps (s : State) (i : Fin 4) (f : Face) : (s.setFace i f).straps = s.straps := rfl
@[simp] theorem State.setFace_cleanPin (s : State) (i : Fin 4) (f : Face) : (s.setFace i f).cleanPin = s.cleanPin := rfl
@[simp] theorem State.setFace_tu (s : State) (i : Fin 4) (f : Face) : (s.setFace i f).tu = s.tu := rfl
@[simp] theorem State.setFace_quotes (s : State) (i : Fin 4) (f : Face) : (s.setFace i f).quotes = s.quotes := rfl
@[simp] theorem State.setFace_flashSetting (s : State) (i : Fin 4) (f : Face) : (s.setFace i f).flashSetting = s.flashSetting := rfl
@[simp] theorem State.setFace_fli (s : State) (i : Fin 4) (f : Face) : (s.setFace i f).fli = s.fli := rfl
@[simp] theorem State.setFace_uePointer (s : State) (i : Fin 4) (f : Face) : (s.setFace i f).uePointer = s.uePointer := rfl
@[simp] theorem State.setFace_ts (s : State) (i : Fin 4) (f : Face) : (s.setFace i f).ts = s.ts := rfl
@[simp] theorem State.setFace_gs (s : State) (i : Fin 4) (f : Face) : (s.setFace i f).gs = { s.gs with faces := tset s.gs.faces i f } := rfl
@[simp] theorem State.setFace_rls (s : State) (i : Fin 4) (f : Face) : (s.setFace i f).rls = s.rls := rfl
@[simp] theorem State.setFace_editStaging (s : State) (i : Fin 4) (f : Face) : (s.setFace i f).editStaging = s.editStaging := rfl
@[simp] theorem State.setFace_bands (s : State) (i : Fin 4) (f : Face) : (s.setFace i f).bands = s.bands := rfl
@[simp] theorem State.setFace_cmp (s : State) (i : Fin 4) (f : Face) : (s.setFace i f).cmp = s.cmp := rfl
@[simp] theorem State.setFace_pins (s : State) (i : Fin 4) (f : Face) : (s.setFace i f).pins = s.pins := rfl
@[simp] theorem State.setFace_au (s : State) (i : Fin 4) (f : Face) : (s.setFace i f).au = s.au := rfl
@[simp] theorem State.setFace_eli (s : State) (i : Fin 4) (f : Face) : (s.setFace i f).eli = s.eli := rfl
@[simp] theorem State.setFace_pbi (s : State) (i : Fin 4) (f : Face) : (s.setFace i f).pbi = s.pbi := rfl
@[simp] theorem State.setFace_frames (s : State) (i : Fin 4) (f : Face) : (s.setFace i f).frames = s.frames := rfl
@[simp] theorem State.setFace_freeIndex (s : State) (i : Fin 4) (f : Face) : (s.setFace i f).freeIndex = s.freeIndex := rfl
@[simp] theorem State.setFace_pending (s : State) (i : Fin 4) (f : Face) : (s.setFace i f).pending = s.pending := rfl

/-! ### State.updLane -/

@[simp] theorem State.updLane_run (s : State) (n : Fin 4) (f : Lane → Lane) : (s.updLane n f).run = s.run := rfl
@[simp] theorem State.updLane_straps (s : State) (n : Fin 4) (f : Lane → Lane) : (s.updLane n f).straps = s.straps := rfl
@[simp] theorem State.updLane_cleanPin (s : State) (n : Fin 4) (f : Lane → Lane) : (s.updLane n f).cleanPin = s.cleanPin := rfl
@[simp] theorem State.updLane_tu (s : State) (n : Fin 4) (f : Lane → Lane) : (s.updLane n f).tu = s.tu := rfl
@[simp] theorem State.updLane_quotes (s : State) (n : Fin 4) (f : Lane → Lane) : (s.updLane n f).quotes = s.quotes := rfl
@[simp] theorem State.updLane_flashSetting (s : State) (n : Fin 4) (f : Lane → Lane) : (s.updLane n f).flashSetting = s.flashSetting := rfl
@[simp] theorem State.updLane_fli (s : State) (n : Fin 4) (f : Lane → Lane) : (s.updLane n f).fli = { s.fli with lanes := tupd s.fli.lanes n f } := rfl
@[simp] theorem State.updLane_uePointer (s : State) (n : Fin 4) (f : Lane → Lane) : (s.updLane n f).uePointer = s.uePointer := rfl
@[simp] theorem State.updLane_ts (s : State) (n : Fin 4) (f : Lane → Lane) : (s.updLane n f).ts = s.ts := rfl
@[simp] theorem State.updLane_gs (s : State) (n : Fin 4) (f : Lane → Lane) : (s.updLane n f).gs = s.gs := rfl
@[simp] theorem State.updLane_rls (s : State) (n : Fin 4) (f : Lane → Lane) : (s.updLane n f).rls = s.rls := rfl
@[simp] theorem State.updLane_editStaging (s : State) (n : Fin 4) (f : Lane → Lane) : (s.updLane n f).editStaging = s.editStaging := rfl
@[simp] theorem State.updLane_bands (s : State) (n : Fin 4) (f : Lane → Lane) : (s.updLane n f).bands = s.bands := rfl
@[simp] theorem State.updLane_cmp (s : State) (n : Fin 4) (f : Lane → Lane) : (s.updLane n f).cmp = s.cmp := rfl
@[simp] theorem State.updLane_pins (s : State) (n : Fin 4) (f : Lane → Lane) : (s.updLane n f).pins = s.pins := rfl
@[simp] theorem State.updLane_au (s : State) (n : Fin 4) (f : Lane → Lane) : (s.updLane n f).au = s.au := rfl
@[simp] theorem State.updLane_eli (s : State) (n : Fin 4) (f : Lane → Lane) : (s.updLane n f).eli = s.eli := rfl
@[simp] theorem State.updLane_pbi (s : State) (n : Fin 4) (f : Lane → Lane) : (s.updLane n f).pbi = s.pbi := rfl
@[simp] theorem State.updLane_frames (s : State) (n : Fin 4) (f : Lane → Lane) : (s.updLane n f).frames = s.frames := rfl
@[simp] theorem State.updLane_freeIndex (s : State) (n : Fin 4) (f : Lane → Lane) : (s.updLane n f).freeIndex = s.freeIndex := rfl
@[simp] theorem State.updLane_pending (s : State) (n : Fin 4) (f : Lane → Lane) : (s.updLane n f).pending = s.pending := rfl

/-! ### State.updBand -/

@[simp] theorem State.updBand_run (s : State) (b : Fin 4) (f : Band → Band) : (s.updBand b f).run = s.run := rfl
@[simp] theorem State.updBand_straps (s : State) (b : Fin 4) (f : Band → Band) : (s.updBand b f).straps = s.straps := rfl
@[simp] theorem State.updBand_cleanPin (s : State) (b : Fin 4) (f : Band → Band) : (s.updBand b f).cleanPin = s.cleanPin := rfl
@[simp] theorem State.updBand_tu (s : State) (b : Fin 4) (f : Band → Band) : (s.updBand b f).tu = s.tu := rfl
@[simp] theorem State.updBand_quotes (s : State) (b : Fin 4) (f : Band → Band) : (s.updBand b f).quotes = s.quotes := rfl
@[simp] theorem State.updBand_flashSetting (s : State) (b : Fin 4) (f : Band → Band) : (s.updBand b f).flashSetting = s.flashSetting := rfl
@[simp] theorem State.updBand_fli (s : State) (b : Fin 4) (f : Band → Band) : (s.updBand b f).fli = s.fli := rfl
@[simp] theorem State.updBand_uePointer (s : State) (b : Fin 4) (f : Band → Band) : (s.updBand b f).uePointer = s.uePointer := rfl
@[simp] theorem State.updBand_ts (s : State) (b : Fin 4) (f : Band → Band) : (s.updBand b f).ts = s.ts := rfl
@[simp] theorem State.updBand_gs (s : State) (b : Fin 4) (f : Band → Band) : (s.updBand b f).gs = s.gs := rfl
@[simp] theorem State.updBand_rls (s : State) (b : Fin 4) (f : Band → Band) : (s.updBand b f).rls = s.rls := rfl
@[simp] theorem State.updBand_editStaging (s : State) (b : Fin 4) (f : Band → Band) : (s.updBand b f).editStaging = s.editStaging := rfl
@[simp] theorem State.updBand_bands (s : State) (b : Fin 4) (f : Band → Band) : (s.updBand b f).bands = tupd s.bands b f := rfl
@[simp] theorem State.updBand_cmp (s : State) (b : Fin 4) (f : Band → Band) : (s.updBand b f).cmp = s.cmp := rfl
@[simp] theorem State.updBand_pins (s : State) (b : Fin 4) (f : Band → Band) : (s.updBand b f).pins = s.pins := rfl
@[simp] theorem State.updBand_au (s : State) (b : Fin 4) (f : Band → Band) : (s.updBand b f).au = s.au := rfl
@[simp] theorem State.updBand_eli (s : State) (b : Fin 4) (f : Band → Band) : (s.updBand b f).eli = s.eli := rfl
@[simp] theorem State.updBand_pbi (s : State) (b : Fin 4) (f : Band → Band) : (s.updBand b f).pbi = s.pbi := rfl
@[simp] theorem State.updBand_frames (s : State) (b : Fin 4) (f : Band → Band) : (s.updBand b f).frames = s.frames := rfl
@[simp] theorem State.updBand_freeIndex (s : State) (b : Fin 4) (f : Band → Band) : (s.updBand b f).freeIndex = s.freeIndex := rfl
@[simp] theorem State.updBand_pending (s : State) (b : Fin 4) (f : Band → Band) : (s.updBand b f).pending = s.pending := rfl

/-! ### State.updLists -/

@[simp] theorem State.updLists_run (s : State) (b : Fin 4) (f : RunLists → RunLists) : (s.updLists b f).run = s.run := rfl
@[simp] theorem State.updLists_straps (s : State) (b : Fin 4) (f : RunLists → RunLists) : (s.updLists b f).straps = s.straps := rfl
@[simp] theorem State.updLists_cleanPin (s : State) (b : Fin 4) (f : RunLists → RunLists) : (s.updLists b f).cleanPin = s.cleanPin := rfl
@[simp] theorem State.updLists_tu (s : State) (b : Fin 4) (f : RunLists → RunLists) : (s.updLists b f).tu = s.tu := rfl
@[simp] theorem State.updLists_quotes (s : State) (b : Fin 4) (f : RunLists → RunLists) : (s.updLists b f).quotes = s.quotes := rfl
@[simp] theorem State.updLists_flashSetting (s : State) (b : Fin 4) (f : RunLists → RunLists) : (s.updLists b f).flashSetting = s.flashSetting := rfl
@[simp] theorem State.updLists_fli (s : State) (b : Fin 4) (f : RunLists → RunLists) : (s.updLists b f).fli = s.fli := rfl
@[simp] theorem State.updLists_uePointer (s : State) (b : Fin 4) (f : RunLists → RunLists) : (s.updLists b f).uePointer = s.uePointer := rfl
@[simp] theorem State.updLists_ts (s : State) (b : Fin 4) (f : RunLists → RunLists) : (s.updLists b f).ts = s.ts := rfl
@[simp] theorem State.updLists_gs (s : State) (b : Fin 4) (f : RunLists → RunLists) : (s.updLists b f).gs = s.gs := rfl
@[simp] theorem State.updLists_rls (s : State) (b : Fin 4) (f : RunLists → RunLists) : (s.updLists b f).rls = tupd s.rls b f := rfl
@[simp] theorem State.updLists_editStaging (s : State) (b : Fin 4) (f : RunLists → RunLists) : (s.updLists b f).editStaging = s.editStaging := rfl
@[simp] theorem State.updLists_bands (s : State) (b : Fin 4) (f : RunLists → RunLists) : (s.updLists b f).bands = s.bands := rfl
@[simp] theorem State.updLists_cmp (s : State) (b : Fin 4) (f : RunLists → RunLists) : (s.updLists b f).cmp = s.cmp := rfl
@[simp] theorem State.updLists_pins (s : State) (b : Fin 4) (f : RunLists → RunLists) : (s.updLists b f).pins = s.pins := rfl
@[simp] theorem State.updLists_au (s : State) (b : Fin 4) (f : RunLists → RunLists) : (s.updLists b f).au = s.au := rfl
@[simp] theorem State.updLists_eli (s : State) (b : Fin 4) (f : RunLists → RunLists) : (s.updLists b f).eli = s.eli := rfl
@[simp] theorem State.updLists_pbi (s : State) (b : Fin 4) (f : RunLists → RunLists) : (s.updLists b f).pbi = s.pbi := rfl
@[simp] theorem State.updLists_frames (s : State) (b : Fin 4) (f : RunLists → RunLists) : (s.updLists b f).frames = s.frames := rfl
@[simp] theorem State.updLists_freeIndex (s : State) (b : Fin 4) (f : RunLists → RunLists) : (s.updLists b f).freeIndex = s.freeIndex := rfl
@[simp] theorem State.updLists_pending (s : State) (b : Fin 4) (f : RunLists → RunLists) : (s.updLists b f).pending = s.pending := rfl

/-! ### State.setVis -/

@[simp] theorem State.setVis_run (s : State) (b : Fin 4) (v : Visibility) : (s.setVis b v).run = s.run := rfl
@[simp] theorem State.setVis_straps (s : State) (b : Fin 4) (v : Visibility) : (s.setVis b v).straps = s.straps := rfl
@[simp] theorem State.setVis_cleanPin (s : State) (b : Fin 4) (v : Visibility) : (s.setVis b v).cleanPin = s.cleanPin := rfl
@[simp] theorem State.setVis_tu (s : State) (b : Fin 4) (v : Visibility) : (s.setVis b v).tu = s.tu := rfl
@[simp] theorem State.setVis_quotes (s : State) (b : Fin 4) (v : Visibility) : (s.setVis b v).quotes = s.quotes := rfl
@[simp] theorem State.setVis_flashSetting (s : State) (b : Fin 4) (v : Visibility) : (s.setVis b v).flashSetting = s.flashSetting := rfl
@[simp] theorem State.setVis_fli (s : State) (b : Fin 4) (v : Visibility) : (s.setVis b v).fli = s.fli := rfl
@[simp] theorem State.setVis_uePointer (s : State) (b : Fin 4) (v : Visibility) : (s.setVis b v).uePointer = s.uePointer := rfl
@[simp] theorem State.setVis_ts (s : State) (b : Fin 4) (v : Visibility) : (s.setVis b v).ts = s.ts := rfl
@[simp] theorem State.setVis_gs (s : State) (b : Fin 4) (v : Visibility) : (s.setVis b v).gs = s.gs := rfl
@[simp] theorem State.setVis_rls (s : State) (b : Fin 4) (v : Visibility) : (s.setVis b v).rls = s.rls := rfl
@[simp] theorem State.setVis_editStaging (s : State) (b : Fin 4) (v : Visibility) : (s.setVis b v).editStaging = s.editStaging := rfl
@[simp] theorem State.setVis_bands (s : State) (b : Fin 4) (v : Visibility) : (s.setVis b v).bands = s.bands := rfl
@[simp] theorem State.setVis_cmp (s : State) (b : Fin 4) (v : Visibility) : (s.setVis b v).cmp = { s.cmp with vis := tset s.cmp.vis b v } := rfl
@[simp] theorem State.setVis_pins (s : State) (b : Fin 4) (v : Visibility) : (s.setVis b v).pins = s.pins := rfl
@[simp] theorem State.setVis_au (s : State) (b : Fin 4) (v : Visibility) : (s.setVis b v).au = s.au := rfl
@[simp] theorem State.setVis_eli (s : State) (b : Fin 4) (v : Visibility) : (s.setVis b v).eli = s.eli := rfl
@[simp] theorem State.setVis_pbi (s : State) (b : Fin 4) (v : Visibility) : (s.setVis b v).pbi = s.pbi := rfl
@[simp] theorem State.setVis_frames (s : State) (b : Fin 4) (v : Visibility) : (s.setVis b v).frames = s.frames := rfl
@[simp] theorem State.setVis_freeIndex (s : State) (b : Fin 4) (v : Visibility) : (s.setVis b v).freeIndex = s.freeIndex := rfl
@[simp] theorem State.setVis_pending (s : State) (b : Fin 4) (v : Visibility) : (s.setVis b v).pending = s.pending := rfl

/-! ### State.updMaster -/

@[simp] theorem State.updMaster_run (s : State) (m : Master) (f : MasterSet → MasterSet) : (s.updMaster m f).run = s.run := rfl
@[simp] theorem State.updMaster_straps (s : State) (m : Master) (f : MasterSet → MasterSet) : (s.updMaster m f).straps = s.straps := rfl
@[simp] theorem State.updMaster_cleanPin (s : State) (m : Master) (f : MasterSet → MasterSet) : (s.updMaster m f).cleanPin = s.cleanPin := rfl
@[simp] theorem State.updMaster_tu (s : State) (m : Master) (f : MasterSet → MasterSet) : (s.updMaster m f).tu = s.tu := rfl
@[simp] theorem State.updMaster_quotes (s : State) (m : Master) (f : MasterSet → MasterSet) : (s.updMaster m f).quotes = s.quotes := rfl
@[simp] theorem State.updMaster_flashSetting (s : State) (m : Master) (f : MasterSet → MasterSet) : (s.updMaster m f).flashSetting = s.flashSetting := rfl
@[simp] theorem State.updMaster_fli (s : State) (m : Master) (f : MasterSet → MasterSet) : (s.updMaster m f).fli = s.fli := rfl
@[simp] theorem State.updMaster_uePointer (s : State) (m : Master) (f : MasterSet → MasterSet) : (s.updMaster m f).uePointer = s.uePointer := rfl
@[simp] theorem State.updMaster_ts (s : State) (m : Master) (f : MasterSet → MasterSet) : (s.updMaster m f).ts = s.ts := rfl
@[simp] theorem State.updMaster_gs (s : State) (m : Master) (f : MasterSet → MasterSet) : (s.updMaster m f).gs = s.gs := rfl
@[simp] theorem State.updMaster_rls (s : State) (m : Master) (f : MasterSet → MasterSet) : (s.updMaster m f).rls = s.rls := rfl
@[simp] theorem State.updMaster_editStaging (s : State) (m : Master) (f : MasterSet → MasterSet) : (s.updMaster m f).editStaging = s.editStaging := rfl
@[simp] theorem State.updMaster_bands (s : State) (m : Master) (f : MasterSet → MasterSet) : (s.updMaster m f).bands = s.bands := rfl
@[simp] theorem State.updMaster_cmp (s : State) (m : Master) (f : MasterSet → MasterSet) : (s.updMaster m f).cmp = s.cmp := rfl
@[simp] theorem State.updMaster_pins (s : State) (m : Master) (f : MasterSet → MasterSet) : (s.updMaster m f).pins = s.pins := rfl
@[simp] theorem State.updMaster_au (s : State) (m : Master) (f : MasterSet → MasterSet) : (s.updMaster m f).au = s.au.upd m f := rfl
@[simp] theorem State.updMaster_eli (s : State) (m : Master) (f : MasterSet → MasterSet) : (s.updMaster m f).eli = s.eli := rfl
@[simp] theorem State.updMaster_pbi (s : State) (m : Master) (f : MasterSet → MasterSet) : (s.updMaster m f).pbi = s.pbi := rfl
@[simp] theorem State.updMaster_frames (s : State) (m : Master) (f : MasterSet → MasterSet) : (s.updMaster m f).frames = s.frames := rfl
@[simp] theorem State.updMaster_freeIndex (s : State) (m : Master) (f : MasterSet → MasterSet) : (s.updMaster m f).freeIndex = s.freeIndex := rfl
@[simp] theorem State.updMaster_pending (s : State) (m : Master) (f : MasterSet → MasterSet) : (s.updMaster m f).pending = s.pending := rfl

/-! ### State.raise -/

@[simp] theorem State.raise_run (s : State) (k : EventKind) (src : EventSource) : (s.raise k src).run = s.run := rfl
@[simp] theorem State.raise_straps (s : State) (k : EventKind) (src : EventSource) : (s.raise k src).straps = s.straps := rfl
@[simp] theorem State.raise_cleanPin (s : State) (k : EventKind) (src : EventSource) : (s.raise k src).cleanPin = s.cleanPin := rfl
@[simp] theorem State.raise_tu (s : State) (k : EventKind) (src : EventSource) : (s.raise k src).tu = s.tu := rfl
@[simp] theorem State.raise_quotes (s : State) (k : EventKind) (src : EventSource) : (s.raise k src).quotes = s.quotes := rfl
@[simp] theorem State.raise_flashSetting (s : State) (k : EventKind) (src : EventSource) : (s.raise k src).flashSetting = s.flashSetting := rfl
@[simp] theorem State.raise_fli (s : State) (k : EventKind) (src : EventSource) : (s.raise k src).fli = s.fli := rfl
@[simp] theorem State.raise_uePointer (s : State) (k : EventKind) (src : EventSource) : (s.raise k src).uePointer = s.uePointer := rfl
@[simp] theorem State.raise_ts (s : State) (k : EventKind) (src : EventSource) : (s.raise k src).ts = s.ts := rfl
@[simp] theorem State.raise_gs (s : State) (k : EventKind) (src : EventSource) : (s.raise k src).gs = s.gs := rfl
@[simp] theorem State.raise_rls (s : State) (k : EventKind) (src : EventSource) : (s.raise k src).rls = s.rls := rfl
@[simp] theorem State.raise_editStaging (s : State) (k : EventKind) (src : EventSource) : (s.raise k src).editStaging = s.editStaging := rfl
@[simp] theorem State.raise_bands (s : State) (k : EventKind) (src : EventSource) : (s.raise k src).bands = s.bands := rfl
@[simp] theorem State.raise_cmp (s : State) (k : EventKind) (src : EventSource) : (s.raise k src).cmp = s.cmp := rfl
@[simp] theorem State.raise_pins (s : State) (k : EventKind) (src : EventSource) : (s.raise k src).pins = s.pins := rfl
@[simp] theorem State.raise_au (s : State) (k : EventKind) (src : EventSource) : (s.raise k src).au = s.au.raise ⟨k, src⟩ := rfl
@[simp] theorem State.raise_eli (s : State) (k : EventKind) (src : EventSource) : (s.raise k src).eli = s.eli := rfl
@[simp] theorem State.raise_pbi (s : State) (k : EventKind) (src : EventSource) : (s.raise k src).pbi = s.pbi := rfl
@[simp] theorem State.raise_frames (s : State) (k : EventKind) (src : EventSource) : (s.raise k src).frames = s.frames := rfl
@[simp] theorem State.raise_freeIndex (s : State) (k : EventKind) (src : EventSource) : (s.raise k src).freeIndex = s.freeIndex := rfl
@[simp] theorem State.raise_pending (s : State) (k : EventKind) (src : EventSource) : (s.raise k src).pending = s.pending := rfl

/-! ### State.bumpFree -/

@[simp] theorem State.bumpFree_run (s : State) : s.bumpFree.run = s.run := rfl
@[simp] theorem State.bumpFree_straps (s : State) : s.bumpFree.straps = s.straps := rfl
@[simp] theorem State.bumpFree_cleanPin (s : State) : s.bumpFree.cleanPin = s.cleanPin := rfl
@[simp] theorem State.bumpFree_tu (s : State) : s.bumpFree.tu = s.tu := rfl
@[simp] theorem State.bumpFree_quotes (s : State) : s.bumpFree.quotes = s.quotes := rfl
@[simp] theorem State.bumpFree_flashSetting (s : State) : s.bumpFree.flashSetting = s.flashSetting := rfl
@[simp] theorem State.bumpFree_fli (s : State) : s.bumpFree.fli = s.fli := rfl
@[simp] theorem State.bumpFree_uePointer (s : State) : s.bumpFree.uePointer = s.uePointer := rfl
@[simp] theorem State.bumpFree_ts (s : State) : s.bumpFree.ts = s.ts := rfl
@[simp] theorem State.bumpFree_gs (s : State) : s.bumpFree.gs = s.gs := rfl
@[simp] theorem State.bumpFree_rls (s : State) : s.bumpFree.rls = s.rls := rfl
@[simp] theorem State.bumpFree_editStaging (s : State) : s.bumpFree.editStaging = s.editStaging := rfl
@[simp] theorem State.bumpFree_bands (s : State) : s.bumpFree.bands = s.bands := rfl
@[simp] theorem State.bumpFree_cmp (s : State) : s.bumpFree.cmp = s.cmp := rfl
@[simp] theorem State.bumpFree_pins (s : State) : s.bumpFree.pins = s.pins := rfl
@[simp] theorem State.bumpFree_au (s : State) : s.bumpFree.au = s.au := rfl
@[simp] theorem State.bumpFree_eli (s : State) : s.bumpFree.eli = s.eli := rfl
@[simp] theorem State.bumpFree_pbi (s : State) : s.bumpFree.pbi = s.pbi := rfl
@[simp] theorem State.bumpFree_frames (s : State) : s.bumpFree.frames = s.frames := rfl
@[simp] theorem State.bumpFree_freeIndex (s : State) : s.bumpFree.freeIndex = s.freeIndex + 1 := rfl
@[simp] theorem State.bumpFree_pending (s : State) : s.bumpFree.pending = s.pending := rfl

/-! ### State.updEli -/

@[simp] theorem State.updEli_run (s : State) (f : Eli → Eli) : (s.updEli f).run = s.run := rfl
@[simp] theorem State.updEli_straps (s : State) (f : Eli → Eli) : (s.updEli f).straps = s.straps := rfl
@[simp] theorem State.updEli_cleanPin (s : State) (f : Eli → Eli) : (s.updEli f).cleanPin = s.cleanPin := rfl
@[simp] theorem State.updEli_tu (s : State) (f : Eli → Eli) : (s.updEli f).tu = s.tu := rfl
@[simp] theorem State.updEli_quotes (s : State) (f : Eli → Eli) : (s.updEli f).quotes = s.quotes := rfl
@[simp] theorem State.updEli_flashSetting (s : State) (f : Eli → Eli) : (s.updEli f).flashSetting = s.flashSetting := rfl
@[simp] theorem State.updEli_fli (s : State) (f : Eli → Eli) : (s.updEli f).fli = s.fli := rfl
@[simp] theorem State.updEli_uePointer (s : State) (f : Eli → Eli) : (s.updEli f).uePointer = s.uePointer := rfl
@[simp] theorem State.updEli_ts (s : State) (f : Eli → Eli) : (s.updEli f).ts = s.ts := rfl
@[simp] theorem State.updEli_gs (s : State) (f : Eli → Eli) : (s.updEli f).gs = s.gs := rfl
@[simp] theorem State.updEli_rls (s : State) (f : Eli → Eli) : (s.updEli f).rls = s.rls := rfl
@[simp] theorem State.updEli_editStaging (s : State) (f : Eli → Eli) : (s.updEli f).editStaging = s.editStaging := rfl
@[simp] theorem State.updEli_bands (s : State) (f : Eli → Eli) : (s.updEli f).bands = s.bands := rfl
@[simp] theorem State.updEli_cmp (s : State) (f : Eli → Eli) : (s.updEli f).cmp = s.cmp := rfl
@[simp] theorem State.updEli_pins (s : State) (f : Eli → Eli) : (s.updEli f).pins = s.pins := rfl
@[simp] theorem State.updEli_au (s : State) (f : Eli → Eli) : (s.updEli f).au = s.au := rfl
@[simp] theorem State.updEli_eli (s : State) (f : Eli → Eli) : (s.updEli f).eli = f s.eli := rfl
@[simp] theorem State.updEli_pbi (s : State) (f : Eli → Eli) : (s.updEli f).pbi = s.pbi := rfl
@[simp] theorem State.updEli_frames (s : State) (f : Eli → Eli) : (s.updEli f).frames = s.frames := rfl
@[simp] theorem State.updEli_freeIndex (s : State) (f : Eli → Eli) : (s.updEli f).freeIndex = s.freeIndex := rfl
@[simp] theorem State.updEli_pending (s : State) (f : Eli → Eli) : (s.updEli f).pending = s.pending := rfl

/-! ### State.updPbi -/

@[simp] theorem State.updPbi_run (s : State) (f : Pbi → Pbi) : (s.updPbi f).run = s.run := rfl
@[simp] theorem State.updPbi_straps (s : State) (f : Pbi → Pbi) : (s.updPbi f).straps = s.straps := rfl
@[simp] theorem State.updPbi_cleanPin (s : State) (f : Pbi → Pbi) : (s.updPbi f).cleanPin = s.cleanPin := rfl
@[simp] theorem State.updPbi_tu (s : State) (f : Pbi → Pbi) : (s.updPbi f).tu = s.tu := rfl
@[simp] theorem State.updPbi_quotes (s : State) (f : Pbi → Pbi) : (s.updPbi f).quotes = s.quotes := rfl
@[simp] theorem State.updPbi_flashSetting (s : State) (f : Pbi → Pbi) : (s.updPbi f).flashSetting = s.flashSetting := rfl
@[simp] theorem State.updPbi_fli (s : State) (f : Pbi → Pbi) : (s.updPbi f).fli = s.fli := rfl
@[simp] theorem State.updPbi_uePointer (s : State) (f : Pbi → Pbi) : (s.updPbi f).uePointer = s.uePointer := rfl
@[simp] theorem State.updPbi_ts (s : State) (f : Pbi → Pbi) : (s.updPbi f).ts = s.ts := rfl
@[simp] theorem State.updPbi_gs (s : State) (f : Pbi → Pbi) : (s.updPbi f).gs = s.gs := rfl
@[simp] theorem State.updPbi_rls (s : State) (f : Pbi → Pbi) : (s.updPbi f).rls = s.rls := rfl
@[simp] theorem State.updPbi_editStaging (s : State) (f : Pbi → Pbi) : (s.updPbi f).editStaging = s.editStaging := rfl
@[simp] theorem State.updPbi_bands (s : State) (f : Pbi → Pbi) : (s.updPbi f).bands = s.bands := rfl
@[simp] theorem State.updPbi_cmp (s : State) (f : Pbi → Pbi) : (s.updPbi f).cmp = s.cmp := rfl
@[simp] theorem State.updPbi_pins (s : State) (f : Pbi → Pbi) : (s.updPbi f).pins = s.pins := rfl
@[simp] theorem State.updPbi_au (s : State) (f : Pbi → Pbi) : (s.updPbi f).au = s.au := rfl
@[simp] theorem State.updPbi_eli (s : State) (f : Pbi → Pbi) : (s.updPbi f).eli = s.eli := rfl
@[simp] theorem State.updPbi_pbi (s : State) (f : Pbi → Pbi) : (s.updPbi f).pbi = f s.pbi := rfl
@[simp] theorem State.updPbi_frames (s : State) (f : Pbi → Pbi) : (s.updPbi f).frames = s.frames := rfl
@[simp] theorem State.updPbi_freeIndex (s : State) (f : Pbi → Pbi) : (s.updPbi f).freeIndex = s.freeIndex := rfl
@[simp] theorem State.updPbi_pending (s : State) (f : Pbi → Pbi) : (s.updPbi f).pending = s.pending := rfl

/-! ### State.withPending -/

@[simp] theorem State.withPending_run (s : State) (l : List Instr) : (s.withPending l).run = s.run := rfl
@[simp] theorem State.withPending_straps (s : State) (l : List Instr) : (s.withPending l).straps = s.straps := rfl
@[simp] theorem State.withPending_cleanPin (s : State) (l : List Instr) : (s.withPending l).cleanPin = s.cleanPin := rfl
@[simp] theorem State.withPending_tu (s : State) (l : List Instr) : (s.withPending l).tu = s.tu := rfl
@[simp] theorem State.withPending_quotes (s : State) (l : List Instr) : (s.withPending l).quotes = s.quotes := rfl
@[simp] theorem State.withPending_flashSetting (s : State) (l : List Instr) : (s.withPending l).flashSetting = s.flashSetting := rfl
@[simp] theorem State.withPending_fli (s : State) (l : List Instr) : (s.withPending l).fli = s.fli := rfl
@[simp] theorem State.withPending_uePointer (s : State) (l : List Instr) : (s.withPending l).uePointer = s.uePointer := rfl
@[simp] theorem State.withPending_ts (s : State) (l : List Instr) : (s.withPending l).ts = s.ts := rfl
@[simp] theorem State.withPending_gs (s : State) (l : List Instr) : (s.withPending l).gs = s.gs := rfl
@[simp] theorem State.withPending_rls (s : State) (l : List Instr) : (s.withPending l).rls = s.rls := rfl
@[simp] theorem State.withPending_editStaging (s : State) (l : List Instr) : (s.withPending l).editStaging = s.editStaging := rfl
@[simp] theorem State.withPending_bands (s : State) (l : List Instr) : (s.withPending l).bands = s.bands := rfl
@[simp] theorem State.withPending_cmp (s : State) (l : List Instr) : (s.withPending l).cmp = s.cmp := rfl
@[simp] theorem State.withPending_pins (s : State) (l : List Instr) : (s.withPending l).pins = s.pins := rfl
@[simp] theorem State.withPending_au (s : State) (l : List Instr) : (s.withPending l).au = s.au := rfl
@[simp] theorem State.withPending_eli (s : State) (l : List Instr) : (s.withPending l).eli = s.eli := rfl
@[simp] theorem State.withPending_pbi (s : State) (l : List Instr) : (s.withPending l).pbi = s.pbi := rfl
@[simp] theorem State.withPending_frames (s : State) (l : List Instr) : (s.withPending l).frames = s.frames := rfl
@[simp] theorem State.withPending_freeIndex (s : State) (l : List Instr) : (s.withPending l).freeIndex = s.freeIndex := rfl
@[simp] theorem State.withPending_pending (s : State) (l : List Instr) : (s.withPending l).pending = l := rfl

end Sys2Proof.Machine
end

