-- ==== Sys2Proof/Laws/Tables.lean ====
section
/-! SUPPORT. Reading a table of fixed size after writing it, and the accessors of the state after the updates of their
tables. -/

namespace Sys2Proof

@[simp] theorem tget_tset_self {α : Type} {n : Nat} (v : Vector α n) (i : Fin n) (x : α) : tget (tset v i x) i = x := by
  simp [tget, tset]

theorem tget_tset {α : Type} {n : Nat} (v : Vector α n) (i j : Fin n) (x : α) :
    tget (tset v i x) j = if i = j then x else tget v j := by
  simp only [tget, tset, Vector.getElem_set, Fin.ext_iff]

@[simp] theorem tget_tupd_self {α : Type} {n : Nat} (v : Vector α n) (i : Fin n) (f : α → α) :
    tget (tupd v i f) i = f (tget v i) := by
  simp [tupd]

theorem tget_tupd {α : Type} {n : Nat} (v : Vector α n) (i j : Fin n) (f : α → α) :
    tget (tupd v i f) j = if i = j then f (tget v i) else tget v j := by
  simp only [tupd, tget_tset]

theorem tget_tupd_ne {α : Type} {n : Nat} {v : Vector α n} {i j : Fin n} (f : α → α) (h : i ≠ j) :
    tget (tupd v i f) j = tget v j := by
  simp [tget_tupd, h]

@[simp] theorem tget_tmap {α β : Type} {n : Nat} (f : α → β) (v : Vector α n) (i : Fin n) :
    tget (tmap f v) i = f (tget v i) := by
  simp [tget, tmap, Vector.getElem_mk]

@[simp] theorem tget_replicate {α : Type} {n : Nat} (x : α) (i : Fin n) : tget (Vector.replicate n x) i = x := by
  simp [tget]

@[simp] theorem tlist_length {α : Type} {n : Nat} (v : Vector α n) : (tlist v).length = n := by
  simp [tlist]

theorem tlist_getElem {α : Type} {n : Nat} (v : Vector α n) (i : Fin n) :
    (tlist v)[i.val]'(by simp) = tget v i := by
  simp [tlist, tget]

theorem mem_tlist {α : Type} {n : Nat} {v : Vector α n} {x : α} : x ∈ tlist v ↔ ∃ i, tget v i = x := by
  constructor
  · intro h
    obtain ⟨k, hk, e⟩ := List.mem_iff_getElem.mp h
    exact ⟨⟨k, by simpa using hk⟩, by simpa [tlist, tget] using e⟩
  · rintro ⟨i, rfl⟩
    simp [tlist, tget]

/-- Two tables with equal entries are equal. -/
theorem table_ext {α : Type} {n : Nat} {v w : Vector α n} (h : ∀ i, tget v i = tget w i) : v = w := by
  apply Vector.ext
  intro i hi
  exact h ⟨i, hi⟩

end Sys2Proof

namespace Sys2Proof.Machine

/-! ### Accessors after updates of their own table -/

theorem State.updQuote_quote (s : State) (i j : Fin 1024) (f : Quote → Quote) :
    (s.updQuote i f).quote j = if i = j then f (s.quote i) else s.quote j := tget_tupd ..

theorem State.updStory_story (s : State) (i j : Fin 256) (f : Story → Story) :
    (s.updStory i f).story j = if i = j then f (s.story i) else s.story j := tget_tupd ..

theorem State.setFace_face (s : State) (i j : Fin 4) (f : Face) :
    (s.setFace i f).face j = if i = j then f else s.face j := tget_tset ..

theorem State.updLane_lane (s : State) (n m : Fin 4) (f : Lane → Lane) :
    (s.updLane n f).lane m = if n = m then f (s.lane n) else s.lane m := tget_tupd ..

theorem State.updBand_band (s : State) (b c : Fin 4) (f : Band → Band) :
    (s.updBand b f).band c = if b = c then f (s.band b) else s.band c := tget_tupd ..

theorem State.updLists_lists (s : State) (b c : Fin 4) (f : RunLists → RunLists) :
    (s.updLists b f).lists c = if b = c then f (s.lists b) else s.lists c := tget_tupd ..

theorem State.setVis_vis (s : State) (b c : Fin 4) (v : Visibility) :
    (s.setVis b v).vis c = if b = c then v else s.vis c := tget_tset ..

@[simp] theorem Au.raise_get (a : Au) (e : Event) (m : Master) : (a.raise e).get m = (a.get m).record e := by
  cases m <;> rfl

theorem Au.upd_get (a : Au) (m m' : Master) (f : MasterSet → MasterSet) :
    (a.upd m f).get m' = if m = m' then f (a.get m) else a.get m' := by
  cases m <;> cases m' <;> rfl

theorem State.updMaster_get (s : State) (m m' : Master) (f : MasterSet → MasterSet) :
    (s.updMaster m f).au.get m' = if m = m' then f (s.au.get m) else s.au.get m' := by
  cases m <;> cases m' <;> rfl

theorem State.raise_get (s : State) (k : EventKind) (src : EventSource) (m : Master) :
    (s.raise k src).au.get m = (s.au.get m).record ⟨k, src⟩ := by
  cases m <;> rfl

/-! ### Accessors after updates of other tables -/

@[simp] theorem State.updQuote_story (s : State) (i : Fin 1024) (f : Quote → Quote) (j : Fin 256) :
    (s.updQuote i f).story j = s.story j := rfl
@[simp] theorem State.updQuote_face (s : State) (i : Fin 1024) (f : Quote → Quote) (j : Fin 4) :
    (s.updQuote i f).face j = s.face j := rfl
@[simp] theorem State.updQuote_lane (s : State) (i : Fin 1024) (f : Quote → Quote) (j : Fin 4) :
    (s.updQuote i f).lane j = s.lane j := rfl
@[simp] theorem State.updQuote_band (s : State) (i : Fin 1024) (f : Quote → Quote) (j : Fin 4) :
    (s.updQuote i f).band j = s.band j := rfl
@[simp] theorem State.updQuote_lists (s : State) (i : Fin 1024) (f : Quote → Quote) (j : Fin 4) :
    (s.updQuote i f).lists j = s.lists j := rfl
@[simp] theorem State.updQuote_vis (s : State) (i : Fin 1024) (f : Quote → Quote) (j : Fin 4) :
    (s.updQuote i f).vis j = s.vis j := rfl
@[simp] theorem State.updQuote_pin (s : State) (i : Fin 1024) (f : Quote → Quote) (j : Fin 4) :
    (s.updQuote i f).pin j = s.pin j := rfl
@[simp] theorem State.updStory_quote (s : State) (i : Fin 256) (f : Story → Story) (j : Fin 1024) :
    (s.updStory i f).quote j = s.quote j := rfl
@[simp] theorem State.updStory_face (s : State) (i : Fin 256) (f : Story → Story) (j : Fin 4) :
    (s.updStory i f).face j = s.face j := rfl
@[simp] theorem State.updStory_lane (s : State) (i : Fin 256) (f : Story → Story) (j : Fin 4) :
    (s.updStory i f).lane j = s.lane j := rfl
@[simp] theorem State.updStory_band (s : State) (i : Fin 256) (f : Story → Story) (j : Fin 4) :
    (s.updStory i f).band j = s.band j := rfl
@[simp] theorem State.updStory_lists (s : State) (i : Fin 256) (f : Story → Story) (j : Fin 4) :
    (s.updStory i f).lists j = s.lists j := rfl
@[simp] theorem State.updStory_vis (s : State) (i : Fin 256) (f : Story → Story) (j : Fin 4) :
    (s.updStory i f).vis j = s.vis j := rfl
@[simp] theorem State.updStory_pin (s : State) (i : Fin 256) (f : Story → Story) (j : Fin 4) :
    (s.updStory i f).pin j = s.pin j := rfl
@[simp] theorem State.setFace_quote (s : State) (i : Fin 4) (f : Face) (j : Fin 1024) :
    (s.setFace i f).quote j = s.quote j := rfl
@[simp] theorem State.setFace_story (s : State) (i : Fin 4) (f : Face) (j : Fin 256) :
    (s.setFace i f).story j = s.story j := rfl
@[simp] theorem State.setFace_lane (s : State) (i : Fin 4) (f : Face) (j : Fin 4) :
    (s.setFace i f).lane j = s.lane j := rfl
@[simp] theorem State.setFace_band (s : State) (i : Fin 4) (f : Face) (j : Fin 4) :
    (s.setFace i f).band j = s.band j := rfl
@[simp] theorem State.setFace_lists (s : State) (i : Fin 4) (f : Face) (j : Fin 4) :
    (s.setFace i f).lists j = s.lists j := rfl
@[simp] theorem State.setFace_vis (s : State) (i : Fin 4) (f : Face) (j : Fin 4) :
    (s.setFace i f).vis j = s.vis j := rfl
@[simp] theorem State.setFace_pin (s : State) (i : Fin 4) (f : Face) (j : Fin 4) :
    (s.setFace i f).pin j = s.pin j := rfl
@[simp] theorem State.updLane_quote (s : State) (n : Fin 4) (f : Lane → Lane) (j : Fin 1024) :
    (s.updLane n f).quote j = s.quote j := rfl
@[simp] theorem State.updLane_story (s : State) (n : Fin 4) (f : Lane → Lane) (j : Fin 256) :
    (s.updLane n f).story j = s.story j := rfl
@[simp] theorem State.updLane_face (s : State) (n : Fin 4) (f : Lane → Lane) (j : Fin 4) :
    (s.updLane n f).face j = s.face j := rfl
@[simp] theorem State.updLane_band (s : State) (n : Fin 4) (f : Lane → Lane) (j : Fin 4) :
    (s.updLane n f).band j = s.band j := rfl
@[simp] theorem State.updLane_lists (s : State) (n : Fin 4) (f : Lane → Lane) (j : Fin 4) :
    (s.updLane n f).lists j = s.lists j := rfl
@[simp] theorem State.updLane_vis (s : State) (n : Fin 4) (f : Lane → Lane) (j : Fin 4) :
    (s.updLane n f).vis j = s.vis j := rfl
@[simp] theorem State.updLane_pin (s : State) (n : Fin 4) (f : Lane → Lane) (j : Fin 4) :
    (s.updLane n f).pin j = s.pin j := rfl
@[simp] theorem State.updBand_quote (s : State) (b : Fin 4) (f : Band → Band) (j : Fin 1024) :
    (s.updBand b f).quote j = s.quote j := rfl
@[simp] theorem State.updBand_story (s : State) (b : Fin 4) (f : Band → Band) (j : Fin 256) :
    (s.updBand b f).story j = s.story j := rfl
@[simp] theorem State.updBand_face (s : State) (b : Fin 4) (f : Band → Band) (j : Fin 4) :
    (s.updBand b f).face j = s.face j := rfl
@[simp] theorem State.updBand_lane (s : State) (b : Fin 4) (f : Band → Band) (j : Fin 4) :
    (s.updBand b f).lane j = s.lane j := rfl
@[simp] theorem State.updBand_lists (s : State) (b : Fin 4) (f : Band → Band) (j : Fin 4) :
    (s.updBand b f).lists j = s.lists j := rfl
@[simp] theorem State.updBand_vis (s : State) (b : Fin 4) (f : Band → Band) (j : Fin 4) :
    (s.updBand b f).vis j = s.vis j := rfl
@[simp] theorem State.updBand_pin (s : State) (b : Fin 4) (f : Band → Band) (j : Fin 4) :
    (s.updBand b f).pin j = s.pin j := rfl
@[simp] theorem State.updLists_quote (s : State) (b : Fin 4) (f : RunLists → RunLists) (j : Fin 1024) :
    (s.updLists b f).quote j = s.quote j := rfl
@[simp] theorem State.updLists_story (s : State) (b : Fin 4) (f : RunLists → RunLists) (j : Fin 256) :
    (s.updLists b f).story j = s.story j := rfl
@[simp] theorem State.updLists_face (s : State) (b : Fin 4) (f : RunLists → RunLists) (j : Fin 4) :
    (s.updLists b f).face j = s.face j := rfl
@[simp] theorem State.updLists_lane (s : State) (b : Fin 4) (f : RunLists → RunLists) (j : Fin 4) :
    (s.updLists b f).lane j = s.lane j := rfl
@[simp] theorem State.updLists_band (s : State) (b : Fin 4) (f : RunLists → RunLists) (j : Fin 4) :
    (s.updLists b f).band j = s.band j := rfl
@[simp] theorem State.updLists_vis (s : State) (b : Fin 4) (f : RunLists → RunLists) (j : Fin 4) :
    (s.updLists b f).vis j = s.vis j := rfl
@[simp] theorem State.updLists_pin (s : State) (b : Fin 4) (f : RunLists → RunLists) (j : Fin 4) :
    (s.updLists b f).pin j = s.pin j := rfl
@[simp] theorem State.setVis_quote (s : State) (b : Fin 4) (v : Visibility) (j : Fin 1024) :
    (s.setVis b v).quote j = s.quote j := rfl
@[simp] theorem State.setVis_story (s : State) (b : Fin 4) (v : Visibility) (j : Fin 256) :
    (s.setVis b v).story j = s.story j := rfl
@[simp] theorem State.setVis_face (s : State) (b : Fin 4) (v : Visibility) (j : Fin 4) :
    (s.setVis b v).face j = s.face j := rfl
@[simp] theorem State.setVis_lane (s : State) (b : Fin 4) (v : Visibility) (j : Fin 4) :
    (s.setVis b v).lane j = s.lane j := rfl
@[simp] theorem State.setVis_band (s : State) (b : Fin 4) (v : Visibility) (j : Fin 4) :
    (s.setVis b v).band j = s.band j := rfl
@[simp] theorem State.setVis_lists (s : State) (b : Fin 4) (v : Visibility) (j : Fin 4) :
    (s.setVis b v).lists j = s.lists j := rfl
@[simp] theorem State.setVis_pin (s : State) (b : Fin 4) (v : Visibility) (j : Fin 4) :
    (s.setVis b v).pin j = s.pin j := rfl
@[simp] theorem State.updMaster_quote (s : State) (m : Master) (f : MasterSet → MasterSet) (j : Fin 1024) :
    (s.updMaster m f).quote j = s.quote j := rfl
@[simp] theorem State.updMaster_story (s : State) (m : Master) (f : MasterSet → MasterSet) (j : Fin 256) :
    (s.updMaster m f).story j = s.story j := rfl
@[simp] theorem State.updMaster_face (s : State) (m : Master) (f : MasterSet → MasterSet) (j : Fin 4) :
    (s.updMaster m f).face j = s.face j := rfl
@[simp] theorem State.updMaster_lane (s : State) (m : Master) (f : MasterSet → MasterSet) (j : Fin 4) :
    (s.updMaster m f).lane j = s.lane j := rfl
@[simp] theorem State.updMaster_band (s : State) (m : Master) (f : MasterSet → MasterSet) (j : Fin 4) :
    (s.updMaster m f).band j = s.band j := rfl
@[simp] theorem State.updMaster_lists (s : State) (m : Master) (f : MasterSet → MasterSet) (j : Fin 4) :
    (s.updMaster m f).lists j = s.lists j := rfl
@[simp] theorem State.updMaster_vis (s : State) (m : Master) (f : MasterSet → MasterSet) (j : Fin 4) :
    (s.updMaster m f).vis j = s.vis j := rfl
@[simp] theorem State.updMaster_pin (s : State) (m : Master) (f : MasterSet → MasterSet) (j : Fin 4) :
    (s.updMaster m f).pin j = s.pin j := rfl
@[simp] theorem State.raise_quote (s : State) (k : EventKind) (src : EventSource) (j : Fin 1024) :
    (s.raise k src).quote j = s.quote j := rfl
@[simp] theorem State.raise_story (s : State) (k : EventKind) (src : EventSource) (j : Fin 256) :
    (s.raise k src).story j = s.story j := rfl
@[simp] theorem State.raise_face (s : State) (k : EventKind) (src : EventSource) (j : Fin 4) :
    (s.raise k src).face j = s.face j := rfl
@[simp] theorem State.raise_lane (s : State) (k : EventKind) (src : EventSource) (j : Fin 4) :
    (s.raise k src).lane j = s.lane j := rfl
@[simp] theorem State.raise_band (s : State) (k : EventKind) (src : EventSource) (j : Fin 4) :
    (s.raise k src).band j = s.band j := rfl
@[simp] theorem State.raise_lists (s : State) (k : EventKind) (src : EventSource) (j : Fin 4) :
    (s.raise k src).lists j = s.lists j := rfl
@[simp] theorem State.raise_vis (s : State) (k : EventKind) (src : EventSource) (j : Fin 4) :
    (s.raise k src).vis j = s.vis j := rfl
@[simp] theorem State.raise_pin (s : State) (k : EventKind) (src : EventSource) (j : Fin 4) :
    (s.raise k src).pin j = s.pin j := rfl
@[simp] theorem State.bumpFree_quote (s : State) (j : Fin 1024) :
    s.bumpFree.quote j = s.quote j := rfl
@[simp] theorem State.bumpFree_story (s : State) (j : Fin 256) :
    s.bumpFree.story j = s.story j := rfl
@[simp] theorem State.bumpFree_face (s : State) (j : Fin 4) :
    s.bumpFree.face j = s.face j := rfl
@[simp] theorem State.bumpFree_lane (s : State) (j : Fin 4) :
    s.bumpFree.lane j = s.lane j := rfl
@[simp] theorem State.bumpFree_band (s : State) (j : Fin 4) :
    s.bumpFree.band j = s.band j := rfl
@[simp] theorem State.bumpFree_lists (s : State) (j : Fin 4) :
    s.bumpFree.lists j = s.lists j := rfl
@[simp] theorem State.bumpFree_vis (s : State) (j : Fin 4) :
    s.bumpFree.vis j = s.vis j := rfl
@[simp] theorem State.bumpFree_pin (s : State) (j : Fin 4) :
    s.bumpFree.pin j = s.pin j := rfl
@[simp] theorem State.updEli_quote (s : State) (f : Eli → Eli) (j : Fin 1024) :
    (s.updEli f).quote j = s.quote j := rfl
@[simp] theorem State.updEli_story (s : State) (f : Eli → Eli) (j : Fin 256) :
    (s.updEli f).story j = s.story j := rfl
@[simp] theorem State.updEli_face (s : State) (f : Eli → Eli) (j : Fin 4) :
    (s.updEli f).face j = s.face j := rfl
@[simp] theorem State.updEli_lane (s : State) (f : Eli → Eli) (j : Fin 4) :
    (s.updEli f).lane j = s.lane j := rfl
@[simp] theorem State.updEli_band (s : State) (f : Eli → Eli) (j : Fin 4) :
    (s.updEli f).band j = s.band j := rfl
@[simp] theorem State.updEli_lists (s : State) (f : Eli → Eli) (j : Fin 4) :
    (s.updEli f).lists j = s.lists j := rfl
@[simp] theorem State.updEli_vis (s : State) (f : Eli → Eli) (j : Fin 4) :
    (s.updEli f).vis j = s.vis j := rfl
@[simp] theorem State.updEli_pin (s : State) (f : Eli → Eli) (j : Fin 4) :
    (s.updEli f).pin j = s.pin j := rfl
@[simp] theorem State.updPbi_quote (s : State) (f : Pbi → Pbi) (j : Fin 1024) :
    (s.updPbi f).quote j = s.quote j := rfl
@[simp] theorem State.updPbi_story (s : State) (f : Pbi → Pbi) (j : Fin 256) :
    (s.updPbi f).story j = s.story j := rfl
@[simp] theorem State.updPbi_face (s : State) (f : Pbi → Pbi) (j : Fin 4) :
    (s.updPbi f).face j = s.face j := rfl
@[simp] theorem State.updPbi_lane (s : State) (f : Pbi → Pbi) (j : Fin 4) :
    (s.updPbi f).lane j = s.lane j := rfl
@[simp] theorem State.updPbi_band (s : State) (f : Pbi → Pbi) (j : Fin 4) :
    (s.updPbi f).band j = s.band j := rfl
@[simp] theorem State.updPbi_lists (s : State) (f : Pbi → Pbi) (j : Fin 4) :
    (s.updPbi f).lists j = s.lists j := rfl
@[simp] theorem State.updPbi_vis (s : State) (f : Pbi → Pbi) (j : Fin 4) :
    (s.updPbi f).vis j = s.vis j := rfl
@[simp] theorem State.updPbi_pin (s : State) (f : Pbi → Pbi) (j : Fin 4) :
    (s.updPbi f).pin j = s.pin j := rfl
@[simp] theorem State.withPending_quote (s : State) (l : List Instr) (j : Fin 1024) :
    (s.withPending l).quote j = s.quote j := rfl
@[simp] theorem State.withPending_story (s : State) (l : List Instr) (j : Fin 256) :
    (s.withPending l).story j = s.story j := rfl
@[simp] theorem State.withPending_face (s : State) (l : List Instr) (j : Fin 4) :
    (s.withPending l).face j = s.face j := rfl
@[simp] theorem State.withPending_lane (s : State) (l : List Instr) (j : Fin 4) :
    (s.withPending l).lane j = s.lane j := rfl
@[simp] theorem State.withPending_band (s : State) (l : List Instr) (j : Fin 4) :
    (s.withPending l).band j = s.band j := rfl
@[simp] theorem State.withPending_lists (s : State) (l : List Instr) (j : Fin 4) :
    (s.withPending l).lists j = s.lists j := rfl
@[simp] theorem State.withPending_vis (s : State) (l : List Instr) (j : Fin 4) :
    (s.withPending l).vis j = s.vis j := rfl
@[simp] theorem State.withPending_pin (s : State) (l : List Instr) (j : Fin 4) :
    (s.withPending l).pin j = s.pin j := rfl

end Sys2Proof.Machine
end

