-- ==== Sys2Proof/Laws/Candidates.lean ====
section
/-! SUPPORT. What one candidate of an admission step or of a page build does, in the terms of Safety.lean. A proof about
`admitLoop` or `buildLoop` cites these and unfolds neither `considerItem` nor `considerBreak`. -/

namespace Sys2Proof.Machine

theorem State.updBand_updBand (s : State) (b : Fin 4) (f g : Band → Band) :
    (s.updBand b f).updBand b g = s.updBand b (fun d => g (f d)) := by
  unfold State.updBand
  congr 1
  refine table_ext fun i => ?_
  by_cases h : b = i
  · subst h; simp
  · rw [tget_tupd_ne _ h, tget_tupd_ne _ h, tget_tupd_ne _ h]

theorem swapBanks_eq (b : Fin 4) (s : State) : swapBanks b s = s.swapped b := rfl

theorem swapIf_immediate (b : Fin 4) (s : State) :
    swapIf (fun m => decide (m = .immediate)) b s = if (s.lists b).commit = some .immediate then s.swapped b else s := by
  unfold swapIf
  rcases h : (s.lists b).commit with _ | m
  · rfl
  · cases m <;> rfl

theorem swapIf_any (b : Fin 4) (s : State) :
    swapIf (fun _ => true) b s = if (s.lists b).commit ≠ none then s.swapped b else s := by
  unfold swapIf
  rcases h : (s.lists b).commit with _ | m <;> rfl

/-- R119. -/
theorem advanceCursor_eq (b : Fin 4) (s : State) : advanceCursor b s = s.advanced b := by
  unfold advanceCursor State.advanced
  by_cases h : (s.band b).cursor + 1 < (s.lists b).onAir.length
  · rw [if_neg (by omega), if_pos h]
  · rw [if_pos (by omega), if_neg h]
    unfold swapIf
    show (if ((s.lists b).commit).any (fun m => decide (m = .loopEnd)) = true then _ else _) = _
    rcases e : (s.lists b).commit with _ | m
    · rfl
    · cases m <;> rfl

/-- R118. -/
theorem addInstance_eq (b : Fin 4) (i : Inst) (s : State) : addInstance b i s = s.shows b i := by
  unfold addInstance reportCreation State.shows
  cases i.kind <;> rfl

theorem itemInstance_eq (c : BandConfig) (i : Item) (x : Int) (slot : Nat) (v : Int) :
    itemInstance c i x slot v = i.shownAt c x slot v := by
  unfold itemInstance Item.shownAt Item.instColour ItemKind.toInst
  cases i.kind <;> rfl

/-- R116, R118, R121: an admission. -/
theorem admitInst_eq (b : Fin 4) (i : Inst) (s : State) :
    admitInst b i s = (s.updBand b (fun d => { d with deferral := false })).shows b i := addInstance_eq ..

/-- R117 to R119: what the candidate at the cursor does. -/
theorem considerItem_eq (c : BandConfig) (b : Fin 4) (i : Item) (s : State) :
    considerItem c b i s = (if s.admissible i.kind = true then
      (s.updBand b (fun d => { d with deferral := false })).shows b (i.shownAt c (s.placeX b) (s.slotOf c i.kind) 0)
      else s.raise .itemSkipped (.band b)).advanced b := by
  unfold considerItem
  rw [advanceCursor_eq, itemInstance_eq, admitInst_eq]

/-- R134: what the end of a break does. -/
theorem endBreaks_eq (b : Fin 4) (s : State) :
    endBreaks b s = if (s.band b).breaks ≠ [] then s else
      (if (s.band b).prog = .breaking then (s.updBand b (fun d =>
        { d with cursor := d.saved.getD d.cursor, saved := none, prog := .running })).raise .bandState (.band b)
      else s).raise .breakDone (.band b) := by
  unfold endBreaks changeProg
  rw [State.updBand_updBand, ite_not]
  rfl

/-- R132, R133: what the head of the break queue does. -/
theorem considerBreak_eq (c : BandConfig) (b : Fin 4) (e : BreakEntry) (rest : List BreakEntry) (s : State) :
    considerBreak c b e rest s = endBreaks b (if s.resolvesStory e.story = true then
      ((s.updBand b (fun d => { d with deferral := false })).shows b
        ⟨.story e.story, s.placeX b, s.slotOf c (.story e.story), c.gap, none, 0, true⟩).updBand b
          (fun d => { d with breaks := if e.repeats ≤ 1 then rest else { e with repeats := e.repeats - 1 } :: rest })
      else (s.updBand b (fun d => { d with breaks := rest })).raise .itemSkipped (.band b)) := by
  unfold considerBreak useRepeat
  rw [admitInst_eq]
  rfl

end Sys2Proof.Machine
end

