-- ==== Sys2Proof/Laws/Editorial.lean ====
section
/-! SUPPORT. What the editorial link does, said once: in IDLE, a block that passes its length check is handed to its owner's
command phase, on the state that holds the block; data bytes, frame kinds and phase errors. -/

namespace Sys2Proof.Machine

/-! ### Frames by ED SEL and the reset -/

theorem inFrame_held {s : State} (n : Nat) (f : State → State) (h : s.run = .held) : inFrame n f s = s := if_pos h

/-- From INIT DONE on, and with no frame in progress from before the release of RESET, a frame acts. -/
theorem inFrame_listens {s : State} (n : Nat) (f : State → State) (k : s.listens) : inFrame n f s = f s := by
  simp [inFrame, k.1, k.2]

/-- R169: a frame whose select went low before RESET was released drives 00h and changes nothing else, and its end ends it. -/
theorem inFrame_straddles {s : State} (n : Nat) (f : State → State) (h : s.run ≠ .held) (k : s.eli.straddles = true) :
    inFrame n f s = s.updEli (fun e => { e with straddles := false, dout := List.replicate (n + 1) 0 }) := by
  simp [inFrame, h, k]
  rfl

/-- R174: from INIT DONE on, a frame acts in the phase it belongs to. -/
theorem inPhase_of_phase {s : State} {p : EdPhase} (n : Nat) (f : State → State) (k : s.listens) (h : s.eli.phase = p) :
    inPhase p n f s = f (driveZeros n s) := by
  unfold inPhase
  rw [inFrame_listens n _ k]
  simp [k.1, h]

/-- R174, R175: in every other phase it is of the wrong kind. -/
theorem inPhase_of_other {s : State} {p : EdPhase} (n : Nat) (f : State → State) (k : s.listens) (h : s.eli.phase ≠ p) :
    inPhase p n f s = phaseError (driveZeros n s) := by
  unfold inPhase
  rw [inFrame_listens n _ k]
  simp [k.1, h]

/-! ### Commands -/

/-- A command whose data length passes checks 4 and 5 of R170 is judged by its owner. -/
theorem edCommand_of_lengthOk {s : State} {h : EdHeader} {c : EdCommand} (k : s.takesCommand)
    (l : lengthOk c h.dataLength = true) :
    edCommand h c s = settle c h.dataLength (commandPhase c h.dataLength (s.takes .idle h c)) := by
  unfold edCommand
  rw [inPhase_of_phase _ _ k.1 k.2]
  unfold runCommand
  simp only [l, if_true]
  rfl

/-- A command whose data length fails them is answered BAD PARAM. -/
theorem edCommand_of_badLength {s : State} {h : EdHeader} {c : EdCommand} (k : s.takesCommand)
    (l : lengthOk c h.dataLength = false) : edCommand h c s = s.answers h c .badParam noValues := by
  unfold edCommand
  rw [inPhase_of_phase _ _ k.1 k.2]
  unfold runCommand
  simp only [l, Bool.false_eq_true, if_false]
  rfl

/-- An owner's answer ends the exchange in STATUS READY, with the data length as residue. -/
theorem settle_answer (c : EdCommand) (n : Nat) (r : Result) (v : List Byte) (t : State) :
    settle c n (.answer r v, t) = finish ⟨r, n, v⟩ t := rfl

/-- A command that carries no data passes the length check exactly when its data length is 0. -/
theorem lengthOk_none {c : EdCommand} {n : Nat} (h : dataUse c = .none) (z : n = 0) : lengthOk c n = true := by
  unfold lengthOk
  rw [h, z]
  rfl

/-- Where a data byte goes changes neither the data counter nor the data length. -/
theorem storeByte_counts (c : EdCommand) (k : Nat) (b : Byte) (s : State) :
    (storeByte c k b s).eli.counter = s.eli.counter ∧ (storeByte c k b s).eli.dataLength = s.eli.dataLength ∧
      (storeByte c k b s).eli.phase = s.eli.phase ∧ (storeByte c k b s).eli.command = s.eli.command := by
  cases c <;> first
    | exact ⟨rfl, rfl, rfl, rfl⟩
    | (show (writeStoryByte k b s).eli.counter = _ ∧ (writeStoryByte k b s).eli.dataLength = _ ∧
        (writeStoryByte k b s).eli.phase = _ ∧ (writeStoryByte k b s).eli.command = _
       unfold writeStoryByte
       split <;> exact ⟨rfl, rfl, rfl, rfl⟩)

/-- The byte that makes the data whole hands the command to its owner's completion rule. -/
theorem receiveByte_last {s : State} {c : EdCommand} (b : Byte) (h1 : s.eli.phase = .dataOut)
    (h2 : s.eli.command = some c) (h3 : s.eli.dataLength ≤ s.eli.counter + 1) :
    receiveByte b s =
      completeData c ((storeByte c s.eli.counter b s).updEli (fun e => { e with counter := e.counter + 1 })) := by
  unfold receiveByte
  rw [h1, h2]
  obtain ⟨k1, k2, _⟩ := storeByte_counts c s.eli.counter b s
  exact if_pos (by
    show (storeByte c s.eli.counter b s).eli.dataLength ≤ (storeByte c s.eli.counter b s).eli.counter + 1
    rw [k1, k2]
    exact h3)

/-- A byte before the last is stored and counted. -/
theorem receiveByte_more {s : State} {c : EdCommand} (b : Byte) (h1 : s.eli.phase = .dataOut)
    (h2 : s.eli.command = some c) (h3 : s.eli.counter + 1 < s.eli.dataLength) :
    receiveByte b s = (storeByte c s.eli.counter b s).updEli (fun e => { e with counter := e.counter + 1 }) := by
  unfold receiveByte
  rw [h1, h2]
  obtain ⟨k1, k2, _⟩ := storeByte_counts c s.eli.counter b s
  exact if_neg (by
    show ¬ (storeByte c s.eli.counter b s).eli.dataLength ≤ (storeByte c s.eli.counter b s).eli.counter + 1
    rw [k1, k2]
    omega)

/-- In a data phase that awaits its last byte, a completing row whose command is in flight carries that byte. -/
theorem lastByte_of_awaitsLast {s : State} {c : EdCommand} {p : EdCommand → Bool} (b : Byte) (h : s.awaitsLast c)
    (hp : p c = true) : lastByte p b s =
      completeData c ((storeByte c s.eli.counter b (driveZeros 1 s)).updEli (fun e => { e with counter := e.counter + 1 })) := by
  obtain ⟨k1, k2, k3, k4⟩ := h
  have d : lastByteDue p s = true := by
    unfold lastByteDue
    rw [k3, Option.any_some, hp]
    simp only [k1.1, k2, k4, decide_true, Bool.and_self]
  unfold lastByte
  rw [if_pos d]
  unfold dataOut
  rw [inPhase_of_phase _ _ k1 k2]
  show receiveByte b (driveZeros 1 s) = _
  exact receiveByte_last b k2 k3 (by show s.eli.dataLength ≤ s.eli.counter + 1; omega)

theorem State.quoteAt_fin (s : State) (i : Fin 1024) : s.quoteAt i.val = some (s.quote i) := by
  unfold State.quoteAt
  rw [dif_pos i.isLt]

theorem State.updQuoteAt_fin (s : State) (i : Fin 1024) (f : Quote → Quote) : s.updQuoteAt i.val f = s.updQuote i f := by
  unfold State.updQuoteAt
  rw [dif_pos i.isLt]

theorem State.storyAt_fin (s : State) (i : Fin 256) : s.storyAt i.val = some (s.story i) := by
  unfold State.storyAt
  rw [dif_pos i.isLt]

theorem four_fin (b : Fin 4) : four b.val = some b := by
  unfold four
  rw [dif_pos b.isLt]

theorem laneOf_fin (n : Fin 4) : laneOf (n.val + 1) = some n := four_fin n

/-- Two updates that agree on the record they change agree. -/
theorem State.updQuote_congr {s : State} {i : Fin 1024} {f g : Quote → Quote} (h : f (s.quote i) = g (s.quote i)) :
    s.updQuote i f = s.updQuote i g := by
  unfold State.updQuote tupd
  rw [show f (tget s.quotes i) = g (tget s.quotes i) from h]

/-- An update that leaves its record as it is changes nothing. -/
theorem State.updQuote_same {s : State} {i : Fin 1024} {f : Quote → Quote} (h : f (s.quote i) = s.quote i) :
    s.updQuote i f = s := by
  have e : tupd s.quotes i f = s.quotes := by
    apply table_ext
    intro j
    rw [tget_tupd]
    split
    · next k => rw [← k]; exact h
    · rfl
  unfold State.updQuote
  rw [e]

/-! ### Frames and phase errors -/

@[simp] theorem frameKindOf_code (k : FrameKind) : frameKindOf k.code = some k := by cases k <;> decide

/-- The five codes of R183 name a frame kind, and no other byte does. -/
theorem frameKindOf_eq_none : ∀ {b : Byte}, frameKindOf b = none ↔ b ∉ [(0x01 : Byte), 0x02, 0x03, 0x04, 0x0F] := by
  decide +kernel

/-- No command is in flight in IDLE and after a LENGTH ERROR, and one is in every other case. -/
theorem Eli.inFlight_eq_false {e : Eli} : e.inFlight = false ↔
    e.phase = .idle ∨ (e.phase = .statusReady ∧ ∃ st, e.status = some st ∧ st.result = .lengthError) := by
  cases h : e.phase <;> cases k : e.status <;> simp [Eli.inFlight, h, k]

/-- Settling what was in flight leaves the link's own fields as they were. -/
@[simp] theorem abandon_eli (s : State) : (abandon s).eli = s.eli := by
  unfold abandon abandonEvents
  split <;> try rfl
  split <;> rfl

/-- Entering PHASE ERROR: the link's fields are those of R175. -/
theorem phaseError_eli {s : State} (h : s.eli.phase ≠ .phaseError) : (phaseError s).eli = s.eli.toPhaseError := by
  simp [phaseError, h, State.updEli]

theorem phaseError_same {s : State} (h : s.eli.phase = .phaseError) : phaseError s = s := if_pos h

/-- Bytes clocked in two runs are the bytes of one run (R172). -/
theorem sendBytes_add (n m : Nat) (s : State) : sendBytes (n + m) s =
    ((sendBytes n s).1 ++ (sendBytes m (sendBytes n s).2).1, (sendBytes m (sendBytes n s).2).2) := by
  induction n generalizing s with
  | zero => simp [sendBytes]
  | succ n ih => simp [Nat.succ_add, sendBytes, ih]

end Sys2Proof.Machine
end

