-- ==== Sys2Proof/Laws/Frames.lean ====
section
/-! SUPPORT. What no action of a band engine, and no frame start, changes. `State.Kept s t` says it once; every operation that a
band engine is built from keeps it, so a proof about a frame start cites one lemma a block. -/

namespace Sys2Proof.Machine

/-- `t` has everything of `s` that no block changes at a frame start. -/
structure State.Kept (s t : State) : Prop where
  run : t.run = s.run
  straps : t.straps = s.straps
  cleanPin : t.cleanPin = s.cleanPin
  tu : t.tu = s.tu
  flashSetting : t.flashSetting = s.flashSetting
  fault : t.fli.fault = s.fli.fault
  bad : t.fli.bad = s.fli.bad
  rx : t.fli.rx = s.fli.rx
  tx : t.fli.tx = s.fli.tx
  txOut : t.fli.txOut = s.fli.txOut
  lane : ∀ n, (t.lane n).queue = (s.lane n).queue ∧ (t.lane n).held = (s.lane n).held ∧ (t.lane n).limit = (s.lane n).limit
  uePointer : t.uePointer = s.uePointer
  gs : t.gs = s.gs
  text : t.ts.text = s.ts.text
  loadTarget : t.ts.loadTarget = s.ts.loadTarget
  banks : ∀ b, (t.lists b).bankA = (s.lists b).bankA ∧ (t.lists b).bankB = (s.lists b).bankB
  editStaging : t.editStaging = s.editStaging
  pins : t.pins = s.pins
  master : ∀ m, (t.au.get m).levels = (s.au.get m).levels ∧ (t.au.get m).threshold = (s.au.get m).threshold ∧
    (t.au.get m).latch = (s.au.get m).latch
  pbi : t.pbi = s.pbi
  frames : t.frames = s.frames
  pending : t.pending = s.pending
  quoteGen : ∀ i, (t.quote i).gen = (s.quote i).gen
  storyGen : ∀ i, (t.story i).gen = (s.story i).gen
  eli : s.eli.phase ≠ .executing → t.eli = s.eli

theorem State.Kept.refl (s : State) : s.Kept s := by
  constructor <;> first | rfl | exact fun _ => rfl | exact fun _ => ⟨rfl, rfl⟩ | exact fun _ => ⟨rfl, rfl, rfl⟩

theorem State.Kept.trans {s t u : State} (h : s.Kept t) (k : t.Kept u) : s.Kept u := by
  constructor
  case lane => exact fun n => ⟨(k.lane n).1.trans (h.lane n).1, (k.lane n).2.1.trans (h.lane n).2.1,
    (k.lane n).2.2.trans (h.lane n).2.2⟩
  case banks => exact fun b => ⟨(k.banks b).1.trans (h.banks b).1, (k.banks b).2.trans (h.banks b).2⟩
  case master => exact fun m => ⟨(k.master m).1.trans (h.master m).1, (k.master m).2.1.trans (h.master m).2.1,
    (k.master m).2.2.trans (h.master m).2.2⟩
  case quoteGen => exact fun i => (k.quoteGen i).trans (h.quoteGen i)
  case storyGen => exact fun i => (k.storyGen i).trans (h.storyGen i)
  case eli => exact fun e => (k.eli (by rw [h.eli e]; exact e)).trans (h.eli e)
  case run => exact k.run.trans h.run
  case straps => exact k.straps.trans h.straps
  case cleanPin => exact k.cleanPin.trans h.cleanPin
  case tu => exact k.tu.trans h.tu
  case flashSetting => exact k.flashSetting.trans h.flashSetting
  case fault => exact k.fault.trans h.fault
  case bad => exact k.bad.trans h.bad
  case rx => exact k.rx.trans h.rx
  case tx => exact k.tx.trans h.tx
  case txOut => exact k.txOut.trans h.txOut
  case uePointer => exact k.uePointer.trans h.uePointer
  case gs => exact k.gs.trans h.gs
  case text => exact k.text.trans h.text
  case loadTarget => exact k.loadTarget.trans h.loadTarget
  case editStaging => exact k.editStaging.trans h.editStaging
  case pins => exact k.pins.trans h.pins
  case pbi => exact k.pbi.trans h.pbi
  case frames => exact k.frames.trans h.frames
  case pending => exact k.pending.trans h.pending

/-- The two ways in which a chain of operations keeps it. -/
theorem State.Kept.ite {c : Prop} [Decidable c] {s t u : State} (h : c → s.Kept t) (k : ¬c → s.Kept u) :
    s.Kept (if c then t else u) := by
  split
  · exact h ‹_›
  · exact k ‹_›

/-! ### The named updates -/

theorem kept_updBand (s : State) (b : Fin 4) (f : Band → Band) : s.Kept (s.updBand b f) := by
  constructor <;> first | rfl | exact fun _ => rfl | exact fun _ => ⟨rfl, rfl⟩ | exact fun _ => ⟨rfl, rfl, rfl⟩

theorem kept_setVis (s : State) (b : Fin 4) (v : Visibility) : s.Kept (s.setVis b v) := by
  constructor <;> first | rfl | exact fun _ => rfl | exact fun _ => ⟨rfl, rfl⟩ | exact fun _ => ⟨rfl, rfl, rfl⟩

theorem kept_bumpFree (s : State) : s.Kept s.bumpFree := by
  constructor <;> first | rfl | exact fun _ => rfl | exact fun _ => ⟨rfl, rfl⟩ | exact fun _ => ⟨rfl, rfl, rfl⟩

theorem MasterSet.record_kept (m : MasterSet) (e : Event) :
    (m.record e).levels = m.levels ∧ (m.record e).threshold = m.threshold ∧ (m.record e).latch = m.latch := by
  unfold MasterSet.record
  split
  · exact ⟨rfl, rfl, rfl⟩
  · split <;> exact ⟨rfl, rfl, rfl⟩

theorem kept_raise (s : State) (k : EventKind) (src : EventSource) : s.Kept (s.raise k src) := by
  constructor
  case master =>
    intro m
    rw [State.raise_get]
    exact MasterSet.record_kept ..
  all_goals first | rfl | exact fun _ => rfl | exact fun _ => ⟨rfl, rfl⟩ | exact fun _ => ⟨rfl, rfl, rfl⟩

theorem kept_updQuote (s : State) (i : Fin 1024) (f : Quote → Quote) (h : ∀ q, (f q).gen = q.gen) :
    s.Kept (s.updQuote i f) := by
  constructor
  case quoteGen =>
    intro j
    rw [State.updQuote_quote]
    split
    · next e => rw [h, e]
    · rfl
  all_goals first | rfl | exact fun _ => rfl | exact fun _ => ⟨rfl, rfl⟩ | exact fun _ => ⟨rfl, rfl, rfl⟩

theorem kept_updQuoteAt (s : State) (i : Nat) (f : Quote → Quote) (h : ∀ q, (f q).gen = q.gen) :
    s.Kept (s.updQuoteAt i f) := by
  unfold State.updQuoteAt
  split
  · exact kept_updQuote s _ f h
  · exact State.Kept.refl s

theorem kept_updStory (s : State) (i : Fin 256) (f : Story → Story) (h : ∀ q, (f q).gen = q.gen) :
    s.Kept (s.updStory i f) := by
  constructor
  case storyGen =>
    intro j
    rw [State.updStory_story]
    split
    · next e => rw [h, e]
    · rfl
  all_goals first | rfl | exact fun _ => rfl | exact fun _ => ⟨rfl, rfl⟩ | exact fun _ => ⟨rfl, rfl, rfl⟩

theorem kept_updLists (s : State) (b : Fin 4) (f : RunLists → RunLists)
    (h : ∀ r, (f r).bankA = r.bankA ∧ (f r).bankB = r.bankB) : s.Kept (s.updLists b f) := by
  constructor
  case banks =>
    intro c
    rw [State.updLists_lists]
    split
    · next e => rw [e]; exact h _
    · exact ⟨rfl, rfl⟩
  all_goals first | rfl | exact fun _ => rfl | exact fun _ => ⟨rfl, rfl⟩ | exact fun _ => ⟨rfl, rfl, rfl⟩

/-! ### Swaps, counts and program states -/

theorem kept_swapBanks (b : Fin 4) (s : State) : s.Kept (swapBanks b s) :=
  State.Kept.trans (State.Kept.trans (kept_updLists s b (fun r => { r with onAirB := !r.onAirB, commit := none })
    (fun _ => ⟨rfl, rfl⟩)) (kept_updBand ..)) (kept_raise ..)

theorem kept_swapIf (p : CommitMode → Bool) (b : Fin 4) (s : State) : s.Kept (swapIf p b s) :=
  State.Kept.ite (fun _ => kept_swapBanks b s) (fun _ => State.Kept.refl s)

theorem Quote.dropInstance_gen (q : Quote) : q.dropInstance.gen = q.gen := by
  unfold Quote.dropInstance Quote.freeIfGone
  split <;> rfl

theorem Quote.freeIfGone_gen (q : Quote) : q.freeIfGone.gen = q.gen := by
  unfold Quote.freeIfGone
  split <;> rfl

theorem kept_freeStoryIfGone (i : Fin 256) (s : State) : s.Kept (freeStoryIfGone i s) := by
  unfold freeStoryIfGone
  refine State.Kept.ite (fun _ => (kept_updStory s i (fun st => Story.free st.gen) (fun _ => rfl)).trans ?_)
    (fun _ => State.Kept.refl s)
  constructor <;> first | rfl | exact fun _ => rfl | exact fun _ => ⟨rfl, rfl⟩ | exact fun _ => ⟨rfl, rfl, rfl⟩

theorem kept_dropStory (i : Nat) (s : State) : s.Kept (dropStory i s) := by
  unfold dropStory
  split
  · exact State.Kept.trans (kept_updStory s _ (fun st => { st with count := st.count - 1 }) (fun _ => rfl))
      (kept_freeStoryIfGone ..)
  · exact State.Kept.refl s

theorem kept_reportRemoval (i : Inst) (s : State) : s.Kept (reportRemoval i s) := by
  unfold reportRemoval
  split
  · exact kept_updQuoteAt s _ _ Quote.dropInstance_gen
  · exact kept_dropStory ..
  · exact State.Kept.refl s
  · exact State.Kept.refl s

theorem kept_reportRemovals (l : List Inst) : ∀ s : State, s.Kept (reportRemovals l s) := by
  induction l with
  | nil => exact State.Kept.refl
  | cons i t ih => exact fun s => (kept_reportRemoval i s).trans (ih _)

theorem kept_reportCreation (i : Inst) (s : State) : s.Kept (reportCreation i s) := by
  unfold reportCreation
  split
  · exact kept_updQuoteAt s _ _ (fun _ => rfl)
  · split
    · exact kept_updStory s _ _ (fun _ => rfl)
    · exact State.Kept.refl s
  · exact State.Kept.refl s
  · exact State.Kept.refl s

theorem kept_addInstance (b : Fin 4) (i : Inst) (s : State) : s.Kept (addInstance b i s) :=
  (kept_updBand s b _).trans (kept_reportCreation ..)

theorem kept_removeFront (b : Fin 4) (n : Nat) (s : State) : s.Kept (removeFront b n s) :=
  (kept_updBand s b _).trans (kept_reportRemovals ..)

theorem kept_changeProg (b : Fin 4) (p : Prog) (s : State) : s.Kept (changeProg b p s) :=
  (kept_updBand s b _).trans (kept_raise ..)

theorem kept_enterReady (b : Fin 4) (s : State) : s.Kept (enterReady b s) :=
  (((kept_updBand s b _).trans (kept_setVis ..)).trans (kept_changeProg ..)).trans (kept_swapIf ..)

theorem kept_takeCommit (b : Fin 4) (m : CommitMode) (s : State) : s.Kept (takeCommit b m s) :=
  State.Kept.ite (fun _ => kept_updLists s b _ (fun _ => ⟨rfl, rfl⟩)) (fun _ => kept_swapBanks b s)

theorem kept_advanceCursor (b : Fin 4) (s : State) : s.Kept (advanceCursor b s) :=
  State.Kept.ite (fun _ => ((kept_updBand s b _).trans (kept_raise ..)).trans (kept_swapIf ..))
    (fun _ => kept_updBand s b _)

/-! ### A CRAWL band -/

theorem kept_admitInst (b : Fin 4) (i : Inst) (s : State) : s.Kept (admitInst b i s) :=
  (kept_updBand s b _).trans (kept_addInstance ..)

theorem kept_deferAdmission (b : Fin 4) (s : State) : s.Kept (deferAdmission b s) :=
  State.Kept.ite (fun _ => State.Kept.refl s) (fun _ => (kept_updBand s b _).trans (kept_raise ..))

theorem kept_endBreaks (b : Fin 4) (s : State) : s.Kept (endBreaks b s) :=
  State.Kept.ite
    (fun _ => (State.Kept.ite (fun _ => (kept_updBand s b _).trans (kept_changeProg ..))
      (fun _ => State.Kept.refl s)).trans (kept_raise ..))
    (fun _ => State.Kept.refl s)

theorem kept_considerBreak (c : BandConfig) (b : Fin 4) (e : BreakEntry) (rest : List BreakEntry) (s : State) :
    s.Kept (considerBreak c b e rest s) :=
  State.Kept.trans
    (State.Kept.ite (fun _ => (kept_admitInst ..).trans (kept_updBand ..)) (fun _ => (kept_updBand ..).trans (kept_raise ..)))
    (kept_endBreaks ..)

theorem kept_considerItem (c : BandConfig) (b : Fin 4) (i : Item) (s : State) : s.Kept (considerItem c b i s) :=
  State.Kept.trans (State.Kept.ite (fun _ => kept_admitInst ..) (fun _ => kept_raise ..)) (kept_advanceCursor ..)

theorem kept_admitLoop (c : BandConfig) (b : Fin 4) (fuel : Nat) : ∀ (skips : Nat) (s : State),
    s.Kept (admitLoop c b fuel skips s) := by
  induction fuel with
  | zero => exact fun _ s => State.Kept.refl s
  | succ fuel ih =>
    intro skips s
    unfold admitLoop
    refine State.Kept.ite (fun _ => State.Kept.refl s) (fun _ => ?_)
    refine State.Kept.ite (fun _ => kept_deferAdmission b s) (fun _ => ?_)
    split
    · exact (kept_considerBreak ..).trans (ih ..)
    · refine State.Kept.ite (fun _ => ?_) (fun _ => ?_)
      · exact State.Kept.ite (fun _ => (kept_swapBanks b s).trans (ih ..)) (fun _ => kept_raise ..)
      · refine State.Kept.ite (fun _ => kept_raise ..) (fun _ => ?_)
        split
        · exact State.Kept.refl s
        · exact (kept_considerItem ..).trans (ih ..)

theorem kept_admissionStep (c : BandConfig) (b : Fin 4) (s : State) : s.Kept (admissionStep c b s) :=
  State.Kept.ite (fun _ => (kept_swapIf ..).trans (kept_admitLoop ..)) (fun _ => kept_swapIf ..)

theorem kept_drainEndStep (b : Fin 4) (s : State) : s.Kept (drainEndStep b s) :=
  State.Kept.ite (fun _ => (kept_updBand ..).trans (kept_enterReady ..)) (fun _ => State.Kept.refl s)

theorem kept_clearingEndStep (b : Fin 4) (s : State) : s.Kept (clearingEndStep b s) :=
  State.Kept.ite (fun _ => kept_changeProg ..) (fun _ => State.Kept.refl s)

theorem kept_moveStep (b : Fin 4) (s : State) : s.Kept (moveStep b s) := (kept_updBand ..).trans (kept_removeFront ..)

theorem kept_crawlSteps (c : BandConfig) (b : Fin 4) (s : State) : s.Kept (crawlSteps c b s) :=
  ((((kept_updBand s b _).trans (kept_moveStep ..)).trans (kept_admissionStep ..)).trans (kept_drainEndStep ..)).trans
    (kept_clearingEndStep ..)

/-! ### A FLIP band -/

theorem kept_buildLoop (c : BandConfig) (b : Fin 4) (voffset : Int) (fuel : Nat) :
    ∀ (taken used lastGap skips : Nat) (s : State), s.Kept (buildLoop c b voffset fuel taken used lastGap skips s).2 := by
  induction fuel with
  | zero => exact fun _ _ _ _ s => State.Kept.refl s
  | succ fuel ih =>
    intro taken used lastGap skips s
    unfold buildLoop
    split
    · exact State.Kept.refl s
    · split
      · exact State.Kept.refl s
      · split
        · split
          · exact State.Kept.refl s
          · dsimp only
            split
            · exact (kept_addInstance ..).trans (kept_advanceCursor ..)
            · exact ((kept_addInstance ..).trans (kept_advanceCursor ..)).trans (ih ..)
        · dsimp only
          split
          · exact (kept_raise ..).trans (kept_advanceCursor ..)
          · exact ((kept_raise ..).trans (kept_advanceCursor ..)).trans (ih ..)

theorem kept_pageBuild (c : BandConfig) (b : Fin 4) (voffset : Int) (s : State) : s.Kept (pageBuild c b voffset s).2 := by
  unfold pageBuild
  extract_lets s1 s2 r
  have h1 : s.Kept s1 := kept_swapIf ..
  have h2 : s.Kept s2 := State.Kept.ite (fun _ => h1.trans (kept_swapIf ..)) (fun _ => h1)
  have h3 : s.Kept r.2 := h2.trans (kept_buildLoop ..)
  split
  · exact h3.trans (kept_raise ..)
  · exact h3

theorem kept_settlePage (c : BandConfig) (b : Fin 4) (n : Nat) (s : State) : s.Kept (settlePage c b n s) := kept_updBand ..

theorem kept_enterLeaving (c : BandConfig) (b : Fin 4) (s : State) : s.Kept (enterLeaving c b s) :=
  (kept_updBand ..).trans (kept_updBand ..)

theorem kept_expirePage (c : BandConfig) (b : Fin 4) (s : State) : s.Kept (expirePage c b s) := by
  unfold expirePage
  dsimp only
  split
  · split
    · exact (kept_removeFront ..).trans (kept_updBand ..)
    · exact kept_enterLeaving ..
  · split
    · exact ((kept_pageBuild ..).trans (kept_removeFront ..)).trans (kept_settlePage ..)
    · split
      · exact (kept_pageBuild ..).trans (kept_enterLeaving ..)
      · exact ((kept_pageBuild ..).trans (kept_updBand ..)).trans (kept_updBand ..)

theorem kept_endRoll (c : BandConfig) (b : Fin 4) (s : State) : s.Kept (endRoll c b s) :=
  (((kept_removeFront ..).trans (kept_updBand ..)).trans (kept_updBand ..)).trans (kept_bumpFree ..)

theorem kept_endLeaving (c : BandConfig) (b : Fin 4) (s : State) : s.Kept (endLeaving c b s) := by
  unfold endLeaving
  dsimp only
  have h : ∀ f, s.Kept (updPage b f (removeFront b (s.band b).page.outgoing s)).bumpFree :=
    fun f => ((kept_removeFront ..).trans (kept_updBand ..)).trans (kept_bumpFree ..)
  split
  · exact ((h _).trans (kept_pageBuild ..)).trans (kept_settlePage ..)
  · exact h _

theorem kept_pageStep (c : BandConfig) (b : Fin 4) (s : State) : s.Kept (pageStep c b s) := by
  unfold pageStep
  split
  · split
    · exact (kept_pageBuild ..).trans (kept_settlePage ..)
    · exact State.Kept.refl s
  · exact State.Kept.ite (fun _ => State.Kept.refl s)
      (fun _ => State.Kept.ite (fun _ => kept_expirePage ..) (fun _ => kept_updBand ..))
  · exact State.Kept.ite (fun _ => State.Kept.refl s)
      (fun _ => State.Kept.ite (fun _ => kept_updBand ..) (fun _ => kept_endRoll ..))
  · exact State.Kept.ite (fun _ => State.Kept.refl s)
      (fun _ => State.Kept.ite (fun _ => kept_updBand ..) (fun _ => kept_endLeaving ..))

theorem kept_flipSteps (c : BandConfig) (b : Fin 4) (s : State) : s.Kept (flipSteps c b s) :=
  (kept_pageStep ..).trans (kept_drainEndStep ..)

/-! ### Requests -/

theorem kept_judgeRequest (sampled : Bool) (b : Fin 4) (r : BandRequest) (s : State) :
    s.Kept (judgeRequest sampled b r s).2 := by
  have hc : ∀ c, s.Kept (takeConfigure b c s).2 := by
    intro c
    unfold takeConfigure
    split
    · exact State.Kept.refl s
    · split
      · exact State.Kept.refl s
      · split
        · exact State.Kept.refl s
        · exact State.Kept.ite (fun _ => (kept_updBand ..).trans (kept_enterReady ..)) (fun _ => kept_updBand ..)
  cases r with
  | configure c => exact hc c
  | release =>
    show s.Kept (takeRelease b s).2
    unfold takeRelease
    split
    · exact (kept_updBand ..).trans (kept_changeProg ..)
    · exact State.Kept.refl s
  | takeOn fromTop =>
    show s.Kept (takeTakeOn sampled b fromTop s).2
    unfold takeTakeOn
    extract_lets top
    split
    · split
      · exact State.Kept.refl s
      · exact ((kept_updBand ..).trans (kept_setVis ..)).trans (kept_changeProg ..)
    · exact (kept_updBand ..).trans (kept_changeProg ..)
    all_goals exact State.Kept.refl s
  | takeOffDrain =>
    show s.Kept (takeTakeOffDrain b s).2
    unfold takeTakeOffDrain
    split
    all_goals first | exact State.Kept.refl s | exact (kept_updBand ..).trans (kept_changeProg ..)
  | takeOffCut =>
    show s.Kept (takeTakeOffCut b s).2
    unfold takeTakeOffCut
    split
    · exact ((kept_removeFront ..).trans (kept_updBand ..)).trans (kept_enterReady ..)
    · exact State.Kept.refl s
  | halt =>
    show s.Kept (takeHalted b true s).2
    unfold takeHalted
    split
    · exact State.Kept.refl s
    · exact kept_updBand ..
  | resume =>
    show s.Kept (takeHalted b false s).2
    unfold takeHalted
    split
    · exact State.Kept.refl s
    · exact kept_updBand ..
  | setSpeed v =>
    show s.Kept (takeTarget b _ s).2
    unfold takeTarget
    split
    · exact State.Kept.refl s
    · exact kept_updBand ..
  | nudge up =>
    show s.Kept (takeTarget b _ s).2
    unfold takeTarget
    split
    · exact State.Kept.refl s
    · exact kept_updBand ..
  | commit m => exact kept_takeCommit ..
  | brk story repeats urgency =>
    show s.Kept (takeBreak b _ s).2
    unfold takeBreak
    split
    · exact State.Kept.refl s
    · split
      · exact State.Kept.refl s
      · split
        · exact State.Kept.refl s
        · exact State.Kept.ite (fun _ => ((kept_updBand ..).trans (kept_updBand ..)).trans (kept_changeProg ..))
            (fun _ => kept_updBand ..)
  | breakClear =>
    show s.Kept (takeBreakClear b s).2
    unfold takeBreakClear
    split
    · exact State.Kept.refl s
    · split
      all_goals first
        | exact State.Kept.refl s
        | exact (kept_updBand ..).trans (kept_changeProg ..)
        | exact kept_updBand ..

theorem kept_deliver (o : Origin) (b : Fin 4) (r : Result) (v : List Byte) (s : State) : s.Kept (deliver o b r v s) := by
  unfold deliver
  split
  · exact State.Kept.ite (fun _ => State.Kept.refl s) (fun _ => kept_raise ..)
  · split
    · next h =>
      constructor
      case eli => exact fun e => absurd h.1 e
      all_goals first | rfl | exact fun _ => rfl | exact fun _ => ⟨rfl, rfl⟩ | exact fun _ => ⟨rfl, rfl, rfl⟩
    · exact State.Kept.refl s

theorem kept_takeRequest (sampled : Bool) (o : Origin) (b : Fin 4) (r : BandRequest) (s : State) :
    s.Kept (takeRequest sampled o b r s) := (kept_judgeRequest ..).trans (kept_deliver ..)

theorem kept_takeRequests (sampled : Bool) (b : Fin 4) (l : List QueuedRequest) :
    ∀ s : State, s.Kept (takeRequests sampled b l s) := by
  induction l with
  | nil => exact State.Kept.refl
  | cons q t ih => exact fun s => (kept_takeRequest ..).trans (ih _)

theorem kept_bandFrameStart (sampled : Bool) (b : Fin 4) (s : State) : s.Kept (bandFrameStart sampled b s) := by
  have h : s.Kept (takeQueue sampled b s) := (kept_updBand ..).trans (kept_takeRequests ..)
  unfold bandFrameStart
  dsimp only
  split
  · split
    · exact h
    · split
      · exact h.trans (kept_crawlSteps ..)
      · exact h.trans (kept_flipSteps ..)
  · exact h

/-! ### The other blocks -/

theorem countdown_gen (q : Quote) : (countdown q).gen = q.gen := by
  unfold countdown
  split <;> rfl

theorem latchQuote_gen (setting : Nat) (quiet : Bool) (q : Quote) : (latchQuote setting quiet q).gen = q.gen := by
  unfold latchQuote
  split
  · by_cases h : q.copies = true
    · simp only [h, if_true, copyQuote]
    · simp only [h, if_false, Bool.false_eq_true]
  · rfl

theorem frameStartQuote_gen (s : State) (q : Quote) : (frameStartQuote s q).gen = q.gen :=
  (latchQuote_gen ..).trans (countdown_gen q)

theorem kept_quoteFrameStart (s : State) : s.Kept (quoteFrameStart s) := by
  constructor
  case quoteGen =>
    intro i
    show (tget (tmap (frameStartQuote s) s.quotes) i).gen = (tget s.quotes i).gen
    rw [tget_tmap]
    exact frameStartQuote_gen ..
  all_goals first | rfl | exact fun _ => rfl | exact fun _ => ⟨rfl, rfl⟩ | exact fun _ => ⟨rfl, rfl, rfl⟩

theorem kept_updLane (s : State) (n : Fin 4) (f : Lane → Lane)
    (h : ∀ l, (f l).queue = l.queue ∧ (f l).held = l.held ∧ (f l).limit = l.limit) : s.Kept (s.updLane n f) := by
  constructor
  case lane =>
    intro m
    rw [State.updLane_lane]
    split
    · next e => rw [e]; exact h _
    · exact ⟨rfl, rfl, rfl⟩
  all_goals first | rfl | exact fun _ => rfl | exact fun _ => ⟨rfl, rfl⟩ | exact fun _ => ⟨rfl, rfl, rfl⟩

theorem kept_countSilence (n : Fin 4) (s : State) : s.Kept (countSilence n s) := by
  unfold countSilence
  dsimp only
  split
  · split
    · exact (kept_updLane s n (fun l => { l with counter := l.counter + 1, active := false })
        (fun _ => ⟨rfl, rfl, rfl⟩)).trans (kept_raise ..)
    · exact kept_updLane s n (fun l => { l with counter := l.counter + 1 }) (fun _ => ⟨rfl, rfl, rfl⟩)
  · exact State.Kept.refl s

theorem kept_feedFrameStart (s : State) : s.Kept (feedFrameStart s) :=
  (((kept_countSilence ..).trans (kept_countSilence ..)).trans (kept_countSilence ..)).trans (kept_countSilence ..)

theorem kept_cmp (s : State) (c : Compositor) : s.Kept { s with cmp := c } := by
  constructor <;> first | rfl | exact fun _ => rfl | exact fun _ => ⟨rfl, rfl⟩ | exact fun _ => ⟨rfl, rfl, rfl⟩

theorem kept_moveBand (clean : Bool) (b : Fin 4) (s : State) : s.Kept (moveBand clean b s) := by
  unfold moveBand
  split
  · exact State.Kept.refl s
  · exact State.Kept.ite (fun _ => kept_setVis ..) (fun _ => State.Kept.refl s)

theorem kept_judgeAck (clean : Bool) (s : State) : s.Kept (judgeAck clean s) :=
  State.Kept.ite (fun _ => kept_cmp ..) (fun _ => State.Kept.ite (fun _ => kept_cmp ..) (fun _ => State.Kept.refl s))

theorem kept_compositorFrameStart (s : State) : s.Kept (compositorFrameStart s) :=
  (((((kept_cmp s _).trans (kept_moveBand ..)).trans (kept_moveBand ..)).trans (kept_moveBand ..)).trans
    (kept_moveBand ..)).trans (kept_judgeAck ..)

/-- The permutation that a number names. -/
theorem arrange_perm {α : Type} : ∀ (l : List α) (n : Nat), (arrange n l).Perm l := by
  intro l
  induction l with
  | nil => intro n; cases n <;> exact List.Perm.refl _
  | cons x t ih =>
    intro n
    have e : arrange n (x :: t) = (arrange (n / (t.length + 1)) t).take (n % (t.length + 1)) ++
        x :: (arrange (n / (t.length + 1)) t).drop (n % (t.length + 1)) := by
      cases n <;> rfl
    rw [e]
    refine List.perm_middle.trans (List.Perm.cons x ?_)
    rw [List.take_append_drop]
    exact ih _

/-- The blocks take a frame start in some order, each once. -/
theorem blockOrder_perm (freeIndex : Nat) : (blockOrder freeIndex).Perm allBlocks := arrange_perm ..

end Sys2Proof.Machine
end

