-- ==== Sys2Proof/Laws/Memory.lean ====
section
/-! SUPPORT. The memory: a write is read back, leaves every other address as it was, and keeps the canonical form; equal
canonical memories are those that read the same everywhere. -/

namespace Sys2Proof.Machine

theorem Memory.wfFrom_mono {m : Memory} {lo lo' : Nat} (h : lo' ≤ lo) (w : Memory.wfFrom lo m = true) :
    Memory.wfFrom lo' m = true := by
  cases m with
  | nil => rfl
  | cons c t =>
    obtain ⟨k, v⟩ := c
    simp only [Memory.wfFrom, Bool.and_eq_true, decide_eq_true_eq] at w ⊢
    exact ⟨⟨by omega, w.1.2⟩, w.2⟩

/-- Below its lower bound a canonical memory reads 0. -/
theorem Memory.read_below {m : Memory} : ∀ {lo : Nat}, Memory.wfFrom lo m = true → ∀ {a : Nat}, a < lo →
    Memory.read m a = 0 := by
  cases m with
  | nil => intros; rfl
  | cons c t =>
    obtain ⟨k, v⟩ := c
    intro lo w a h
    simp only [Memory.wfFrom, Bool.and_eq_true, decide_eq_true_eq] at w
    simp only [Memory.read]
    rw [if_neg (by omega), if_pos (by omega)]

theorem Memory.wfFrom_cons {lo k : Nat} {v : Byte} {t : Memory} :
    Memory.wfFrom lo ((k, v) :: t) = true ↔ lo ≤ k ∧ v ≠ 0 ∧ Memory.wfFrom (k + 1) t = true := by
  simp only [Memory.wfFrom, Bool.and_eq_true, decide_eq_true_eq, and_assoc]

theorem Memory.wfFrom_write (m : Memory) (a : Nat) (b : Byte) : ∀ {lo : Nat}, Memory.wfFrom lo m = true → lo ≤ a →
    Memory.wfFrom lo (Memory.write m a b) = true := by
  induction m with
  | nil =>
    intro lo _ h
    unfold Memory.write
    split
    · rfl
    · next hb => exact Memory.wfFrom_cons.mpr ⟨h, hb, rfl⟩
  | cons c t ih =>
    obtain ⟨k, v⟩ := c
    intro lo w h
    obtain ⟨w1, w2, w3⟩ := Memory.wfFrom_cons.mp w
    unfold Memory.write
    split
    · next h1 =>
      subst h1
      split
      · exact Memory.wfFrom_mono (by omega) w3
      · next hb => exact Memory.wfFrom_cons.mpr ⟨h, hb, w3⟩
    · split
      · split
        · exact w
        · next hb => exact Memory.wfFrom_cons.mpr ⟨h, hb, Memory.wfFrom_cons.mpr ⟨by omega, w2, w3⟩⟩
      · exact Memory.wfFrom_cons.mpr ⟨w1, w2, ih w3 (by omega)⟩

/-- Every write keeps the canonical form. -/
theorem Memory.wf_write {m : Memory} (a : Nat) (b : Byte) (h : Memory.wf m = true) :
    Memory.wf (Memory.write m a b) = true := Memory.wfFrom_write m a b h (Nat.zero_le a)

theorem Memory.read_cons (k : Nat) (v : Byte) (t : Memory) (a : Nat) :
    Memory.read ((k, v) :: t) a = if a = k then v else if a < k then 0 else Memory.read t a := rfl

theorem Memory.read_write_from (m : Memory) (a a' : Nat) (b : Byte) : ∀ {lo : Nat}, Memory.wfFrom lo m = true →
    Memory.read (Memory.write m a b) a' = if a' = a then b else Memory.read m a' := by
  induction m with
  | nil =>
    intro lo _
    unfold Memory.write
    split
    · next hb => by_cases h : a' = a <;> simp [Memory.read, hb]
    · rw [Memory.read_cons]
      split
      · rfl
      · split <;> rfl
  | cons c t ih =>
    obtain ⟨k, v⟩ := c
    intro lo w
    obtain ⟨w1, w2, w3⟩ := Memory.wfFrom_cons.mp w
    unfold Memory.write
    split
    · next h1 =>
      subst h1
      split
      · next hb =>
        rw [Memory.read_cons, hb]
        split
        · next h => exact Memory.read_below w3 (by omega)
        · split
          · exact Memory.read_below w3 (by omega)
          · rfl
      · rw [Memory.read_cons, Memory.read_cons]
        split <;> rfl
    · split
      · split
        · next hb =>
          rw [hb]
          split
          · next h => rw [Memory.read_cons, if_neg (by omega), if_pos (by omega)]
          · rfl
        · rw [Memory.read_cons, Memory.read_cons]
          split
          · rfl
          · split
            · rw [if_neg (by omega), if_pos (by omega)]
            · rfl
      · rw [Memory.read_cons, Memory.read_cons]
        split
        · rw [if_neg (by omega)]
        · split
          · rw [if_neg (by omega)]
          · exact ih w3

/-- A read after a write gives the byte written at its address, and what stood there at every other. -/
theorem Memory.read_write {m : Memory} (h : Memory.wf m = true) (a a' : Nat) (b : Byte) :
    Memory.read (Memory.write m a b) a' = if a' = a then b else Memory.read m a' := Memory.read_write_from m a a' b h

theorem Memory.ext_from : ∀ {m m' : Memory} {lo : Nat}, Memory.wfFrom lo m = true → Memory.wfFrom lo m' = true →
    (∀ a, Memory.read m a = Memory.read m' a) → m = m' := by
  intro m
  induction m with
  | nil =>
    intro m' lo _ w' h
    cases m' with
    | nil => rfl
    | cons c t =>
      obtain ⟨k, v⟩ := c
      rw [Memory.wfFrom_cons] at w'
      have := h k
      simp only [Memory.read, if_true] at this
      exact absurd this.symm w'.2.1
  | cons c t ih =>
    obtain ⟨k, v⟩ := c
    intro m' lo w w' h
    simp only [Memory.wfFrom, Bool.and_eq_true, decide_eq_true_eq] at w
    cases m' with
    | nil =>
      have := h k
      simp only [Memory.read, if_true] at this
      exact absurd this w.1.2
    | cons c' t' =>
      obtain ⟨k', v'⟩ := c'
      rw [Memory.wfFrom_cons] at w'
      have hk : k = k' := by
        rcases Nat.lt_trichotomy k k' with hlt | heq | hgt
        · have := h k
          simp only [Memory.read, if_true] at this
          rw [if_neg (by omega), if_pos hlt] at this
          exact absurd this w.1.2
        · exact heq
        · have := h k'
          simp only [Memory.read, if_true] at this
          rw [if_neg (by omega), if_pos hgt] at this
          exact absurd this.symm w'.2.1
      subst hk
      have hv : v = v' := by simpa [Memory.read] using h k
      subst hv
      congr 1
      refine ih w.2 w'.2.2 (fun a => ?_)
      by_cases ha : a ≤ k
      · rw [Memory.read_below w.2 (by omega), Memory.read_below w'.2.2 (by omega)]
      · have := h a
        simp only [Memory.read] at this
        rwa [if_neg (by omega), if_neg (by omega), if_neg (by omega), if_neg (by omega)] at this

/-- Canonical memories that read the same everywhere are equal data. -/
theorem Memory.ext {m m' : Memory} (w : Memory.wf m = true) (w' : Memory.wf m' = true)
    (h : ∀ a, Memory.read m a = Memory.read m' a) : m = m' := Memory.ext_from w w' h

@[simp] theorem Memory.wf_nil : Memory.wf [] = true := rfl

@[simp] theorem Memory.read_nil (a : Nat) : Memory.read [] a = 0 := rfl

/-- The memories after reset are in canonical form. -/
theorem reset_memory_wf : Memory.wf State.reset.ts.text = true ∧ Memory.wf State.reset.gs.mem = true := ⟨rfl, rfl⟩

end Sys2Proof.Machine
end

