-- ==== Sys2Proof/WellFormed.lean ====
section
/-! DEFINITION. The commands that a partner can send: every operand fits the field that carries it (R182 to R185). A value
that fits its field and is out of range by a rule is well formed; the rule refuses it. -/

namespace Sys2Proof

/-- A field of one byte. -/
def fits8 (n : Nat) : Bool := decide (n < 256)

/-- A field of two bytes. -/
def fits16 (n : Nat) : Bool := decide (n < 65536)

/-- A field of four bytes. -/
def fits32 (n : Nat) : Bool := decide (n < 4294967296)

/-- A signed field of four bytes. -/
def fitsSigned32 (z : Int) : Bool := decide (-2147483648 ≤ z) && decide (z ≤ 2147483647)

/-- R183: the data length has four bytes. -/
def EdHeader.ok (h : EdHeader) : Bool := fits32 h.dataLength

/-- R185: a quote reference: index 2, generation 2. -/
def Ref.ok (r : Ref) : Bool := fits16 r.index && fits16 r.gen

/-- R185: a story reference: id 1, generation 2. -/
def Ref.okStory (r : Ref) : Bool := fits8 r.index && fits16 r.gen

/-- R185: the parameters of DEFINE QUOTE. -/
def DefineArgs.ok (a : DefineArgs) : Bool :=
  fits8 a.lane && decide (a.symLen < 16) && decide (a.symbol.length = 8) && fits8 a.scale && fits8 a.decimals &&
    a.reference.all fitsSigned32

/-- R185: the parameters of LOAD FACE. -/
def FaceArgs.ok (a : FaceArgs) : Bool :=
  fits8 a.face && fits16 a.lineHeight && fits16 a.baseline && fits16 a.substitute && fits16 a.count

/-- R102: 10-bit components. -/
def Rgb.ok (c : Rgb) : Bool := decide (c.r < 1024) && decide (c.g < 1024) && decide (c.b < 1024)

/-- R183: the fields of a configuration record. -/
def ConfigRecord.ok (c : ConfigRecord) : Bool :=
  fits8 c.presentation && fits16 c.yOrigin && fits16 c.height && fits8 c.face && fits16 c.baseline &&
    (tlist c.palette).all Rgb.ok && decide (c.backKey < 1024) && fits16 c.gap && fits8 c.quantum && fits16 c.speed &&
    fits16 c.accel && fits16 c.clearSpeed && fits8 c.fade && fits8 c.changeStyle && fits8 c.smooth && fits16 c.flipHold &&
    fits8 c.flipTransition && fits8 c.rollFrames && fits16 c.arrowUp && fits16 c.arrowDown && fits16 c.arrowSame &&
    fits16 c.arrowHalt

/-- R185: the parameters of an editorial band request. -/
def EdRequest.ok : EdRequest → Bool
  | .configure => true
  | .release => true
  | .takeOn _ => true
  | .takeOff m => fits8 m
  | .halt => true
  | .resume => true
  | .setSpeed v => fits16 v
  | .commit m => fits8 m
  | .brk story repeats urgency => story.okStory && fits8 repeats && fits8 urgency
  | .breakClear => true

def RequestArrival.ok : RequestArrival → Bool
  | .editorial h band r => h.ok && fits8 band && r.ok
  | .panel _ _ => true

def Via.ok : Via → Bool
  | .editorial h => h.ok
  | .panel => true

/-- R127: the operands of a break entry that has joined a request queue. -/
def breakOk (story : Ref) (repeats : Nat) : Bool := story.okStory && decide (1 ≤ repeats) && decide (repeats ≤ 15)

/-- R185: sixteen levels of four bits. -/
def levelsOk (levels : List Nat) : Bool := decide (levels.length = 16) && levels.all (fun l => decide (l < 16))

/-- R183: a kind byte that is none of the five frame kinds. -/
def unknownKind (k : Byte) : Bool := (Machine.frameKindOf k).isNone

/-- R185: the parameters of EDIT RUN LIST but for the operation. -/
def editOk (band pos count : Nat) : Bool := fits8 band && fits16 pos && fits16 count

/-- A command that a partner can send. -/
def Instr.wellFormed : Instr → Bool
  | .powerOn _ _ => true
  | .resetAsserted => true
  | .initDone => true
  | .deviceResetStart => true
  | .referencePulse _ => true
  | .lossLimit => true
  | .freeRunPeriod => true
  | .flashExpired _ => true
  | .laneSilent _ => true
  | .drainEnd _ => true
  | .clearingEnd _ => true
  | .holdExpired _ => true
  | .rollEnd _ => true
  | .leavingEnd _ => true
  | .fadeOutComplete _ => true
  | .fadeInComplete _ => true
  | .bankSwap _ => true
  | .retiringRecordFreed _ => true
  | .deletingStoryFreed _ => true
  | .cleanRequest _ => true
  | .feedPacket _ => true
  | .feedStatusRecordSent => true
  | .updateEngineTurn => true
  | .commandFrame _ => true
  | .dataOutFrame _ => true
  | .dataInFrame _ => true
  | .statusFrame _ => true
  | .linkReset => true
  | .defineQuote h a => h.ok && a.ok
  | .retireQuote h r => h.ok && r.ok
  | .setSource h r source => h.ok && r.ok && fits8 source
  | .setSourceDataComplete _ => true
  | .setReference h r _ scale mantissa => h.ok && r.ok && fits8 scale && fitsSigned32 mantissa
  | .setFlash h value => h.ok && fits8 value
  | .readQuotes h start count direction => h.ok && fits16 start && fits16 count && fits8 direction
  | .laneHold via lane => via.ok && fits8 lane
  | .laneRelease via lane => via.ok && fits8 lane
  | .laneFlush h lane => h.ok && fits8 lane
  | .linkRelease via => via.ok
  | .setSilenceLimit h lane limit => h.ok && fits8 lane && fits16 limit
  | .readLanes h => h.ok
  | .loadStory h => h.ok
  | .loadStoryComplete _ => true
  | .deleteStory h r => h.ok && r.okStory
  | .readStories h start count => h.ok && fits8 start && fits16 count
  | .loadFace h a => h.ok && a.ok
  | .loadFaceComplete _ => true
  | .unloadFace h face => h.ok && fits8 face
  | .loadGlyphImages h offset => h.ok && fits32 offset
  | .loadGlyphImagesComplete _ => true
  | .readFace h face start count => h.ok && fits8 face && fits16 start && fits16 count
  | .editInsert h band pos count => h.ok && editOk band pos count
  | .editDelete h band pos count => h.ok && editOk band pos count
  | .editReplace h band pos count => h.ok && editOk band pos count
  | .editClear h band pos count => h.ok && editOk band pos count
  | .editDataComplete _ => true
  | .copyBank h band => h.ok && fits8 band
  | .readRunList h band bank start count direction =>
    h.ok && fits8 band && fits8 bank && fits8 start && fits16 count && fits8 direction
  | .readBand h band => h.ok && fits8 band
  | .readWindow h band => h.ok && fits8 band
  | .softClean via value => via.ok && fits8 value
  | .setPin h pin mode select level => h.ok && fits8 pin && fits8 mode && fits8 select && fits8 level
  | .readOutput h => h.ok
  | .setLevels h master levels => h.ok && fits8 master && levelsOk levels
  | .setThreshold via value => via.ok && fits8 value
  | .readEvents h => h.ok
  | .readEventsComplete => true
  | .deviceReset h => h.ok
  | .bandRequestQueued a => a.ok
  | .configure _ _ record => record.ok
  | .release _ _ => true
  | .takeOn _ _ _ => true
  | .takeOffDrain _ _ => true
  | .takeOffCut _ _ => true
  | .halt _ _ => true
  | .resume _ _ => true
  | .setSpeed _ _ value => fits16 value
  | .nudge _ _ => true
  | .commit _ _ _ => true
  | .breakNext _ _ story repeats => breakOk story repeats
  | .breakNow _ _ story repeats => breakOk story repeats
  | .breakClear _ _ => true
  | .allTakeOff _ => true
  | .allHalt => true
  | .allResume => true
  | .panelWrite _ => true
  | .startCondition => true
  | .stopCondition => true
  | .panelStatusRead _ => true
  | .panelStatusReadComplete => true
  | .frameOfUnknownKind kind => unknownKind kind

end Sys2Proof
end

