-- ==== Sys2Proof/Tests/Slice0.lean ====
section
/-! SUPPORT. Small tests: ill-formed commands that the check refuses, the manual's worked examples, one step of each family,
and for each statement with hypotheses a state and operands that meet them. -/

namespace Sys2Proof.Tests

open Sys2Proof.Machine

-- The tests are checked one after another: each kernel evaluation that waits for an earlier one would hold a thread.
set_option Elab.async false

/-! ### States to test on -/

/-- A running device with straps low, and every block as it is after reset. -/
def running : State := State.powerOnValues .running Straps.low 0 false 0 []

def hdr (n : Nat) : EdHeader := ⟨0x2A, n⟩

/-- A LIVE record: EUR on lane 1, scale 4 shown at 2 decimals. -/
def eur : Quote := { Quote.free 1 with state := .live, symbol := some [69, 85, 82], lane := some 0, scale := 4, decimals := 2 }

def withQuote (i : Fin 1024) (q : Quote) (s : State) : State := s.updQuote i (fun _ => q)

def withStory (i : Fin 256) (q : Story) (s : State) : State := s.updStory i (fun _ => q)

/-- The link in phase `p` of command `c`, `k` bytes into `n`. -/
def inFlight (p : EdPhase) (c : EdCommand) (n k : Nat) (s : State) : State :=
  { s with eli := { s.eli.took p (hdr n) c with counter := k } }

/-- A face with the glyph 65, 30 pixels wide, whose image is one byte at offset 0. -/
def plainFace : Face :=
  { Face.empty with
    loaded := true, lineHeight := 20, baseline := 15, substitute := 66,
    glyphs := tset (Vector.replicate 1024 Glyph.absent) 65 ⟨true, 30, 0, 0, 1, 1, 0⟩ }

def withFace (s : State) : State := s.setFace 0 plainFace

/-- A configuration record in range: 16 lines from line 100, speed 512, fade 8. -/
def record (presentation : Nat) : ConfigRecord :=
  ⟨presentation, 100, 16, 0, 12, Vector.replicate 10 ⟨64, 64, 64⟩, 512, 32, 16, 512, 128, 4096, 8, 2, 1, 250, 1, 5, 1, 2, 3, 4⟩

def config (p : Presentation) : BandConfig :=
  ⟨p, 100, 16, 0, 12, Vector.replicate 10 ⟨64, 64, 64⟩, 512, 32, 16, 512, 128, 4096, 8, .both, true, 250, .roll, 5, 1, 2, 3, 4⟩

/-- Band 1 configured and in program state `p`. -/
def banded (present : Presentation) (p : Prog) (s : State) : State :=
  s.updBand 1 (fun d => { d with config := some (config present), prog := p })

def spacer (w : Nat) : Item := ⟨.spacer w, none, none⟩

def spacerInst (x : Int) (w : Nat) : Inst := ⟨.spacer, x, w, 32, none, 0, false⟩

def quoteInst (i g : Nat) : Inst := ⟨.quote ⟨i, g⟩, 0, 304, 32, none, 0, false⟩

/-- The next state of a command, when it answers one. -/
def after (i : Instr) (s : State) : Option State :=
  match exec i s with
  | .next t => some t
  | .fault _ => none
  | .refused _ => none

/-! ### Well-formed commands -/

theorem test_refuses_long_header : (Instr.readLanes ⟨0, 4294967296⟩).wellFormed = false := by decide
theorem test_refuses_wide_index : (Instr.retireQuote (hdr 0) ⟨65536, 1⟩).wellFormed = false := by decide
theorem test_refuses_wide_story : (Instr.deleteStory (hdr 0) ⟨256, 1⟩).wellFormed = false := by decide
theorem test_refuses_short_symbol :
    (Instr.defineQuote (hdr 0) ⟨1, 3, [69, 85, 82], 4, 2, none⟩).wellFormed = false := by decide
theorem test_refuses_wide_mantissa :
    (Instr.setReference (hdr 0) ⟨0, 1⟩ false 0 2147483648).wellFormed = false := by decide
theorem test_refuses_wide_face : (Instr.loadFace (hdr 0) ⟨256, 1, 0, 0, 0⟩).wellFormed = false := by decide
theorem test_refuses_wide_component :
    (Instr.configure 1 0 { record 0 with palette := Vector.replicate 10 ⟨1024, 0, 0⟩ }).wellFormed = false := by decide +kernel
theorem test_refuses_no_repeats : (Instr.breakNext 1 0 ⟨0, 1⟩ 0).wellFormed = false := by decide
theorem test_refuses_short_levels : (Instr.setLevels (hdr 0) 0 [1, 2]).wellFormed = false := by decide
theorem test_refuses_known_kind : (Instr.frameOfUnknownKind 0x0F).wellFormed = false := by decide
theorem test_refuses_wide_via : (Instr.laneHold (.editorial (hdr 0)) 256).wellFormed = false := by decide
theorem test_refuses_wide_edit : (Instr.editInsert (hdr 9) 0 65536 1).wellFormed = false := by decide
theorem test_accepts_a_command : (Instr.setReference (hdr 0) ⟨1023, 65535⟩ false 255 (-2147483648)).wellFormed = true := by decide

/-- No word spells a command: the table gives its rows no bits. -/
theorem test_no_word_spells_a_command : (State.reset.withFetchWord 16 0x1234).pending = [] := rfl

/-! ### The manual's worked examples -/

/-- The table of R26. -/
theorem test_normalisation :
    normalise 2 4 18395 = some 1839500 ∧ normalise 6 4 183456750 = some 1834568 ∧
    normalise 6 4 (-183456750) = some (-1834568) ∧ normalise 6 4 49 = some 0 ∧ normalise 6 4 50 = some 1 ∧
    normalise 6 4 (-50) = some (-1) ∧ normalise 6 6 1834567850 = none ∧ normalise 6 4 1834567850 = some 18345679 ∧
    normalise 0 3 12000000 = none ∧ normalise 7 4 100 = none := by decide

/-- The change and percent columns of the table of worked cases of section 2.2. -/
theorem test_change_and_percent :
    percentOf (changeOf (some 1839500) (some 1834500)) (some 1834500) = some 27 ∧
    percentOf (changeOf (some 1834650) (some 1834500)) (some 1834500) = some 1 ∧
    percentOf (changeOf (some 1834350) (some 1834500)) (some 1834500) = some (-1) ∧
    percentOf (changeOf (some 20001) (some 20000)) (some 20000) = some 1 ∧
    percentOf (changeOf (some 9049) (some 9000)) (some 9000) = some 54 ∧
    percentOf (changeOf (some 2000000) (some 100)) (some 100) = some 99999 ∧
    percentOf (changeOf (some (-999999999)) (some 999999999)) (some 999999999) = some (-20000) ∧
    percentOf (changeOf (some 1500) (some 0)) (some 0) = none ∧
    percentOf (changeOf (some 1500) (some (-2000))) (some (-2000)) = none := by decide

/-- The displayed change and net sign columns of the same table. -/
theorem test_displayed_change :
    shownChange 4 2 (some 150) = some 2 ∧ shownChange 4 2 (some (-150)) = some (-2) ∧ shownChange 4 2 (some 49) = some 0 ∧
    shownChange 4 2 (some (-1999999998)) = some (-20000000) ∧ signOf (some 0) = .zero ∧ signOf (some 2) = .plus ∧
    signOf (some (-2)) = .minus ∧ signOf none = .zero := by decide

/-- The quote of the sixth row, after its latch: "+19999.00" and "+999.99%" (R32, R33). -/
theorem test_change_texts :
    absText { eur with scale := 2, change := some 1999900 } = [0x2B, 0x31, 0x39, 0x39, 0x39, 0x39, 0x2E, 0x30, 0x30] ∧
    pctText { eur with percent := some 99999 } = [0x2B, 0x39, 0x39, 0x39, 0x2E, 0x39, 0x39, 0x25] ∧
    pctText eur = [0x2D, 0x2D] := by decide +kernel

/-- R31: −1,839,500 at scale 4 shown at 2 decimals is "-183.95", and 123,456,789 at scale 2 "1,234,567.89". -/
theorem test_price_texts :
    priceText true { eur with dispLast := some (-1839500) } = [0x2D, 0x31, 0x38, 0x33, 0x2E, 0x39, 0x35] ∧
    priceText true { eur with scale := 2, dispLast := some 123456789 } =
      [0x31, 0x2C, 0x32, 0x33, 0x34, 0x2C, 0x35, 0x36, 0x37, 0x2E, 0x38, 0x39] := by decide +kernel

/-- R167: the CRC over the nine bytes 31h to 39h is 29B1h. -/
theorem test_crc : crcOf [0x31, 0x32, 0x33, 0x34, 0x35, 0x36, 0x37, 0x38, 0x39] = 0x29B1#16 := by decide +kernel

/-- Section 4.8: the six codes measure 57 in the face. -/
theorem test_measure :
    let g := fun a : Nat => (⟨true, a, 0, 0, 0, 0, 0⟩ : Glyph)
    textWidth { Face.empty with loaded := true, substitute := 0x3F, glyphs := tset (tset (tset (tset (tset
      (Vector.replicate 1024 Glyph.absent) 0x20 (g 6)) 0x3F (g 9)) 0x46 (g 12)) 0x64 (g 11)) 0x65 (g 10) }
      [0x46, 0x65, 0x64, 0x20, 2000, 500] = 57 := by decide +kernel

/-- R113: from 768 toward 0 with accel 128, and from 600 toward 1000 with accel 300. -/
theorem test_ramp : rampToward 0 128 768 = 640 ∧ rampToward 0 128 128 = 0 ∧ rampToward 1000 300 600 = 900 ∧
    rampToward 1000 300 900 = 1000 := by decide

/-- Band 1 of section 6.8 as it stands before frame start f, with spacers of the widths given. -/
def crawlBand : State :=
  ((banded .crawl .running running).updBand 1 (fun d => { d with
    speed := 768, window := [spacerInst (-101376) 400, spacerInst 9216 1853],
    config := some { config .crawl with speedTarget := 768 } })).updLists 1 (fun r => { r with bankA := [spacer 304, spacer 50] })

/-- Section 6.8, frame start f: the X of the three instances and the cursor. -/
theorem test_admission :
    let t := frameBlocks [.quotes, .feed, .band 0, .band 1, .band 2, .band 3, .compositor] false crawlBand
    ((t.band 1).window.map Inst.x, (t.band 1).cursor) = ([-102144, 8448, 491008], 1) := by decide +kernel

/-- Section 6.8, frame start f + 1. -/
theorem test_exit :
    let order : List Block := [.compositor, .band 1, .quotes, .feed, .band 3, .band 2, .band 0]
    let t := frameBlocks order false (frameBlocks order false crawlBand)
    ((t.band 1).window.map Inst.x, (t.band 1).cursor) = ([7680, 490240], 1) := by decide +kernel

/-- Section 6.8: a bank of which nothing is admissible raises ITEM SKIPPED, LOOP END and STARVED, each once. -/
theorem test_starved :
    let s := (banded .crawl .running running).updLists 1 (fun r =>
      { r with bankA := [⟨.quote ⟨1, 1⟩, none, none⟩, ⟨.quote ⟨2, 1⟩, none, none⟩, ⟨.quote ⟨3, 1⟩, none, none⟩] })
    ((admissionStep (config .crawl) 1 s).au.editorial.pending, ((admissionStep (config .crawl) 1 s).band 1).cursor) =
      ([⟨.itemSkipped, .band 1⟩, ⟨.starved, .band 1⟩], 0) := by decide +kernel

/-- The first page of section 8.7, with the skipped quote and spacers of the slots given (R141, R142). -/
theorem test_page_build :
    let s := (banded .flip .running running).updLists 1 (fun r => { r with bankA :=
      [spacer 304, spacer 352, spacer 610, ⟨.quote ⟨9, 1⟩, none, none⟩, spacer 288, spacer 24, spacer 700] })
    let r := pageBuild (config .flip) 1 0 s
    (r.1, (r.2.band 1).window.map Inst.x, (r.2.band 1).cursor) = (5, [0, 86016, 184320, 348672, 430592], 6) := by decide +kernel

/-- Section 8.7: the offsets of the roll with h = 48 and R = 5. -/
theorem test_roll_offsets :
    let c := { config .flip with height := 48 }
    [1, 2, 3, 4, 5].map (fun k => (rolledWindow c k 1 [spacerInst 0 10, spacerInst 0 10]).map Inst.voffset) =
      [[-9, 39], [-19, 29], [-28, 20], [-38, 10], [-48, 0]] := by decide +kernel

/-- Section 9.2: the fill, the key and the key sent of one pixel. -/
theorem test_pixel : blend 1023 64 128 = 545 ∧ blend 1023 512 128 = 769 ∧ scaledKey 8 3 769 = 288 := by decide

/-- Section 9.3: a band of F = 4 fades out in four frame starts and in again, one of F = 0 at once. -/
theorem test_fade :
    moveVisibility true 4 ⟨.shown, 4⟩ = ⟨.fadingOut, 3⟩ ∧ moveVisibility true 4 ⟨.fadingOut, 1⟩ = ⟨.hidden, 0⟩ ∧
    moveVisibility true 1 ⟨.shown, 1⟩ = ⟨.hidden, 0⟩ ∧ moveVisibility false 4 ⟨.hidden, 0⟩ = ⟨.fadingIn, 1⟩ ∧
    moveVisibility false 4 ⟨.fadingIn, 3⟩ = ⟨.shown, 4⟩ := by decide

/-! ### One step of each family -/

def eurArgs : DefineArgs := ⟨1, 3, [69, 85, 82, 0, 0, 0, 0, 0], 4, 2, some 15⟩

/-- R5: a symbol that a LIVE record holds is answered EXISTS with its index and generation. -/
theorem test_define_exists :
    (after (.defineQuote (hdr 0) eurArgs) (withQuote 3 eur running)).map (fun t => (t.quote 3, t.eli.status)) =
      some (eur, some ⟨.exists_, 0, [0, 3, 0, 1, 0]⟩) := by decide +kernel

/-- R6: the record that the definition makes of a FREE one. -/
theorem test_define :
    definedQuote (Quote.free 0) eurArgs 0 true = { eur with pendRef := some 15, dispRef := some 15, stale := true } := by
  decide +kernel

/-- R7: a retirement of a record that is not on screen frees it with the next generation. -/
theorem test_retire :
    (after (.retireQuote (hdr 0) ⟨3, 1⟩) (withQuote 3 eur running)).map (fun t => (t.quote 3, t.eli.status)) =
      some (Quote.free 2, some ⟨.good, 0, [0, 3, 0, 2, 0]⟩) := by decide +kernel

/-- R43, R46, R60: a TRADE packet on lane 1 is TAKEN, and the update engine writes the price. -/
theorem test_trade :
    ((after (.feedPacket (goodPacket 1 [[1, 2, 0, 3, 0, 1, 0, 0, 0x47, 0xDB, 0, 0]])) (withQuote 3 eur running)).bind
      (after .updateEngineTurn)).map (fun t => (t.fli.tx, (t.quote 3).pendLast, (t.quote 3).dirty, t.uePointer)) =
    some ([.reply 1], some 1839500, true, 0) := by decide +kernel

/-- R43: one wrong bit of the CRC gives BAD. -/
theorem test_bad_crc :
    (after (.feedPacket [0x7E, 0, 1, 0x81, 1, 0, 0, 0, 0, 0, 0, 0, 0, 0, 0, 0, 0]) running).map (fun t => (t.fli.tx, t.fli.bad)) =
      some ([.reply 4], 1) := by decide +kernel

/-- R55, R56: a HEARTBEAT for lanes 1 and 3, and a STATUS QUERY that reports them, sent on FEED TX. -/
theorem test_control :
    ((after (.feedPacket (goodPacket 0 [[0x81, 5, 0, 0, 0, 0, 0, 0, 0, 0, 0, 0], [0x82, 0, 0, 0, 0, 0, 0, 0, 0, 0, 0, 0]]))
      running).bind (after .feedStatusRecordSent)).map (fun t => (t.fli.txOut, t.au.feed.pending)) =
    some ([1, 0x05, 0x05, 0, 0, 0, 0, 0, 0x10], []) := by decide +kernel

/-- R70: a story of two codes is stored, high byte first. -/
theorem test_story :
    ((after (.loadStory (hdr 4)) running).bind (after (.dataOutFrame [0, 0x41, 0x01, 0x02]))).map
      (fun t => (t.storyText 0, (t.story 0).state, (t.story 0).gen)) = some ([0x41, 0x102], .loaded, 1) := by decide +kernel

/-- R77: an image byte is written at its offset, and a range past the end is refused. -/
theorem test_images :
    ((after (.loadGlyphImages (hdr 2) 10) running).bind (after (.dataOutFrame [7, 8]))).map
      (fun t => (t.gs.mem, t.eli.phase)) = some ([(10, 7), (11, 8)], .statusReady) ∧
    (after (.loadGlyphImages (hdr 2) 4194303) running).map (fun t => t.eli.status) =
      some (some ⟨.badParam, 2, [0, 0, 0, 0, 0]⟩) := by decide +kernel

/-- R76: a face of one glyph. -/
theorem test_face :
    ((after (.loadFace (hdr 12) ⟨2, 20, 15, 0x41, 1⟩) running).bind
      (after (.dataOutFrame [0, 0x41, 30, 0xFF, 2, 3, 4, 0, 0, 1, 0, 0]))).map
        (fun t => ((t.face 2).loaded, tget (t.face 2).glyphs 0x41, t.eli.phase)) =
      some (true, ⟨true, 30, -1, 2, 3, 4, 256⟩, .statusReady) := by decide +kernel

/-- R89: two items are inserted into the shadow bank, and the on-air bank stays empty. -/
theorem test_insert :
    ((after (.editInsert (hdr 18) 2 0 2) running).bind
      (after (.dataOutFrame [4, 1, 0, 100, 0, 0, 0, 8, 0, 3, 0, 0, 0x41, 0, 0, 0, 0, 0]))).map
        (fun t => ((t.lists 2).bankB, (t.lists 2).bankA, t.eli.status)) =
      some ([⟨.spacer 100, some 8, none⟩, ⟨.glyph 0x41, none, none⟩], [], some ⟨.good, 0, [0, 2, 0, 0, 0]⟩) := by decide +kernel

/-- R88: an entry out of range is named by its number. -/
theorem test_bad_entry :
    ((after (.editInsert (hdr 18) 2 0 2) running).bind
      (after (.dataOutFrame [4, 0, 0, 100, 0, 0, 0, 0, 0, 4, 0, 0, 0, 0, 0, 0, 0, 0]))).map (fun t => t.eli.status) =
      some (some ⟨.badParam, 0, [0, 1, 0, 0, 0]⟩) := by decide +kernel

/-- R172, R183: READ LANES sends four lane reports and the link report. -/
theorem test_read_lanes :
    ((after (.readLanes (hdr 39)) running).bind (after (.dataInFrame 39))).map (fun t => (t.eli.dout.take 10, t.eli.dout.drop 37)) =
      some ([0, 1, 0, 0, 0, 0, 0, 150, 0, 0], [0, 0, 4]) := by decide +kernel

/-- R170, R173: LINK RELEASE in a COMMAND frame, and the block that STATUS returns. -/
theorem test_status :
    ((after (.commandFrame ([0x4D, 0x55, 0x23, 0, 0, 0, 0, 0, 0] ++ List.replicate 15 0)) running).bind
      (after (.statusFrame 12))).map (fun t => (t.eli.dout, t.eli.phase)) =
      some ([0, 0x53, 0x55, 0, 0, 0, 0, 0, 0, 0, 0, 0, 0], .idle) := by decide +kernel

/-- R170: 23 bytes are answered LENGTH ERROR with residue 0. -/
theorem test_length_error :
    (after (.commandFrame ([0x4D, 0x55, 0x23] ++ List.replicate 20 0)) running).map (fun t => (t.eli.tag, t.eli.status)) =
      some (0x55, some ⟨.lengthError, 0, [0, 0, 0, 0, 0]⟩) := by decide +kernel

/-- R175: DATA OUT in IDLE is the wrong kind. -/
theorem test_wrong_kind : (after (.dataOutFrame [1]) running).map (fun t => t.eli.phase) = some .phaseError := by decide +kernel

/-- R169, R175: a STATUS frame in IDLE is the wrong kind and returns the block of PHASE ERROR, then 00h. -/
theorem test_stray_status :
    (after (.statusFrame 13) running).map (fun t => (t.eli.dout, t.eli.phase)) =
      some ([0, 0x53, 0, 0x09, 0, 0, 0, 0, 0, 0, 0, 0, 0, 0], .phaseError) := by decide +kernel

/-- R170, R175: a LENGTH ERROR ran no command, so the block of the error that follows has tag 0. -/
theorem test_error_after_length_error :
    ((after (.commandFrame [0x4D, 0x55]) running).bind (after (.dataOutFrame []))).map (fun t => (t.eli.tag, t.eli.phase)) =
      some (0, .phaseError) := by decide +kernel

/-- R169: a frame whose select went low before RESET was released is ignored beyond INIT DONE, and the one after it is taken. -/
theorem test_straddling_frame :
    let s := ((after (.powerOn ⟨Straps.low, true⟩ 7) State.reset).bind (after .initDone)).bind (after (.statusFrame 12))
    s.map (fun t => (t.eli.dout, t.eli.phase, t.eli.straddles)) = some (List.replicate 13 0, .idle, false) ∧
    (s.bind (after (.commandFrame [0x4D, 0x55]))).map (fun t => (t.eli.tag, t.eli.phase)) = some (0x55, .statusReady) := by
  decide +kernel

/-- R183: the frame kinds by their codes. -/
theorem test_frame_kinds :
    [0x01, 0x02, 0x03, 0x04, 0x0F, 0x00, 0x05].map frameKindOf =
      [some .command, some .dataOut, some .dataIn, some .status, some .linkReset, none, none] := by decide

/-- R45: a LINK RELEASE outside LINK FAULT leaves the count of bad packets; in LINK FAULT it clears both. -/
theorem test_link_release :
    [false, true].map (fun fault => (after (.linkRelease .panel)
      { running with fli := { Fli.reset with bad := 5, fault := fault } }).map (fun t => (t.fli.bad, t.fli.fault))) =
      [some (5, false), some (0, false)] := by decide +kernel

/-- R103, R106: CONFIGURE takes an OFF band to READY, and its waiting exchange is answered. -/
theorem test_configure :
    (after (.configure 1 1 (record 0)) { withFace running with eli := { Eli.reset with phase := .executing, ticket := 1 } }).map
      (fun t => ((t.band 1).prog, (t.band 1).config, t.eli.status)) =
    some (.ready, some { config .crawl with flipTransition := .roll }, some ⟨.good, 0, [0, 0, 0, 0, 0]⟩) := by decide +kernel

/-- R103: the first failing row is named. -/
theorem test_bad_configure :
    (after (.configure 0 1 { record 0 with height := 15, flipHold := 0 })
      { withFace running with eli := { Eli.reset with phase := .executing } }).map (fun t => t.eli.status) =
    some (some ⟨.badParam, 0, [3, 0, 0, 0, 0]⟩) := by decide +kernel

/-- R108, R161: a CRAWL band taken on starts at its speed target, shown at its full step. -/
theorem test_take_on :
    (after (.takeOn .panel 1 true) (banded .crawl .ready running)).map (fun t => ((t.band 1).prog, (t.band 1).speed, t.vis 1)) =
      some (.running, 512, ⟨.shown, 8⟩) := by decide +kernel

/-- R110: a cut empties the window and frees a RETIRING record whose last instance was there. -/
theorem test_cut :
    (after (.takeOffCut .panel 1) ((withQuote 3 { eur with state := .retiring, gen := 2, count := 1 } (banded .crawl .running
      running)).updBand 1 (fun d => { d with window := [quoteInst 3 1] }))).map
        (fun t => ((t.band 1).window, (t.band 1).prog, t.quote 3)) = some ([], .ready, Quote.free 2) := by decide +kernel

/-- R112: a nudge at 8192 is carried out and changes nothing. -/
theorem test_nudge :
    (after (.nudge 1 true) ((banded .crawl .running running).updBand 1 (fun d =>
      { d with config := some { config .crawl with speedTarget := 8192 } }))).map (fun t => (t.band 1).config.map (·.speedTarget)) =
    some (some 8192) := by decide +kernel

/-- R128: a NOW break in RUNNING saves the cursor and starts the clearing. -/
theorem test_break_now :
    (after (.breakNow 0 1 ⟨4, 1⟩ 2) ((withStory 4 ⟨.loaded, 1, 1, [0], 0⟩ (banded .crawl .running running)).updBand 1 (fun d =>
      { d with cursor := 7, breaks := [⟨⟨5, 1⟩, .next, 1⟩] }))).map
        (fun t => ((t.band 1).prog, (t.band 1).saved, (t.band 1).breaks)) =
    some (.clearing, some 7, [⟨⟨4, 1⟩, .now, 2⟩, ⟨⟨5, 1⟩, .next, 1⟩]) := by decide +kernel

/-- R177: a HALT of band 2 on the panel bus, with the acknowledge bits of its four bytes. -/
theorem test_panel_write :
    (((after .startCondition running).bind (after (.panelWrite [0xB0, 0x04, 2, 9]))).bind (after .stopCondition)).map
      (fun t => (t.pbi.acks, (t.band 2).queue)) = some ([true, true, true, false], []) ∧
    (((after .startCondition running).bind (after (.panelWrite [0xB0, 0x04, 2]))).bind (after .stopCondition)).map
      (fun t => (t.pbi.acks, (t.band 2).queue)) = some ([true, true, true], [⟨.panel, .halt⟩]) := by decide +kernel

/-- R179: the status block after INIT DONE, read whole. -/
theorem test_panel_read :
    (((after .initDone State.reset).bind (after .startCondition)).bind (after (.panelStatusRead 8))).map
      (fun t => (t.pbi.out, t.au.panel.pending)) = some ([3, 0x40, 0x40, 0x40, 0x40, 0, 0, 1], []) := by decide +kernel

/-- R152: a pulse in SEEKING locks the unit, and one 15 ms later is no longer guarded at 50 frames per second. -/
theorem test_guard :
    running.guarded 14999999 = true ∧ running.guarded 15000000 = false := by decide +kernel

/-- The queue: a step runs the command at the front and leaves the rest. -/
theorem test_step :
    (match step (running.withPending [.cleanRequest true, .linkReset]) with
      | .next t => some (t.cleanPin, t.pending)
      | .fault _ => none
      | .refused _ => none) = some (true, [.linkReset]) := by decide +kernel

/-! ### States and operands that meet the hypotheses of the statements -/

theorem running_takes : running.takesCommand := ⟨⟨rfl, rfl⟩, rfl⟩

theorem running_quote (i : Fin 1024) : running.quote i = Quote.free 0 := tget_replicate ..

theorem running_story (i : Fin 256) : running.story i = Story.free 0 := tget_replicate ..

theorem withQuote_quote (i : Fin 1024) (q : Quote) (s : State) : (withQuote i q s).quote i = q := tget_tupd_self ..

theorem withQuote_other {i j : Fin 1024} (h : j ≠ i) (q : Quote) (s : State) : (withQuote i q s).quote j = s.quote j :=
  tget_tupd_ne _ (Ne.symm h)

theorem withStory_story (i : Fin 256) (q : Story) (s : State) : (withStory i q s).story i = q := tget_tupd_self ..

theorem witness_StepRunsFrontCommand : running.fli.tx = [] := rfl

/-- The device as `running` or in another reset mode, in an editorial frame that began before RESET was released. -/
def straddling (r : RunMode) : State := { running with run := r, eli := { Eli.reset with straddles := true } }

theorem witness_LinksInReset :
    (∀ r ∈ [RunMode.initialising, .running], (straddling r).run ≠ .held ∧ (straddling r).eli.straddles = true ∧
      (straddling r).eli.phase = .idle) ∧ State.reset.eli.straddles = false ∧
    (({ running with run := .held } : State).run = .held ∧ ({ running with run := .held } : State).eli.phase = .idle) ∧
    (State.reset.run = .initialising ∧ State.reset.eli.phase = .idle) ∧
    ({ State.reset with pbi := ⟨.address, [], [], []⟩ } : State).pbi.transfer = .address := by decide +kernel

theorem reset_freeBlocks : State.reset.ts.freeBlocks = List.range 4096 := by
  unfold State.reset State.powerOnValues TextStore.reset
  simp only [Config.blockCount]

theorem reset_atReset : State.reset.atReset := by
  refine ⟨fun _ => tget_replicate .., rfl, rfl, rfl, fun _ => tget_replicate .., rfl, fun _ => tget_replicate ..,
    reset_freeBlocks, rfl, rfl, fun _ => tget_replicate .., rfl, fun _ => tget_replicate .., rfl, rfl, rfl, rfl,
    fun _ => tget_replicate .., ?_, fun m k => ?_, fun m => ?_, rfl, rfl, rfl, rfl, rfl⟩
  · decide +kernel
  · cases m <;> cases k <;> rfl
  · cases m <;> exact ⟨rfl, rfl, rfl, rfl⟩

theorem witness_InitDoneAndDeviceReset :
    (State.reset.run = .initialising ∧ State.reset.atReset) ∧ (running.run = .running ∧ running.run ≠ .initialising ∧
      State.reset.run ≠ .running ∧ running.takesCommand ∧ (hdr 0).dataLength = 0 ∧ 11 < 12 ∧ 12 ≤ 12) ∧
    keptReplies [.reply 1, .record [5, 6] true, .reply 2] = [.reply 1, .reply 2] :=
  ⟨⟨rfl, reset_atReset⟩, ⟨rfl, by decide, by decide, running_takes, rfl, by decide, by decide⟩, by decide⟩

/-- Half a microsecond apart at three quarters of a period, on either side of the guard (R152). -/
theorem witness_FrameStarts :
    let locked : State := { running with tu := ⟨.locked, 0⟩ }
    (locked.run = .running ∧ locked.tu.lock = .locked) ∧ 4 * (14999999 - locked.tu.lastFrame) < 3 * locked.period ∧
    3 * locked.period ≤ 4 * (15000000 - locked.tu.lastFrame) ∧ running.tu.lock ≠ .locked ∧
    (∀ r ∈ [RunMode.held, RunMode.initialising], r ≠ .running) ∧ State.reset.run = .initialising ∧
    State.reset.tu.lock ≠ .locked ∧ ({ State.reset with tu := ⟨.locked, 0⟩ } : State).tu.lock = .locked ∧
    ({ State.reset with tu := ⟨.locked, 0⟩ } : State).period = locked.period := by decide +kernel

theorem witness_FrameStartFrame : running.eli.phase ≠ .executing := by decide

def moved (old new : Option Int) : Quote := { eur with dirty := true, dispLast := old, pendLast := new }

theorem witness_FrameStartLatch :
    (running.quote 0).state ≠ .live ∧
    ((withQuote 3 eur running).quote 3 = eur ∧ eur.state = .live ∧
      ¬ (eur.pendSource = .live ∧ (eur.dirty = true ∨ eur.dispSource ≠ .live))) ∧
    ∀ old new, (withQuote 3 (moved old new) running).quote 3 = moved old new ∧ (moved old new).state = .live ∧
      (moved old new).pendSource = .live ∧ ((moved old new).dirty = true ∨ (moved old new).dispSource ≠ .live) ∧
      (moved old new).dispLast = old ∧ (moved old new).pendLast = new :=
  ⟨by rw [running_quote]; decide, ⟨withQuote_quote .., by decide, by decide⟩,
    fun _ _ => ⟨withQuote_quote .., rfl, rfl, .inl rfl, rfl, rfl⟩⟩

theorem witness_ChangeIsTheDifference : changeOf (some 999999999) (some (-999999999)) = some 1999999998 := by decide

theorem witness_PercentIsRoundedThenClamped : (0 : Int) < 1 ∧ (0 : Int) ≤ 0 := by decide

theorem witness_NormalisationRounds : (6 : Nat) ≤ 6 ∧ (5 : Nat) < 6 := by decide

/-- A definition with every operand at the end of its range, and one a byte too long. -/
def edgeArgs : DefineArgs := ⟨4, 8, [65, 66, 67, 68, 69, 70, 71, 72], 6, 6, some 999999999⟩

def holder : Quote := { eur with symbol := some [65, 66, 67, 68, 69, 70, 71, 72] }

theorem witness_DefineQuote :
    (running.takesCommand ∧ (hdr 0).dataLength = 0) ∧
    (1 ≤ edgeArgs.symLen ∧ edgeArgs.symLen ≤ 8 ∧ 1 ≤ edgeArgs.lane ∧ edgeArgs.lane ≤ 4 ∧ edgeArgs.scale ≤ 6 ∧
      edgeArgs.decimals ≤ edgeArgs.scale ∧ ∀ r, edgeArgs.reference = some r → -999999999 ≤ r ∧ r ≤ 999999999) ∧
    ¬ (1 ≤ ({ edgeArgs with symLen := 9 } : DefineArgs).symLen ∧ ({ edgeArgs with symLen := 9 } : DefineArgs).symLen ≤ 8) ∧
    (((withQuote 1023 holder running).quote 1023).state = .live ∧
      ((withQuote 1023 holder running).quote 1023).symbol = some (edgeArgs.symbol.take edgeArgs.symLen) ∧
      ∀ j, ((withQuote 1023 holder running).quote j).state = .live →
        ((withQuote 1023 holder running).quote j).symbol = some (edgeArgs.symbol.take edgeArgs.symLen) → j = 1023) ∧
    (∀ j, ({ running with quotes := Vector.replicate 1024 eur } : State).quote j = eur) ∧ eur.state ≠ .free ∧
      eur.symbol ≠ some (edgeArgs.symbol.take edgeArgs.symLen) ∧
    (edgeArgs.lane = (3 : Fin 4).val + 1 ∧ (running.quote 0).state = .free ∧
      (∀ j, (running.quote j).state ≠ .live) ∧ ∀ j, (running.quote j).state = .free → (0 : Fin 1024) ≤ j) := by
  refine ⟨⟨running_takes, rfl⟩, ⟨by decide, by decide, by decide, by decide, by decide, by decide, ?_⟩, by decide,
    ⟨by rw [withQuote_quote]; rfl, by rw [withQuote_quote]; rfl, ?_⟩, fun j => tget_replicate .., by decide, by decide,
    rfl, by rw [running_quote]; rfl, fun j => by rw [running_quote]; decide, fun j _ => Fin.zero_le j⟩
  · intro r h
    cases h
    decide
  · intro j h _
    by_contra k
    rw [withQuote_other k, running_quote] at h
    cases h

theorem witness_RetireQuote :
    (65534 < 65535 ∧ running.takesCommand ∧ (hdr 0).dataLength = 0) ∧
    (∀ k, let s := withQuote 3 { eur with gen := 65535, count := k } running
      s.takesCommand ∧ (⟨3, 65535⟩ : Ref) = ⟨(3 : Fin 1024).val, (s.quote 3).gen⟩ ∧ (s.quote 3).state = .live ∧
      (s.quote 3).count = k) ∧
    (∀ i : Fin 1024, (1 : Nat) = i.val → (running.quote i).state = .live → (running.quote i).gen = 1 → (1 : Nat) = 0) ∧
    (∀ k, ((withQuote 3 { eur with state := .retiring, count := k } running).quote 3).state = .retiring ∧
      ((withQuote 3 { eur with state := .retiring, count := k } running).quote 3).count = k) ∧
    ∀ k, ((withQuote 3 { eur with flash := k } running).quote 3).flash = k := by
  refine ⟨⟨by decide, running_takes, rfl⟩, fun k => ⟨⟨⟨rfl, rfl⟩, rfl⟩, ?_, ?_, ?_⟩, fun i _ h => ?_, fun k => ?_, fun k => ?_⟩
  · rw [withQuote_quote]
    rfl
  · rw [withQuote_quote]
    rfl
  · rw [withQuote_quote]
  · rw [running_quote] at h
    cases h
  · rw [withQuote_quote]
    exact ⟨rfl, rfl⟩
  · rw [withQuote_quote]

theorem witness_SetSource :
    (running.takesCommand ∧ 2 < 3 ∧ ((2 : Nat) = 2 ∧ ((hdr 0).dataLength = 0 ∨ 16 < (hdr 17).dataLength)) ∧
      ((1 : Nat) < 2 ∧ (hdr 1).dataLength ≠ 0) ∧ 1 ≤ (hdr 1).dataLength ∧ (hdr 16).dataLength ≤ 16) ∧
    ((withQuote 1023 eur running).takesCommand ∧ (⟨1023, 1⟩ : Ref).index = (1023 : Fin 1024).val ∧
      (withQuote 1023 eur running).resolvesQuote ⟨1023, 1⟩ = true ∧
      (withQuote 1023 eur running).resolvesQuote ⟨1023, 2⟩ = false) ∧
    (inFlight .dataOut (.setSource ⟨1023, 1⟩ 2) 16 15 (withQuote 1023 eur running)).awaitsLast (.setSource ⟨1023, 1⟩ 2) :=
  ⟨⟨running_takes, by decide⟩, ⟨⟨⟨rfl, rfl⟩, rfl⟩, rfl, by decide +kernel⟩, ⟨rfl, rfl⟩, rfl, rfl, rfl⟩

theorem witness_SetReferenceAndFlash :
    ((withQuote 3 eur running).takesCommand ∧ (hdr 0).dataLength = 0 ∧ 6 < 7 ∧ 6 ≤ 6) ∧
    (withQuote 3 eur running).resolvesQuote ⟨3, 2⟩ = false ∧
    ((⟨3, 1⟩ : Ref).index = (3 : Fin 1024).val ∧ (withQuote 3 eur running).resolvesQuote ⟨3, 1⟩ = true) ∧
    normalise 0 ((withQuote 3 eur running).quote 3).scale 100000 = none ∧
    normalise 6 ((withQuote 3 eur running).quote 3).scale 150 = some 2 :=
  ⟨⟨⟨⟨rfl, rfl⟩, rfl⟩, rfl, by decide, by decide⟩, by decide +kernel, ⟨rfl, by decide +kernel⟩, by decide +kernel, by decide +kernel⟩

/-- A quote with every text present, on the way up. -/
def lively : Quote := { eur with dispLast := some 12345678905, change := some (-150), percent := some 27, flash := 1, tick := .up }

theorem witness_QuoteTexts :
    (eur.dispLast = none ∧ eur.change = none ∧ eur.percent = none ∧ eur.flash = 0 ∧ eur.dispHalted = false ∧
      eur.dispSource ≠ .overridden ∧ eur.netSign = .zero ∧ ({ eur with stale := true } : Quote).stale = true) ∧
    (lively.dispLast = some 12345678905 ∧ lively.change = some (-150) ∧ lively.percent = some 27 ∧ 0 < lively.flash ∧
      lively.tick = .up ∧ ({ eur with dispSource := .overridden } : Quote).dispSource = .overridden) ∧
    (let tails := [[1], [2], [3], ([4] : List Nat)]
     tails = [] ++ [1] :: [[2], [3], [4]] ∧ tails = [[1], [2], [3]] ++ [4] :: []) ∧
    ((65 : Fin 1024).val = 65 ∧ tget plainFace.glyphs 65 = ⟨true, 30, 0, 0, 1, 1, 0⟩ ∧
      (tget plainFace.glyphs 66).present = false) ∧ 0 < (config .crawl).quantum := by decide +kernel

/-- Section 2.7: the slot of DXA at its admission is 272 for a text of 266. -/
theorem test_slot : ceilTo 16 266 = 272 ∧ ceilTo 16 272 = 272 ∧ ceilTo 16 0 = 0 := by decide

/-- Lane 1 with `n` records in its queue. -/
def queued (n : Nat) : State := running.updLane 0 (fun l => { l with queue := List.replicate n ⟨1, 4, 3, 1, 5⟩ })

def full32 : List (List Byte) := List.replicate 32 (List.replicate 12 0)

theorem full32_ok : recordsOk full32 := ⟨by decide, by decide, by decide +kernel⟩

theorem witness_FeedPacketTaken :
    recordsOk full32 ∧ (queued 480).run = .running ∧ (queued 480).fli.rx = none ∧ (queued 480).fli.fault = false ∧
      ((queued 480).lane 0).held = false ∧ ((queued 480).lane 0).queue.length + full32.length ≤ 512 ∧
      (State.reset.run ≠ .held ∧ State.reset.fli.rx = none ∧ (0x7E : Byte) ∉ [(1 : Byte), 0x7F] ∧
        ([1, 1] ++ List.replicate 13 (0x7E : Byte)).length < 4 + 12 * (byteAt ([1, 1] ++ List.replicate 13 0x7E) 1).toNat) :=
  ⟨full32_ok, by decide +kernel⟩

/-- R167: noise, a packet split after its count byte, and a second packet in the row that ends the first. -/
theorem test_framing :
    let packet := goodPacket 0 [List.replicate 12 0x81]
    ((after (.feedPacket (5 :: packet.take 3)) running).bind (after (.feedPacket (packet.drop 3 ++ packet)))).map
      (fun t => (t.fli.rx, t.fli.tx)) = some (none, [.reply 1, .reply 1]) := by decide +kernel

theorem witness_FeedPacketRefused :
    (recordsOk full32 ∧ running.fli.rx = none ∧ State.reset.fli.rx = none ∧ State.reset.run = .initialising) ∧
    ((running.updLane 0 (fun l => { l with held := true })).lane 0).held = true ∧
    ((queued 481).run = .running ∧ (queued 481).fli.fault = false ∧ ((queued 481).lane 0).held = false ∧
      512 < ((queued 481).lane 0).queue.length + full32.length) ∧
    (¬ 1 ≤ (0 : Byte).toNat ∧ ¬ (33 : Byte).toNat ≤ 32 ∧ (1 ≤ (1 : Byte).toNat ∧ (32 : Byte).toNat ≤ 32) ∧
      (List.replicate 14 (0 : Byte)).length = 12 * (1 : Byte).toNat + 2 ∧ 4 < (5 : Byte).toNat) ∧
    ([0, 1] ≠ bytesOf 2 (crcOf (7 :: 1 :: (List.replicate 12 0 ++ [0, 1]).take 12)).toNat) ∧
    (byteAt (0x80 :: List.replicate 13 0) (12 * 0) ≠ 0x81 ∧
      byteAt (0x82 :: List.replicate 11 0 ++ 0x82 :: List.replicate 13 0) (12 * 0) = 0x82 ∧
      byteAt (0x82 :: List.replicate 11 0 ++ 0x82 :: List.replicate 13 0) (12 * 1) = 0x82) ∧
    ∀ n fault, let s : State := { running with fli := { Fli.reset with bad := n, fault := fault } }
      s.run = .running ∧ s.fli.rx = none ∧ s.fli.fault = fault ∧ s.fli.bad + 1 = n + 1 :=
  ⟨⟨full32_ok, rfl, rfl, rfl⟩, by decide +kernel, by decide +kernel, by decide, by decide +kernel, by decide,
    fun _ _ => ⟨rfl, rfl, rfl, rfl⟩⟩

theorem witness_ControlPackets :
    (running.run = .running ∧ running.fli.rx = none ∧ (List.replicate 10 (0 : Byte)).length = 10 ∧
      running.au.feed.latch = none ∧ ∀ m, (running.au.get m).latch = none) ∧
    (running.updMaster .feed (fun t => { t with latch := some [] })).au.feed.latch ≠ none ∧
    (let r := fun k : Byte => k :: List.replicate 11 0
     let records := [r 0x83, r 0x81]
     records ≠ [] ∧ recordsOk (r 0x82 :: records) ∧
       (∀ x ∈ r 0x82 :: records, byteAt x 0 = 0x81 ∨ byteAt x 0 = 0x82 ∨ byteAt x 0 = 0x83) ∧
       ((r 0x82 :: records).filter (fun x => byteAt x 0 == 0x82)).length ≤ 1) :=
  ⟨⟨rfl, rfl, rfl, rfl, fun m => by cases m <;> rfl⟩, by decide +kernel, by decide, ⟨by decide, by decide, by decide⟩,
    by decide, by decide⟩

theorem witness_StatusRecordSent :
    (let s : State := { running with
       fli := { Fli.reset with tx := [.reply 1, .record [1, 2] true, .reply 2] }
       au := { Au.reset with feed := { MasterSet.reset .feed with latch := some [] } } }
     s.fli.tx = [1].map TxItem.reply ++ .record [1, 2] true :: [.reply 2] ∧ s.au.feed.latch = some []) ∧
    (running.fli.tx = ([] : List Byte).map TxItem.reply ∧ running.pending = []) ∧
    ∀ tx, ({ running with fli := { Fli.reset with tx := tx } } : State).fli.tx = tx :=
  ⟨by decide +kernel, ⟨rfl, rfl⟩, fun _ => rfl⟩

/-- Lane 2 with one record of a kind for the LIVE record 3 of lane 2. -/
def waiting (kind : Byte) (gen : Nat) (mantissa : Int) : State :=
  (withQuote 3 { eur with lane := some 1 } running).updLane 1 (fun l => { l with queue := [⟨kind, 0, 3, gen, mantissa⟩] })

theorem witness_UpdateEngineTurn :
    (∀ n, (running.lane n).queue = []) ∧
    (∀ kind gen mantissa, ((waiting kind gen mantissa).lane 1).queue = ⟨kind, 0, 3, gen, mantissa⟩ :: []) ∧
    (∀ m : Fin 4, ((waiting 1 1 5).lane m).queue ≠ [] →
      ((1 : Fin 4) - (waiting 1 1 5).uePointer - 1).val ≤ (m - (waiting 1 1 5).uePointer - 1).val) ∧
    (5 < (6 : Byte).toNat ∧ (waiting 1 2 5).resolvesQuote ⟨3, 2⟩ = false) ∧
    ((waiting 1 1 5).resolvesQuote ⟨3, 1⟩ = true ∧ ((waiting 1 1 5).quote 3).lane = some 1 ∧
      ((withQuote 3 eur (waiting 1 1 5)).quote 3).lane ≠ some 1) ∧
    normalise 0 ((waiting 1 1 5).quote 3).scale 5 = some 50000 ∧
    normalise 0 ((waiting 1 1 100000).quote 3).scale 100000 = none :=
  ⟨by decide +kernel, fun _ _ _ => rfl, by decide +kernel, by decide +kernel, by decide +kernel, by decide +kernel, by decide +kernel⟩

theorem witness_LaneCommands :
    (running.takesCommand ∧ (hdr 0).dataLength = 0 ∧ running.run = .running) ∧ (1 ≤ 1 ∧ 65535 ≤ 65535) ∧ 65535 < 65536 ∧ 4 < 5 ∧
    ∀ fault, let s : State := { running with fli := { Fli.reset with bad := 7, fault := fault } }
      s.takesCommand ∧ s.run = .running ∧ s.fli.fault = fault :=
  ⟨⟨running_takes, rfl, rfl⟩, by decide, by decide, by decide, fun _ => ⟨⟨⟨rfl, rfl⟩, rfl⟩, rfl, rfl⟩⟩

/-- Lane 1 ACTIVE with its counter at `n` of 150. -/
def counting (n : Nat) (held : Bool) : State :=
  running.updLane 0 (fun l => { l with active := true, counter := n, held := held })

theorem witness_SilenceCount :
    (((counting 149 false).lane 0).active = true ∧ ((counting 149 false).lane 0).held = false ∧
      ((counting 149 false).lane 0).limit ≤ ((counting 149 false).lane 0).counter + 1) ∧
    ¬ ((counting 148 false).lane 0).limit ≤ ((counting 148 false).lane 0).counter + 1 ∧
    (running.lane 0).active = false ∧ ((counting 149 true).lane 0).held = true ∧ (running.au.get .panel).latch = none := by
  decide +kernel

/-- Story 4 is LOADED in block 9, with `k` instances on screen. -/
def stored (state : StoryState) (k : Nat) : State :=
  { withStory 4 ⟨state, 1, 1, [9], k⟩ running with ts := { (withStory 4 ⟨state, 1, 1, [9], k⟩ running).ts with
      freeBlocks := List.range 9 } }

theorem witness_LoadStory :
    (running.takesCommand ∧ ((hdr 2).dataLength ≠ 0 ∧ (hdr 2).dataLength % 2 = 0 ∧ (hdr 4096).dataLength ≤ 4096) ∧
      ¬ ((hdr 4098).dataLength ≤ 4096) ∧ ¬ ((hdr 3).dataLength % 2 = 0)) ∧
    ((4096 / 2 + 31) / 32 ≤ running.ts.freeBlocks.length ∧ (running.story 0).state = .free ∧
      ∀ j, (running.story j).state = .free → (0 : Fin 256) ≤ j) ∧
    ({ running with ts := { running.ts with freeBlocks := [] } } : State).ts.freeBlocks.length < (2 / 2 + 31) / 32 ∧
    (let s := inFlight .dataOut .loadStory 2 1 { running with ts := { running.ts with loadTarget := some ⟨255, [0]⟩ } }
     s.awaitsLast .loadStory ∧ s.ts.loadTarget = some ⟨255, [0]⟩) :=
  ⟨⟨running_takes, by decide⟩, ⟨by decide +kernel, by rw [running_story]; rfl, fun j _ => Fin.zero_le j⟩, by decide,
    ⟨⟨rfl, rfl⟩, rfl, rfl, rfl⟩, rfl⟩

theorem witness_StoryReadsBack :
    let s := stored .loaded 0
    s.takesCommand ∧ Memory.wf s.ts.text = true ∧ s.ts.freeBlocks.Nodup ∧
      (List.replicate 576 (1 : Byte)).length = (hdr 576).dataLength ∧ (hdr 576).dataLength ≠ 0 ∧
      (hdr 576).dataLength % 2 = 0 ∧ (hdr 576).dataLength ≤ 4096 ∧
      ((hdr 576).dataLength / 2 + 31) / 32 ≤ s.ts.freeBlocks.length ∧ (s.story 0).state = .free ∧
      (∀ j, (s.story j).state = .free → (0 : Fin 256) ≤ j) ∧ (4 : Fin 256) ≠ 0 ∧
      (s.story 4).length ≤ 32 * (s.story 4).blocks.length ∧ ∀ k ∈ (s.story 4).blocks, k ∉ s.ts.freeBlocks :=
  ⟨⟨⟨rfl, rfl⟩, rfl⟩, rfl, List.nodup_range, List.length_replicate, by decide, by decide, by decide, by decide, by decide +kernel,
    fun j _ => Fin.zero_le j, by decide, by decide +kernel, by decide +kernel⟩

theorem witness_DeleteStory :
    (∀ k, (stored .loaded k).takesCommand ∧ ((stored .loaded k).story 4).count = k) ∧ (hdr 0).dataLength = 0 ∧
    ((⟨4, 1⟩ : Ref).index = (4 : Fin 256).val ∧ (stored .loaded 0).resolvesStory ⟨4, 1⟩ = true ∧
      (stored .loaded 1).resolvesStory ⟨4, 1⟩ = true ∧ (stored .loaded 0).resolvesStory ⟨4, 2⟩ = false ∧
      (stored .loaded 0).ts.freeBlocks.Pairwise (· ≤ ·)) ∧
    ((stored .deleting 0).story 4).state = .deleting ∧ ((stored .deleting 0).story 4).count = 0 :=
  ⟨fun _ => ⟨⟨⟨rfl, rfl⟩, rfl⟩, rfl⟩, rfl, by decide +kernel, by decide +kernel, by decide +kernel⟩

/-- A glyph entry of code 1023 with its image in the last byte of glyph memory. -/
def lastEntry : List Byte := [3, 255, 30, 0xC0, 2, 1, 1, 0, 0x3F, 0xFF, 0xFF, 0]

def onFace (entries : List (List Byte)) (s : State) : State :=
  let t := inFlight .dataOut (.loadFace ⟨0, 256, 256, 1023, entries.length⟩) (12 * entries.length) (12 * entries.length - 1) s
  { t with gs := { t.gs with staging := entries.flatten.dropLast } }

theorem witness_Faces :
    let drawn := banded .crawl .running running
    let a : FaceArgs := ⟨0, 256, 256, 1023, 1⟩
    (running.takesCommand ∧ drawn.takesCommand ∧ (drawn.band 1).prog.drawing = true ∧
      (drawn.band 1).config = some (config .crawl) ∧ (config .crawl).face = 0 ∧ (drawn.band 1).prog ≠ .off) ∧
    (a.face ≤ 3 ∧ 1 ≤ a.lineHeight ∧ a.lineHeight ≤ 256 ∧ a.baseline ≤ a.lineHeight ∧ a.substitute ≤ 1023 ∧
      a.count ≤ 1024 ∧ (hdr 12).dataLength = 12 * a.count) ∧
    (∀ b : Fin 4, (running.band b).prog = .off) ∧
    ((onFace [lastEntry] running).awaitsLast (.loadFace a) ∧
      (onFace [lastEntry] running).gs.staging ++ [0] = [lastEntry].flatten ∧ lastEntry.length = 12) ∧
    (entryCode lastEntry = 1023 ∧ (entryGlyph lastEntry).bearingX = -64 ∧
      (entryGlyph lastEntry).offset + (entryGlyph lastEntry).width * (entryGlyph lastEntry).height = 4194304) ∧
    ¬ ([lastEntry, lastEntry].map entryCode).Nodup ∧ 3 < 4 :=
  ⟨⟨running_takes, ⟨⟨rfl, rfl⟩, rfl⟩, by decide +kernel⟩, by decide, by decide +kernel, ⟨⟨⟨rfl, rfl⟩, rfl, rfl, rfl⟩, by decide +kernel⟩,
    by decide +kernel, by decide +kernel, by decide⟩

theorem witness_GlyphImages :
    let s := inFlight .dataOut (.loadImages 4194300) 4 1 running
    (running.takesCommand ∧ (hdr 4).dataLength ≠ 0 ∧ 4194300 + (hdr 4).dataLength ≤ 4194304 ∧
      ¬ 4194301 + (hdr 4).dataLength ≤ 4194304) ∧
    (let t := withFace (banded .crawl .running running)
     t.drawingUse 0 = true ∧ tget (t.face 0).glyphs 65 = ⟨true, 30, 0, 0, 1, 1, 0⟩ ∧ (0 : Nat) < 0 + 1 ∧ (0 : Nat) < 0 + 1 * 1) ∧
    (s.run = .running ∧ s.eli.straddles = false ∧ s.eli.phase = .dataOut ∧ s.eli.command = some (.loadImages 4194300) ∧
      4194300 + s.eli.dataLength ≤ 4194304 ∧ Memory.wf s.gs.mem = true ∧ s.eli.counter + [0, 7, 8].length = s.eli.dataLength ∧
      s.eli.counter + [0, 7].length < s.eli.dataLength) ∧
    (inFlight .dataOut (.loadImages 4194300) 4 3 running).awaitsLast (.loadImages 4194300) :=
  ⟨⟨running_takes, by decide⟩, by decide +kernel, by decide +kernel, ⟨rfl, rfl⟩, rfl, rfl, rfl⟩

/-- Band 2 with `n` items in its shadow bank. -/
def listed (n : Nat) (commit : Option CommitMode) : State :=
  running.updLists 2 (fun r => { r with bankB := List.replicate n (spacer 9), commit := commit })

theorem witness_ShadowBankEdits :
    ((listed 256 none).takesCommand ∧ (hdr 0).dataLength = 0 ∧ ((listed 256 none).lists 2).commit = none ∧
      ((listed 256 (some .immediate)).lists 2).commit ≠ none) ∧
    (1 ≤ 256 ∧ 256 ≤ 256 ∧ 0 + 256 ≤ ((listed 256 none).lists 2).bankB.length ∧
      ((listed 256 none).lists 2).bankB.length < 1 + 256) ∧ ((listed 256 none).lists 2).onAirB = false ∧
    (3 < 4 ∧ (hdr 1).dataLength ≠ 0 ∧ 256 < 257) :=
  ⟨⟨⟨⟨rfl, rfl⟩, rfl⟩, rfl, rfl, by decide +kernel⟩, by decide +kernel, rfl, by decide⟩

/-- Band 2 with its shadow bank as `listed`, awaiting the last byte of the items of an edit. -/
def editing (n op pos : Nat) (entries : List (List Byte)) : State :=
  { inFlight .dataOut (.edit 2 op pos entries.length) (9 * entries.length) (9 * entries.length - 1) (listed n none) with
    editStaging := entries.flatten.dropLast }

theorem witness_EditsWithItems :
    ((1 : Nat) ≤ 1024 ∧ ((listed 254 none).takesCommand ∧ (listed 255 (some .loopEnd)).takesCommand) ∧
      (hdr 18).dataLength = 9 * 2 ∧ 254 ≤ ((listed 254 none).lists 2).shadow.length ∧
      ((listed 254 none).lists 2).shadow.length + 2 ≤ 256 ∧ 256 < ((listed 255 none).lists 2).shadow.length + 2 ∧
      252 + 2 ≤ ((listed 254 none).lists 2).shadow.length ∧ ((listed 254 none).lists 2).shadow.length < 253 + 2 ∧
      (3 < 4 ∧ 256 < 257 ∧ (hdr 17).dataLength ≠ 9 * 2)) ∧
    (let e := [itemBytes (spacer 4096), itemBytes ⟨.glyph 65535, some 1024, none⟩]
     (editing 254 0 254 e).awaitsLast (.edit 2 0 254 2) ∧ (editing 252 2 250 e).awaitsLast (.edit 2 2 250 2) ∧
     (editing 254 0 254 e).editStaging ++ [e.flatten.getLastD 0] = e.flatten ∧
     e.map itemOf = [spacer 4096, ⟨.glyph 65535, some 1024, none⟩].map some ∧
     ∀ i ∈ [spacer 4096, ⟨.glyph 65535, some 1024, none⟩], (editing 254 0 254 e).admissible i.kind = true) ∧
    (itemOf (itemBytes (spacer 4096)) ≠ none ∧ (itemBytes (spacer 4096)).length = 9 ∧ itemOf (itemBytes (spacer 4097)) = none ∧
      (editing 0 0 0 [itemBytes (spacer 1)]).admissible (.quote ⟨1, 1⟩) = false) ∧
    (let e := [itemBytes (spacer 4096), itemBytes (spacer 1)]
     (editing 255 0 255 e).awaitsLast (.edit 2 0 255 2) ∧ ((editing 255 0 255 e).lists 2).commit = none ∧
     255 ≤ ((editing 255 0 255 e).lists 2).shadow.length ∧ 256 < ((editing 255 0 255 e).lists 2).shadow.length + 2 ∧
     ((editing 0 0 1 e).lists 2).shadow.length < 1 ∧ ((editing 3 2 2 e).lists 2).shadow.length < 2 + 2 ∧
     (((editing 0 0 0 e).updLists 2 (fun r => { r with commit := some .loopEnd })).lists 2).commit ≠ none) :=
  ⟨⟨by decide, ⟨⟨⟨rfl, rfl⟩, rfl⟩, ⟨rfl, rfl⟩, rfl⟩, by decide +kernel⟩,
    ⟨⟨⟨rfl, rfl⟩, rfl, rfl, rfl⟩, ⟨⟨rfl, rfl⟩, rfl, rfl, rfl⟩, by decide +kernel⟩, by decide +kernel,
    ⟨⟨rfl, rfl⟩, rfl, rfl, rfl⟩, by decide +kernel⟩

/-- R85, R88 check 3: a kind code 5, a colour on a GLYPH, a gap of 1025, a generation of 0, and a generation on a SPACER. -/
theorem test_no_items :
    ([[5, 0, 0, 1, 0, 1, 0, 0, 0], [3, 2, 0, 1, 0, 0, 0, 0, 1], [4, 1, 0, 1, 0, 0, 4, 1, 0], [1, 0, 0, 1, 0, 0, 0, 0, 0],
      [4, 0, 0, 1, 0, 1, 0, 0, 0]] : List (List Byte)).all (fun e => (itemOf e).isNone) = true := by decide

theorem witness_ReadsBegin :
    running.takesCommand ∧ (1023 ≤ 1023 ∧ 1 ≤ 1024 ∧ 1024 ≤ 1024 ∧ 2 ≤ 2 ∧ (hdr 32768).dataLength = 32 * 1024) ∧
      ¬ ((hdr 128).dataLength = 129) := ⟨running_takes, by decide, by decide⟩

theorem witness_ReadData :
    (let s := inFlight .dataIn (.readQuotes 1023 1024 1) 32768 0 (withQuote 3 eur running)
     (s.run = .running ∧ s.eli.straddles = false ∧ s.eli.phase = .dataIn ∧ s.eli.command = some (.readQuotes 1023 1024 1) ∧
       s.eli.dataLength = 32 * 1024 ∧ s.eli.counter = 0 ∧ s.eli.latch = [] ∧ s.eli.reportNo = 0) ∧
     ∀ i symbol, (s.quote i).symbol = some symbol → symbol.length ≤ 8) ∧
    (let s := inFlight .dataIn .readEvents 129 0 running
     s.run = .running ∧ s.eli.straddles = false ∧ s.eli.phase = .dataIn ∧ s.eli.command = some .readEvents ∧ s.eli.dataLength = 129 ∧
       s.eli.counter = 0 ∧ s.eli.latch = [] ∧ s.au.editorial.pending.length ≤ 64 ∧ s.au.editorial.hold = []) ∧
    (let s := inFlight .dataIn .readEvents 129 128 (running.updMaster .editorial (fun t => { t with latch := some [] }))
     let t : State := { s with eli := { s.eli with latch := [0xFF] } }
     t.eli.counter < t.eli.dataLength ∧ t.eli.latch.length = t.eli.dataLength - t.eli.counter ∧
       t.au.editorial.latch = some []) := by
  refine ⟨⟨by decide +kernel, fun i symbol h => ?_⟩, by decide +kernel, by decide +kernel⟩
  by_cases k : i = 3
  · subst k
    rw [show (inFlight .dataIn (.readQuotes 1023 1024 1) 32768 0 (withQuote 3 eur running)).quote 3 = eur from
      withQuote_quote ..] at h
    cases h
    decide
  · have e : (inFlight .dataIn (.readQuotes 1023 1024 1) 32768 0 (withQuote 3 eur running)).quote i = running.quote i :=
      withQuote_other k ..
    rw [e, running_quote] at h
    cases h

theorem witness_ReadReports :
    (∀ (c : EdCommand) (n : Nat), let s := inFlight .dataIn c n 0 running
      s.run = .running ∧ s.eli.straddles = false ∧ s.eli.phase = .dataIn ∧ s.eli.command = some c ∧ s.eli.dataLength = n ∧ s.eli.counter = 0 ∧
        s.eli.latch = [] ∧ s.eli.reportNo = 0) ∧
    (255 ≤ 255 ∧ 1023 ≤ 1023 ∧ 256 ≤ 256 ∧ 1024 ≤ 1024 ∧ 2 ≤ 2) ∧
    ((banded .crawl .running running).band 1).config = some (config .crawl) ∧ (config .crawl).presentation = .crawl ∧
    (eur.symbol.getD []).length ≤ 8 ∧
    ((record 255).backKey < 1024 ∧ 63 < 64 ∧ (record 255).presentation < 256 ∧
      ∀ p ∈ tlist (record 255).palette, p.r < 1024 ∧ p.g < 1024 ∧ p.b < 1024) ∧
    (let s := inFlight .dataIn .readLanes 39 37 running
     s.eli.command ≠ none ∧ s.eli.counter + 1 < s.eli.dataLength ∧ EdCommand.readLanes ≠ .readEvents ∧
       ({ s with eli := { s.eli with latch := [7] } } : State).eli.latch ≠ []) :=
  ⟨fun _ _ => ⟨rfl, rfl, rfl, rfl, rfl, rfl, rfl, rfl⟩, by decide, by decide +kernel, rfl, by decide, by decide +kernel,
    by decide, by decide, by decide, by decide⟩

/-- STATUS READY with GOOD. -/
def ready (c : EdCommand) : State := running.answers (hdr 0) c .good noValues

theorem witness_StatusAndLinkReset :
    (let s := ready .linkRelease
     s.run = .running ∧ s.eli.straddles = false ∧ s.eli.phase = .statusReady ∧ s.eli.status = some ⟨.good, 0, noValues⟩ ∧
       noValues.length = 5 ∧ s.eli.command ≠ some .deviceReset ∧ 11 < 12) ∧
    (inFlight .executing (.request 0 .halt) 0 0 running).eli.phase = .executing ∧ running.eli.straddles = false ∧
    ((inFlight .dataOut .loadStory 2 1 running).run ≠ .held ∧ (inFlight .dataOut .loadStory 2 1 running).eli.phase = .dataOut) ∧
    (let s := inFlight .dataIn .readEvents 129 1 (running.updMaster .editorial (fun t => { t with latch := some [] }))
     s.eli.phase = .dataIn ∧ s.eli.command = some .readEvents ∧ s.au.editorial.latch ≠ none) ∧
    running.eli.phase ≠ .dataOut := by decide +kernel

theorem witness_PhaseErrors :
    (running.run = .running ∧ running.eli.straddles = false ∧ running.eli.phase ≠ .phaseError ∧ running.eli.phase ≠ .dataOut ∧ running.eli.phase ≠ .dataIn ∧
      running.eli.phase ≠ .executing ∧ running.eli.phase ≠ .statusReady ∧ (ready .linkRelease).eli.phase ≠ .idle ∧
      (0x05 : Byte) ∉ [(0x01 : Byte), 0x02, 0x03, 0x04, 0x0F] ∧ (0x0E : Byte) ∉ [(0x01 : Byte), 0x02, 0x03, 0x04, 0x0F]) ∧
    (let s := inFlight .dataIn .readEvents 129 1 (running.updMaster .editorial (fun t => { t with latch := some [] }))
     s.eli.phase = .dataIn ∧ s.eli.command = some .readEvents ∧ s.au.editorial.latch ≠ none) ∧
    (let s := running.answers (hdr 0) .linkRelease .lengthError noValues
     s.eli.phase = .statusReady ∧ s.eli.status.map Status.result = some .lengthError) ∧
    (inFlight .phaseError .linkRelease 0 0 running).eli.phase = .phaseError ∧
    (let s := inFlight .dataOut (.loadImages 0) 2 0 running
     s.run = .running ∧ s.eli.straddles = false ∧ s.eli.phase = .dataOut ∧ s.eli.command ≠ none ∧ ([1, 2] : List Byte) ≠ [] ∧
       s.eli.counter + ([1, 2] : List Byte).length = s.eli.dataLength ∧
       (after (.dataOutFrame [1, 2]) s).isSome = true) := by decide +kernel

theorem witness_CommandFrames :
    (4294967295 < 4294967296 ∧ (List.replicate 8 (255 : Byte)).length = 8 ∧ 65535 < 65536 ∧
      (-2147483648 : Int) ≤ -2147483648 ∧ (2147483647 : Int) < 2147483648 ∧ 3 < (4 : Byte).toNat ∧
      ([1, 2] : List Byte).length + (List.replicate 12 (0 : Byte)).length = 14) ∧ running.takesCommand ∧
    (let good : List Byte := [0x4D, 0x55, 0x23] ++ List.replicate 21 0
     good.length = 24 ∧ byteAt good 0 = 0x4D ∧ byteAt good 23 = 0 ∧ (byteAt good 2).toNat = 0x23) ∧
    (List.replicate 23 (0 : Byte)).length ≠ 24 ∧ (List.replicate 24 (0 : Byte)).length = 24 ∧
    byteAt (List.replicate 24 (0 : Byte)) 0 ≠ 0x4D ∧ 0 < (hdr 1).dataLength ∧ EdRequest.halt ≠ .configure ∧
    imagesOutside running = false :=
  ⟨by decide, running_takes, by decide, by decide, by decide, by decide, by decide, by decide, rfl⟩

theorem witness_OutputAndAttentionSettings :
    (running.takesCommand ∧ (hdr 0).dataLength = 0 ∧ running.run = .running) ∧ (1 ≤ 1 ∧ 1 < 2 ∧ 7 ≤ 7 ∧ 7 < 8) ∧
      (8, PinSelect.cleanAck) ∈ [(7, PinSelect.tally 3), (8, PinSelect.cleanAck)] ∧
      (List.replicate 16 7).length = 16 ∧ (∀ l ∈ List.replicate 16 7, l ≤ 7) ∧ ∃ l ∈ [8], 7 < l :=
  ⟨⟨running_takes, rfl, rfl⟩, by decide, by decide, by decide, by decide, by decide⟩

theorem witness_EventsLinesAndPins :
    (running.au.get .panel).level .feedRefused = 0 ∧ 0 < (running.au.get .panel).level .initDone ∧
      (running.au.get .panel).latch = none ∧
      ((running.updMaster .panel (fun t => { t with latch := some [] })).au.get .panel).latch ≠ none ∧
      (running.pin 0).function = false ∧
      (({ running with pins := Vector.replicate 4 ⟨true, .cleanAck, false⟩ } : State).pin 0).function = true := by decide +kernel

/-- Band 1 drawing, with full step 8, at a visibility. -/
def seen (state : VisState) (step : Nat) : State := (banded .crawl .running running).setVis 1 ⟨state, step⟩

theorem witness_VisibilityMoves :
    ∀ state step, ((seen state step).band 1).config = some (config .crawl) ∧ ((seen state step).band 1).prog.drawing = true ∧
      ((seen state step).vis 1).state = state ∧ ((seen state step).vis 1).step = step ∧
      (if (config .crawl).fade = 0 then 1 else (config .crawl).fade) = 8 := fun _ _ => ⟨rfl, rfl, rfl, rfl, rfl⟩

/-- The worked sequence of section 9.3, frame starts 203 and 204 and the release: the compositor fades the band that draws and
judges CLEAN ACK by what the fade left. -/
theorem test_compositor :
    let clean (step : Nat) := compositorFrameStart { seen .fadingOut step with cleanPin := true }
    ((clean 2).vis 1, (clean 2).cmp.ack, (clean 1).vis 1, (clean 1).cmp.ack) =
      (⟨.fadingOut, 1⟩, false, ⟨.hidden, 0⟩, true) ∧
    (let released := compositorFrameStart { clean 1 with cleanPin := false }
     (released.vis 1, released.vis 2, released.cmp.ack) = (⟨.fadingIn, 1⟩, ⟨.hidden, 0⟩, false)) := by decide +kernel

theorem witness_CleanAcknowledge :
    ([.compositor, .band 3, .quotes, .band 0, .feed, .band 1, .band 2] : List Block).Perm allBlocks ∧
    (let s : State := { seen .hidden 0 with cmp := { (seen .hidden 0).cmp with edFlag := true, sampled := true, ack := true } }
     s.cmp.ack = true ∧ s.cleanRequested = true ∧
     (∀ b, (s.band b).prog.drawing = true → s.vis b = ⟨.hidden, 0⟩) ∧ ∀ b, (s.vis b).state = .hidden → (s.vis b).step = 0) ∧
    running.cleanRequested = false := by decide +kernel

theorem witness_RequestsQueued :
    (∀ n, ((running.updBand 1 (fun d => { d with queue := List.replicate n ⟨.panel, .halt⟩ })).band 1).queue.length = n) ∧
    (running.takesCommand ∧ (hdr 0).dataLength = 0 ∧ (hdr 96).dataLength = 96 ∧ (List.replicate 96 (0 : Byte)).length = 96 ∧
      running.run = .running ∧ (3 < 4 ∧ (hdr 95).dataLength ≠ 96 ∧ (hdr 1).dataLength ≠ 0 ∧ EdRequest.halt ≠ .configure)) ∧
    (inFlight .dataOut (.request 1 .configure) 96 95 running).awaitsLast (.request 1 .configure) ∧
    ((inFlight .executing (.request 0 .halt) 0 0 running).eli.phase = .executing ∧
      (inFlight .executing (.request 0 .halt) 0 0 running).eli.ticket = 0) ∧ running.eli.phase ≠ .executing ∧
    Result.busy ≠ .good ∧ (judgeRequest false 1 .halt running).1.1 ≠ .good ∧
    (∀ p, let t := takeQueue false 1 (banded p .running running)
      (t.band 1).prog.drawing = true ∧ (t.band 1).config = some (config p) ∧ (config p).presentation = p) ∧
    ((takeQueue false 1 running).band 1).prog.drawing = false :=
  ⟨fun n => List.length_replicate, ⟨running_takes, rfl, rfl, by decide, rfl, by decide⟩, ⟨⟨rfl, rfl⟩, rfl, rfl, rfl⟩, ⟨rfl, rfl⟩, by decide,
    by decide, by decide +kernel, fun p => by cases p <;> exact ⟨rfl, rfl, rfl⟩, by decide +kernel⟩

theorem witness_ConfigureAndRelease :
    (let s := withFace running
     s.run = .running ∧ (s.band 1).prog.drawing = false ∧ (s.band 1).prog = .off ∧ (s.lists 1).commit = none ∧
     1064 + 16 ≤ s.lines ∧ ¬ 1065 + 16 ≤ s.lines ∧ (s.face 0).loaded = true ∧ 15 < 16 ∧ ¬ 16 < 16) ∧
    ((banded .crawl .ready (withFace running)).band 1).prog = .ready ∧
    ((banded .crawl .running (withFace running)).band 1).prog.drawing = true ∧
    ((banded .crawl .ready (withFace running)).band 1).config = some (config .crawl) ∧
    (115 < (config .crawl).yOrigin + (config .crawl).height ∧ (config .crawl).yOrigin < 115 + 16) ∧
    ¬ (116 < (config .crawl).yOrigin + (config .crawl).height) := by decide +kernel

theorem witness_TakeOnAndOff :
    (∀ p, ((banded .crawl p running).band 1).prog = p ∧ ((banded .crawl p running).band 1).config = some (config .crawl) ∧
      (banded .crawl p running).run = .running ∧ ((banded .crawl p running).lists 1).commit = none) ∧
    (let s := (withQuote 3 { eur with state := .retiring, count := 1 } (stored .deleting 1)).updBand 1 (fun d =>
       { d with prog := .running, config := some (config .crawl), window := [quoteInst 3 1, ⟨.story ⟨4, 1⟩, 0, 30, 0, none, 0, false⟩] })
     (s.quote 3).state = .retiring ∧ 0 < quoteInstances 3 (s.band 1).window ∧
     (s.quote 3).count = quoteInstances 3 (s.band 1).window ∧ (s.story 4).state = .deleting ∧
     (s.story 4).count = storyInstances 4 (s.band 1).window) ∧
    (let s := (banded .flip .running running).updLists 1 (fun r => { r with commit := some .loopEnd })
     s.run = .running ∧ (s.band 1).prog.drawing = true ∧ (s.lists 1).commit ≠ none) :=
  ⟨fun _ => ⟨rfl, rfl, rfl, rfl⟩, by decide +kernel, by decide +kernel⟩

theorem witness_MotionAndCommit :
    ((banded .crawl .ready running).band 1).prog ≠ .off ∧ (running.band 1).prog = .off ∧
      ((banded .crawl .running running).band 1).prog.drawing = true ∧ (running.band 1).prog.drawing = false ∧
      running.run = .running ∧ (∀ k, ((running.updBand 1 (fun d => { d with saved := some k })).band 1).saved = some k) ∧
      (running.band 1).saved = none :=
  ⟨by decide +kernel, by decide +kernel, by decide +kernel, by decide +kernel, rfl, fun _ => rfl, by decide +kernel⟩

/-- Band 1 crawling in program state `p` with `n` NEXT breaks queued, and story 4 LOADED. -/
def breaking (p : Prog) (n : Nat) : State :=
  (banded .crawl p (stored .loaded 0)).updBand 1 (fun d => { d with breaks := List.replicate n ⟨⟨5, 1⟩, .next, 1⟩ })

theorem witness_Breaks :
    (∀ p n, (breaking p n).run = .running ∧ ((breaking p n).band 1).prog = p ∧
      ((breaking p n).band 1).presentation ≠ some .flip ∧ ((breaking p n).band 1).breaks.length = n ∧
      ((breaking p n).band 1).breaks = [] ++ List.replicate n ⟨⟨5, 1⟩, .next, 1⟩) ∧
    ((breaking .running 3).resolvesStory ⟨4, 1⟩ = true ∧ (breaking .running 3).resolvesStory ⟨4, 0⟩ = false) ∧
    ((banded .flip .running running).band 1).presentation = some .flip :=
  ⟨fun _ _ => ⟨rfl, rfl, by simp [Band.presentation, breaking, banded, State.band, State.updBand, config],
      List.length_replicate, rfl⟩, by decide +kernel, by decide +kernel⟩

theorem witness_DrainAndClearingEnd :
    (∀ p, ((banded .crawl p running).band 1).prog = p ∧ ((banded .crawl p running).band 1).window = [] ∧
      ((banded .crawl p running).lists 1).commit = none ∧ (banded .crawl p running).run = .running) ∧
    ((listed 0 (some .loopEnd)).lists 2).commit ≠ none := ⟨fun _ => ⟨rfl, rfl, rfl, rfl⟩, by decide +kernel⟩

/-- Band 1 in FLIP with a page state and a window. -/
def paged (p : Prog) (page : Page) (w : List Inst) : State :=
  (banded .flip p running).updBand 1 (fun d => { d with page := page, window := w })

theorem witness_FlipTransitions :
    (∀ p page w, ((paged p page w).band 1).config = some (config .flip) ∧ ((paged p page w).band 1).prog = p ∧
      ((paged p page w).band 1).halted = false ∧ ((paged p page w).band 1).page = page ∧ ((paged p page w).band 1).window = w) ∧
    (config .flip).presentation = .flip ∧ (config .flip).rollFrames = 5 ∧ (config .flip).flipTransition = .roll ∧
    (Prog.running.drawing = true ∧ Prog.draining.drawing = true ∧ [spacerInst 0 10].length ≤ 1 ∧ 4 < 5 ∧ 5 ≤ 5) ∧
    ((running.lists 1).onAir = [] ∧ (crawlBand.band 1).cursor < (crawlBand.lists 1).onAir.length) :=
  ⟨fun _ _ _ => ⟨rfl, rfl, rfl, rfl, rfl⟩, rfl, rfl, rfl, by decide, by decide +kernel⟩

/-- Band 1 has reached item 1 of two items; a break stopped it there, and an IMMEDIATE commit has come since. -/
def breakIn (p : Prog) : State :=
  ((breaking p 1).updBand 1 (fun d => { d with saved := some 1, cursor := 1 })).updLists 1 (fun r =>
    { r with bankA := [spacer 304, spacer 50], commit := some .immediate })

theorem witness_AdmissionFillsTheBand :
    ((crawlBand.band 1).prog = .running ∧ (crawlBand.band 1).cursor < (crawlBand.lists 1).onAir.length ∧
      (crawlBand.lists 2).onAir = [] ∧ (crawlBand.band 1).window.length ≤ 64) ∧
    (∀ p, ((breakIn p).band 1).prog = p ∧ ((breakIn p).band 1).breaks ≠ [] ∧ ((breakIn p).band 1).saved = some 1 ∧
      1 < ((breakIn p).lists 1).onAir.length ∧ ((breakIn p).lists 1).commit = some .immediate) ∧
    Prog.clearing ≠ .running ∧ Prog.clearing ≠ .breaking :=
  ⟨by decide +kernel, fun p => by cases p <;> decide +kernel, by decide, by decide⟩

/-- Code 65 on screen at `x`, thirty pixels wide. -/
def glyphInst (x : Int) : Inst := ⟨.glyph 65, x, 30, 32, none, 0, false⟩

/-- The image of code 65 is one byte of full coverage. -/
def inked : State := { withFace running with gs := { (withFace running).gs with mem := [(0, 255)] } }

/-- Two images of two columns that meet: codes 65 and 70 of story 4, one pixel apart; 70 is missing and drawn by the substitute,
66. -/
def overlapping : State :=
  let s := withStory 4 ⟨.loaded, 1, 2, [9], 1⟩ running
  let t := s.setFace 0 { plainFace with
    glyphs := tset (tset (Vector.replicate 1024 Glyph.absent) 65 ⟨true, 1, 0, 0, 2, 1, 0⟩) 66 ⟨true, 1, 0, 0, 2, 1, 0⟩ }
  { t with gs := { t.gs with mem := [(0, 200), (1, 100)] }, ts := { t.ts with text := [(577, 65), (579, 70)] } }

def storyInst : Inst := ⟨.story ⟨4, 1⟩, 0, 2, 32, some 3, 0, false⟩

/-- R82, R157: where the two images meet the larger coverage stands; without an override the text is in entry 1. -/
theorem test_overlap :
    overlapping.coverage (config .crawl) storyInst 1 12 = (200, 3) ∧
    overlapping.coverage (config .crawl) { storyInst with colour := none } 0 12 = (200, 1) ∧
    (overlapping.coverage (config .crawl) storyInst 2 12).1 = 0 := by decide +kernel

theorem witness_Pixels :
    (running.width ≤ 1920 ∧ running.lines ≤ 1080 ∧ 1919 < running.width ∧ 1079 < running.lines ∧
      State.reset.run = .initialising ∧ 1919 < State.reset.width ∧ 1079 < State.reset.lines) ∧
    ((let s := (banded .crawl .running (withFace running)).updBand 1 (fun d => { d with window := [glyphInst 0] })
      ((s.band 1).prog.drawing = true ∧ (s.band 1).config = some (config .crawl) ∧ (config .crawl).yOrigin ≤ 115 ∧
        115 < (config .crawl).yOrigin + (config .crawl).height ∧ ¬ 116 < (config .crawl).yOrigin + (config .crawl).height) ∧
      (s.band 0).prog.drawing = false ∧ (s.vis 1).step = 0) ∧
     ((banded .crawl .running running).windowCoverage (config .crawl) [] 5 3).1 = 0 ∧
     (inked.windowCoverage (config .crawl) [glyphInst 0] 0 12) = (255, 1)) ∧
    ((glyphInst 512).x / 256 ≤ 2 ∧ 2 < (glyphInst 512).x / 256 + ((glyphInst 512).slot : Int) ∧
      ¬ 32 < (glyphInst 512).x / 256 + ((glyphInst 512).slot : Int)) ∧
    ((config .crawl).smooth = true ∧ (((glyphInst 255).x % 256) / 16).toNat = 15 ∧ (((glyphInst 15).x % 256) / 16).toNat = 0 ∧
      ((glyphInst 15).slot : Int) ≤ 30) ∧
    ((glyphInst 0).kind = .glyph (65 : Fin 1024).val ∧
      tget (inked.face (config .crawl).face).glyphs 65 = ⟨true, 30, 0, 0, 1, 1, 0⟩ ∧
      (0 : Int) ≤ 12 - ((config .crawl).baseline : Int) ∧ (12 : Int) - (config .crawl).baseline < 1 ∧
      ¬ (0 : Int) ≤ 11 - ((config .crawl).baseline : Int)) ∧
    ((quoteInst 3 1).kind = .quote ⟨(3 : Fin 1024).val, 1⟩ ∧ storyInst.kind = .story ⟨(4 : Fin 256).val, 1⟩ ∧
      storyInst.colour = some (3 : Fin 10).val ∧ (spacerInst 0 10).kind = .spacer ∧ (0 : Int) ≤ 1 ∧ (1 : Int) < storyInst.slot) ∧
    overlapping.instGlyphs (config .crawl) storyInst =
      [⟨0, ⟨true, 1, 0, 0, 2, 1, 0⟩, 3⟩] ++ ⟨1, ⟨true, 1, 0, 0, 2, 1, 0⟩, 3⟩ :: [] ∧
    ((tget (overlapping.face 0).glyphs 70).present = false ∧ (tget (overlapping.face 0).glyphs 66).present = true ∧
      (overlapping.face 0).substitute = (66 : Fin 1024).val ∧ (tget (inked.face 0).glyphs 66).present = false ∧
      (inked.face 0).substitute = 66) := by decide +kernel

theorem witness_PanelWrites :
    (running.run = .running ∧ panelArguments 0x01 = some [0, 1].length ∧ panelArguments 0x33 = none ∧ panelArguments 0x06 = some 2) ∧
    (byteOf (2 * (0x58 + running.straps.panelAddr.val)) = 0xB0 ∧ (0xB2 : Byte) ≠ 0xB0 ∧ (0xB2 : Byte) ≠ 0xB0 + 1 ∧
      (0xB2 : Byte) ≠ 0) ∧ 3 < (4 : Byte).toNat ∧ 1 < (2 : Byte).toNat ∧ [5].length < 2 ∧
    ((0x30 : Byte), [1].length) ∈ [((0x20 : Byte), 1), (0x30, 1), (0x31, 0), (0x32, 0)] ∧
    (0x21 : Byte) ∉ [(0x20 : Byte), 0x30, 0x31, 0x32] := by decide +kernel

theorem witness_PanelStatusReads :
    (({ running with pbi := ⟨.address, [], [], []⟩ } : State).pbi.transfer = .address ∧ 7 < 8 ∧ 8 ≤ 8) ∧
    (let s : State := { running with pbi := ⟨.read 8, List.replicate 8 0, [], []⟩ }
     s.run = .running ∧ s.pbi.transfer = .read 8) ∧
    (let s : State := { running.updMaster .panel (fun t => { t with latch := some [] }) with
       pbi := ⟨.read 7, List.replicate 8 0, [], []⟩ }
     s.run = .running ∧ s.pbi.transfer = .read 7 ∧ s.pbi.block.length = 8 ∧ s.au.panel.latch = some []) := by decide +kernel

/-- A step that an invariant goes through, for the statements about every step. -/
def advancing (s : State) : State := s.withPending [.freeRunPeriod]

/-- Story 4 is DELETING in block 0 with no instance left; every other block is free. -/
def pooled : State :=
  { withStory 4 ⟨.deleting, 2, 32, [0], 0⟩ running with ts := { (withStory 4 ⟨.deleting, 2, 32, [0], 0⟩ running).ts with
      freeBlocks := List.range' 1 4095 } }

theorem pooled_story {i : Fin 256} (h : i ≠ 4) : pooled.story i = Story.free 0 :=
  (tget_tupd_ne _ (Ne.symm h)).trans (running_story i)

theorem pooled_poolOk : (pooled.withPending [.deletingStoryFreed 4]).poolOk := by
  refine ⟨⟨List.pairwise_lt_range' .., fun k h => ?_⟩, fun i => ?_, ?_, fun i => ?_, fun t h => (by cases h), fun h => (by cases h)⟩
  · have : k < 1 + 4095 := (List.mem_range'_1.mp h).2
    exact this
  · show (pooled.story i).blocks.Nodup ∧ (∀ k ∈ (pooled.story i).blocks, k < 4096 ∧ k ∉ List.range' 1 4095) ∧
      ∀ j, j ≠ i → ∀ k ∈ (pooled.story i).blocks, k ∉ (pooled.story j).blocks
    by_cases e : i = 4
    · subst e
      refine ⟨by decide +kernel, fun k h => ?_, fun j n k _ h => ?_⟩
      · obtain rfl : k = 0 := List.mem_singleton.mp h
        exact ⟨by decide, fun h => absurd (List.mem_range'_1.mp h).1 (by decide)⟩
      · rw [pooled_story n] at h
        cases h
    · rw [pooled_story e]
      exact ⟨List.nodup_nil, fun k h => (by cases h), fun _ _ k h => (by cases h)⟩
  · have free : (pooled.withPending [.deletingStoryFreed 4]).ts.freeBlocks.length = 4095 := List.length_range'
    have held : ((List.finRange 256).map (fun i =>
      ((pooled.withPending [.deletingStoryFreed 4]).story i).blocks.length)).sum = 1 := by decide +kernel
    rw [free, held]
  · show (pooled.story i).blocks.length = ((pooled.story i).length + 31) / 32 ∧ ((pooled.story i).state = .free → (pooled.story i).length = 0)
    by_cases e : i = 4
    · subst e
      decide +kernel
    · rw [pooled_story e]
      exact ⟨rfl, fun _ => rfl⟩

theorem witness_EveryStepKeepsStores :
    ((running.withPending [.cleanRequest true]).memoryOk ∧ (running.withPending [.cleanRequest true]).symbolsOk ∧
      ∃ t, step (running.withPending [.cleanRequest true]) = .next t) ∧
    (pooled.withPending [.deletingStoryFreed 4]).poolOk ∧ ∃ t, step (pooled.withPending [.deletingStoryFreed 4]) = .next t :=
  ⟨⟨⟨rfl, rfl⟩, fun i _ h => (by rw [show (running.withPending [.cleanRequest true]).quote i = _ from running_quote i] at h; cases h),
    _, rfl⟩, pooled_poolOk, _, rfl⟩

/-- Record 3 is LIVE with one instance, in band 1. -/
def showing : State :=
  (withQuote 3 { eur with count := 1 } running).updBand 1 (fun d =>
    { d with prog := .running, config := some (config .crawl), speed := 512, window := [quoteInst 3 1] })

theorem showing_quote {i : Fin 1024} (h : i ≠ 3) : showing.quote i = Quote.free 0 :=
  (tget_tupd_ne _ (Ne.symm h)).trans (running_quote i)

theorem witness_EveryStepKeepsCounts :
    (advancing showing).quoteCountsOk ∧ (advancing showing).storyCountsOk ∧ ∃ t, step (advancing showing) = .next t := by
  refine ⟨fun i => ?_, ⟨fun i => ?_, fun t h => (by cases h)⟩, _, rfl⟩
  · by_cases h : i = 3
    · subst h
      decide +kernel
    · rw [show (advancing showing).quote i = _ from showing_quote h]
      have k : ¬ (3 : Nat) = i.val := fun e => h (Fin.ext e.symm)
      have z : quoteInstances i.val [quoteInst 3 1] = 0 := by simp [quoteInstances, quoteInst, k]
      have e : (advancing showing).sumBands (fun d => quoteInstances i.val d.window) =
          0 + quoteInstances i.val [quoteInst 3 1] + 0 + 0 := rfl
      rw [e, z]
      exact ⟨rfl, fun _ => rfl⟩
  · rw [show (advancing showing).story i = _ from running_story i]
    exact ⟨rfl, fun _ => rfl⟩

theorem witness_EveryStepKeepsQueues :
    (advancing (queued 512)).queuesOk ∧ ∃ t, step (advancing (queued 512)) = .next t :=
  ⟨by unfold State.queuesOk; decide +kernel, _, rfl⟩

theorem witness_EveryStepKeepsWindows :
    ((advancing showing).windowsOk ∧ ∃ t, step (advancing showing) = .next t) ∧
    ((breakIn .clearing).withPending [.clearingEnd 1]).ordersOk ∧
    ∃ t, step ((breakIn .clearing).withPending [.clearingEnd 1]) = .next t := by
  refine ⟨⟨fun b => ?_, _, rfl⟩, fun b => ?_, _, rfl⟩
  · obtain rfl | h := eq_or_ne b 1
    · exact ⟨by decide +kernel, fun h => (by cases h), fun h => (by cases h)⟩
    · rw [show (advancing showing).band b = Band.reset from (tget_tupd_ne _ (Ne.symm h)).trans (tget_replicate ..)]
      exact ⟨by decide, fun _ => ⟨rfl, rfl⟩, fun h => (by cases h)⟩
  · obtain rfl | h := eq_or_ne b 1
    · unfold Band.orderOk
      decide +kernel
    · have e : ((breakIn .clearing).withPending [.clearingEnd 1]).band b = Band.reset :=
        (tget_tupd_ne _ (Ne.symm h)).trans ((tget_tupd_ne _ (Ne.symm h)).trans ((tget_tupd_ne _ (Ne.symm h)).trans (tget_replicate ..)))
      have k : ((breakIn .clearing).withPending [.clearingEnd 1]).lists b = RunLists.reset :=
        (tget_tupd_ne _ (Ne.symm h)).trans (tget_replicate ..)
      rw [e, k]
      unfold Band.orderOk
      decide

theorem witness_EveryStepKeepsLinesAndSpeeds :
    (advancing showing).linesOk ∧ (advancing showing).speedsOk ∧ ∃ t, step (advancing showing) = .next t := by
  have other : ∀ b, b ≠ 1 → (advancing showing).band b = Band.reset := fun b h =>
    (tget_tupd_ne _ (Ne.symm h)).trans (tget_replicate ..)
  refine ⟨⟨fun b c p h => ?_, fun b b' c c' n p p' _ _ => ?_⟩, fun b => ?_, _, rfl⟩
  · obtain rfl | k := eq_or_ne b 1
    · cases h
      decide +kernel
    · exact absurd (by rw [other b k]; rfl) p
  · obtain rfl | k := eq_or_ne b 1
    · exact absurd (by rw [other b' (Ne.symm n)]; rfl) p'
    · exact absurd (by rw [other b k]; rfl) p
  · obtain rfl | k := eq_or_ne b 1
    · refine ⟨by decide +kernel, fun h => (by cases h), fun c h => ?_⟩
      cases h
      decide +kernel
    · rw [other b k]
      exact ⟨by decide, fun _ => rfl, fun _ h => by cases h⟩

theorem witness_EveryStepKeepsAttention :
    (advancing (running.updMaster .panel (fun t => { t with pending := [⟨.timing, .none⟩], latch := some [], hold := [⟨.timing, .none⟩] }))).attentionOk ∧
      ∃ t, step (advancing (running.updMaster .panel (fun t => { t with pending := [⟨.timing, .none⟩], latch := some [], hold := [⟨.timing, .none⟩] }))) = .next t :=
  ⟨fun m => by cases m <;> exact ⟨by decide +kernel, by decide +kernel, fun h => (by cases h <;> rfl)⟩, _, rfl⟩

theorem witness_NoStepStops :
    (advancing (inFlight .dataOut (.loadImages 4194300) 4 3 running)).linkOk ∧
      (advancing (inFlight .dataOut (.loadImages 4194300) 4 3 running)).imagesOk :=
  ⟨⟨⟨fun _ => ⟨rfl, by decide⟩, fun h => (by cases h), fun h => (by cases h), by decide⟩, fun h => absurd rfl h⟩,
    fun o _ h => by cases h; decide⟩

end Sys2Proof.Tests
end

/-! SUPPORT. What a step can do to the quote records, the text store, the glyph memory and the windows, said once: `Change` lists
the single changes, `apart_*` and `changes_*` give one lemma an operation, and `changes_of_step` says that every step is a chain
of changes. An invariant of these parts of the state is then one lemma, with one case for each kind of change. -/

namespace Sys2Proof.Machine

/-! ### What a step can do to the records, the stores and the windows -/

/-- R69: a LOAD STORY in its data phase has a target with as many blocks as its data needs. -/
def State.loadOk (s : State) : Prop :=
  s.eli.phase = .dataOut → s.eli.command = some .loadStory →
    ∃ t, s.ts.loadTarget = some t ∧ t.blocks.length = (s.eli.dataLength / 2 + 31) / 32

theorem State.loadOk_of_phase {s : State} (h : s.eli.phase ≠ .dataOut) : s.loadOk := fun k => absurd k h

/-- The change from `s` to `t` lies apart from the quote records, the text store, the glyph memory and what the windows show. -/
structure State.Apart (s t : State) : Prop where
  quotes : t.quotes = s.quotes
  ts : t.ts = s.ts
  mem : t.gs.mem = s.gs.mem
  kinds : ∀ b, (t.band b).window.map Inst.kind = (s.band b).window.map Inst.kind
  load : s.loadOk → t.loadOk

/-- What becomes of a quote record by any change but its definition and the counting of its instances: it does not become
LIVE, and keeps its symbol while it is; it keeps its count, and becomes FREE with a count of 0 alone. -/
structure Quote.Kept (q q' : Quote) : Prop where
  live : q'.state = .live → q.state = .live ∧ q'.symbol = q.symbol
  count : q'.count = q.count
  free : q'.state = .free → q.state = .free ∨ q.count = 0

/-- R117, R132: what a window entry refers to resolves. -/
def State.refers (s : State) : InstKind → Prop
  | .quote r => s.resolvesQuote r = true
  | .story r => s.resolvesStory r = true
  | .glyph _ => True
  | .spacer => True

/-- The values that each reset gives the quote records, the text store, the windows and the editorial link. -/
structure State.Cleared (s t : State) : Prop where
  quotes : t.quotes = Vector.replicate 1024 (Quote.free 0)
  ts : t.ts = TextStore.reset [] ∨ t.ts = TextStore.reset s.ts.text
  mem : t.gs.mem = [] ∨ t.gs.mem = s.gs.mem
  bands : t.bands = Vector.replicate 4 Band.reset
  phase : t.eli.phase ≠ .dataOut

/-- One change of the quote records, the text store, the glyph memory and the windows. -/
inductive Change : State → State → Prop
  | apart {s t : State} (h : s.Apart t) : Change s t
  | quotes {s : State} (v : Vector Quote 1024) (h : ∀ i, (s.quote i).Kept (tget v i)) : Change s { s with quotes := v }
  | define {s : State} (i : Fin 1024) (q : Quote) (free : (s.quote i).state = .free) (count : q.count = 0)
      (live : q.state = .live) (fresh : ∀ j, (s.quote j).state = .live → (s.quote j).symbol ≠ q.symbol) :
      Change s (s.updQuote i (fun _ => q))
  | create {s : State} (b : Fin 4) (x : Inst) (h : s.refers x.kind) : Change s (addInstance b x s)
  | remove {s : State} (b : Fin 4) (n : Nat) : Change s (removeFront b n s)
  | freeStory {s : State} (i : Fin 256) : Change s (freeStoryIfGone i s)
  | deleteStory {s : State} (i : Fin 256) (h : (s.story i).state = .loaded) :
      Change s (s.updStory i (fun st => { st with state := .deleting, gen := nextGen st.gen }))
  | designate {s : State} (i : Fin 256) (n : Nat) (free : (s.story i).state = .free) (enough : n ≤ s.ts.freeBlocks.length)
      (phase : s.eli.phase ≠ .dataOut) :
      Change s { s with ts := { s.ts with loadTarget := some ⟨i, s.ts.freeBlocks.take n⟩ } }
  | complete {s : State} (st : Status) (phase : s.eli.phase = .dataOut) (command : s.eli.command = some .loadStory) :
      Change s (finish st (completeStory s.eli.dataLength s).2)
  | drop {s : State} (f : Eli → Eli) (phase : (f s.eli).phase ≠ .dataOut) : Change s ((dropData s).updEli f)
  | writeText {s : State} (a : Nat) (b : Byte) :
      Change s { s with ts := { s.ts with text := Memory.write s.ts.text a b } }
  | writeImage {s : State} (a : Nat) (b : Byte) : Change s (writeImageByte a b s)
  | clear {s t : State} (h : s.Cleared t) : Change s t

/-- Several changes, one after another. -/
def Changes (s t : State) : Prop := Relation.ReflTransGen Change s t

theorem Changes.refl (s : State) : Changes s s := Relation.ReflTransGen.refl

theorem Changes.trans {s t u : State} (h : Changes s t) (k : Changes t u) : Changes s u := Relation.ReflTransGen.trans h k

theorem Changes.one {s t : State} (h : Change s t) : Changes s t := Relation.ReflTransGen.single h

theorem Changes.apart {s t : State} (h : s.Apart t) : Changes s t := Changes.one (Change.apart h)

theorem Changes.ite {c : Prop} [Decidable c] {s t u : State} (h : c → Changes s t) (k : ¬c → Changes s u) :
    Changes s (if c then t else u) := by
  split
  · exact h ‹_›
  · exact k ‹_›

/-! ### Changes apart -/

theorem State.Apart.of_eq {s t : State} (quotes : t.quotes = s.quotes) (ts : t.ts = s.ts) (mem : t.gs.mem = s.gs.mem)
    (bands : t.bands = s.bands) (eli : t.eli = s.eli) : s.Apart t where
  quotes := quotes
  ts := ts
  mem := mem
  kinds b := by unfold State.band; rw [bands]
  load h := by unfold State.loadOk; rw [eli, ts]; exact h

/-- A change of the editorial link apart from its phase, its command and its data length. -/
theorem State.Apart.of_link {s t : State} (quotes : t.quotes = s.quotes) (ts : t.ts = s.ts) (mem : t.gs.mem = s.gs.mem)
    (bands : t.bands = s.bands) (phase : t.eli.phase = s.eli.phase) (command : t.eli.command = s.eli.command)
    (length : t.eli.dataLength = s.eli.dataLength) : s.Apart t where
  quotes := quotes
  ts := ts
  mem := mem
  kinds b := by unfold State.band; rw [bands]
  load h := by unfold State.loadOk; rw [phase, command, length, ts]; exact h

/-- A change of the editorial link that leaves it outside a data phase towards the device. -/
theorem State.Apart.of_phase {s t : State} (quotes : t.quotes = s.quotes) (ts : t.ts = s.ts) (mem : t.gs.mem = s.gs.mem)
    (bands : t.bands = s.bands) (phase : t.eli.phase ≠ .dataOut) : s.Apart t where
  quotes := quotes
  ts := ts
  mem := mem
  kinds b := by unfold State.band; rw [bands]
  load _ := State.loadOk_of_phase phase

theorem State.Apart.refl (s : State) : s.Apart s := .of_eq rfl rfl rfl rfl rfl

theorem State.Apart.trans {s t u : State} (h : s.Apart t) (k : t.Apart u) : s.Apart u where
  quotes := k.quotes.trans h.quotes
  ts := k.ts.trans h.ts
  mem := k.mem.trans h.mem
  kinds b := (k.kinds b).trans (h.kinds b)
  load l := k.load (h.load l)

theorem State.Apart.ite {c : Prop} [Decidable c] {s t u : State} (h : s.Apart t) (k : s.Apart u) :
    s.Apart (if c then t else u) := by
  split
  · exact h
  · exact k

theorem apart_raise (s : State) (k : EventKind) (src : EventSource) : s.Apart (s.raise k src) :=
  .of_eq rfl rfl rfl rfl rfl

theorem apart_updMaster (s : State) (m : Master) (f : MasterSet → MasterSet) : s.Apart (s.updMaster m f) :=
  .of_eq rfl rfl rfl rfl rfl

theorem apart_updLane (s : State) (n : Fin 4) (f : Lane → Lane) : s.Apart (s.updLane n f) := .of_eq rfl rfl rfl rfl rfl

theorem apart_updLists (s : State) (b : Fin 4) (f : RunLists → RunLists) : s.Apart (s.updLists b f) :=
  .of_eq rfl rfl rfl rfl rfl

theorem apart_setVis (s : State) (b : Fin 4) (v : Visibility) : s.Apart (s.setVis b v) := .of_eq rfl rfl rfl rfl rfl

theorem apart_updPbi (s : State) (f : Pbi → Pbi) : s.Apart (s.updPbi f) := .of_eq rfl rfl rfl rfl rfl

theorem apart_fli (s : State) (f : Fli) : s.Apart { s with fli := f } := .of_eq rfl rfl rfl rfl rfl

theorem apart_bumpFree (s : State) : s.Apart s.bumpFree := .of_eq rfl rfl rfl rfl rfl

/-- A band whose window still shows the same. -/
theorem apart_updBand (s : State) (b : Fin 4) (f : Band → Band)
    (h : (f (s.band b)).window.map Inst.kind = (s.band b).window.map Inst.kind := by rfl) : s.Apart (s.updBand b f) where
  quotes := rfl
  ts := rfl
  mem := rfl
  kinds c := by
    rw [State.updBand_band]
    split
    · next e => rw [← e]; exact h
    · rfl
  load := id

/-! ### Banks and program states -/

theorem apart_swapBanks (b : Fin 4) (s : State) : s.Apart (swapBanks b s) :=
  ((apart_updLists s b _).trans (apart_updBand _ b _)).trans (apart_raise ..)

theorem apart_swapIf (p : CommitMode → Bool) (b : Fin 4) (s : State) : s.Apart (swapIf p b s) :=
  .ite (apart_swapBanks b s) (.refl s)

theorem apart_changeProg (b : Fin 4) (p : Prog) (s : State) : s.Apart (changeProg b p s) :=
  (apart_updBand s b _).trans (apart_raise ..)

theorem apart_enterReady (b : Fin 4) (s : State) : s.Apart (enterReady b s) :=
  (((apart_updBand s b _).trans (apart_setVis ..)).trans (apart_changeProg ..)).trans (apart_swapIf ..)

theorem apart_takeCommit (b : Fin 4) (m : CommitMode) (s : State) : s.Apart (takeCommit b m s) :=
  .ite (apart_updLists ..) (apart_swapBanks b s)

theorem apart_advanceCursor (b : Fin 4) (s : State) : s.Apart (advanceCursor b s) :=
  .ite (((apart_updBand s b _).trans (apart_raise ..)).trans (apart_swapIf ..)) (apart_updBand s b _)

/-! ### A CRAWL band -/

/-- What resolves is not changed by a change apart. -/
theorem State.Apart.refers {s t : State} (h : s.Apart t) (k : InstKind) : t.refers k ↔ s.refers k := by
  have q : ∀ r, t.resolvesQuote r = s.resolvesQuote r := fun r => by
    unfold State.resolvesQuote State.quoteAt State.quote
    rw [h.quotes]
  have st : ∀ r, t.resolvesStory r = s.resolvesStory r := fun r => by
    unfold State.resolvesStory State.storyAt State.story
    rw [h.ts]
  cases k <;> simp [State.refers, q, st]

/-- R117: an admissible item makes a window entry whose reference resolves. -/
theorem refers_toInst {s : State} {k : ItemKind} (h : s.admissible k = true) : s.refers k.toInst := by
  cases k with
  | quote r => exact h
  | story r => exact h
  | glyph c => trivial
  | spacer w => trivial

theorem changes_admitInst {b : Fin 4} {x : Inst} {s : State} (h : s.refers x.kind) : Changes s (admitInst b x s) :=
  have k : s.Apart (s.updBand b (fun d => { d with deferral := false })) := apart_updBand s b _
  (Changes.apart k).trans (Changes.one (Change.create b x ((k.refers _).mpr h)))

theorem apart_deferAdmission (b : Fin 4) (s : State) : s.Apart (deferAdmission b s) :=
  .ite (.refl s) ((apart_updBand s b _).trans (apart_raise ..))

theorem apart_endBreaks (b : Fin 4) (s : State) : s.Apart (endBreaks b s) :=
  .ite ((State.Apart.ite ((apart_updBand s b _).trans (apart_changeProg ..)) (.refl s)).trans (apart_raise ..)) (.refl s)

theorem changes_considerBreak (c : BandConfig) (b : Fin 4) (e : BreakEntry) (rest : List BreakEntry) (s : State) :
    Changes s (considerBreak c b e rest s) := by
  unfold considerBreak
  refine Changes.trans (.ite (fun h => ?_) (fun _ => .apart ((apart_updBand s b _).trans (apart_raise ..))))
    (.apart (apart_endBreaks ..))
  exact Changes.trans
    (changes_admitInst (x := breakInstance c e (s.placeX b) (s.slotOf c (.story e.story))) h) (.apart (apart_updBand ..))

theorem changes_considerItem (c : BandConfig) (b : Fin 4) (i : Item) (s : State) : Changes s (considerItem c b i s) := by
  unfold considerItem
  refine Changes.trans (.ite (fun h => ?_) (fun _ => .apart (apart_raise ..))) (.apart (apart_advanceCursor ..))
  exact changes_admitInst (refers_toInst h)

theorem changes_admitLoop (c : BandConfig) (b : Fin 4) (fuel : Nat) : ∀ (skips : Nat) (s : State),
    Changes s (admitLoop c b fuel skips s) := by
  induction fuel with
  | zero => exact fun _ s => .refl s
  | succ fuel ih =>
    intro skips s
    unfold admitLoop
    refine .ite (fun _ => .refl s) (fun _ => .ite (fun _ => .apart (apart_deferAdmission b s)) (fun _ => ?_))
    split
    · exact (changes_considerBreak ..).trans (ih ..)
    · refine .ite (fun _ => ?_) (fun _ => .ite (fun _ => .apart (apart_raise ..)) (fun _ => ?_))
      · exact .ite (fun _ => (Changes.apart (apart_swapBanks b s)).trans (ih ..)) (fun _ => .apart (apart_raise ..))
      · split
        · exact .refl s
        · exact (changes_considerItem ..).trans (ih ..)

theorem changes_admissionStep (c : BandConfig) (b : Fin 4) (s : State) : Changes s (admissionStep c b s) :=
  .ite (fun _ => (Changes.apart (apart_swapIf ..)).trans (changes_admitLoop ..)) (fun _ => .apart (apart_swapIf ..))

theorem apart_drainEndStep (b : Fin 4) (s : State) : s.Apart (drainEndStep b s) :=
  .ite ((apart_updBand s b _).trans (apart_enterReady ..)) (.refl s)

theorem apart_clearingEndStep (b : Fin 4) (s : State) : s.Apart (clearingEndStep b s) :=
  .ite (apart_changeProg ..) (.refl s)

theorem apart_shifted (b : Fin 4) (s : State) : s.Apart (s.updBand b Band.shifted) :=
  apart_updBand s b _ (by simp [Band.shifted, Function.comp_def])

theorem changes_moveStep (b : Fin 4) (s : State) : Changes s (moveStep b s) :=
  (Changes.apart (apart_shifted b s)).trans (Changes.one (Change.remove b _))

theorem changes_crawlSteps (c : BandConfig) (b : Fin 4) (s : State) : Changes s (crawlSteps c b s) :=
  ((((Changes.apart (apart_updBand s b _)).trans (changes_moveStep ..)).trans (changes_admissionStep ..)).trans
    (.apart (apart_drainEndStep ..))).trans (.apart (apart_clearingEndStep ..))

/-! ### A FLIP band -/

theorem changes_addItem {c : BandConfig} {b : Fin 4} {i : Item} {x : Int} {slot : Nat} {v : Int} {s : State}
    (h : s.admissible i.kind = true) : Changes s (advanceCursor b (addInstance b (itemInstance c i x slot v) s)) :=
  (Changes.one (Change.create b (itemInstance c i x slot v) (refers_toInst h))).trans (.apart (apart_advanceCursor ..))

theorem changes_buildLoop (c : BandConfig) (b : Fin 4) (voffset : Int) (fuel : Nat) :
    ∀ (taken used lastGap skips : Nat) (s : State), Changes s (buildLoop c b voffset fuel taken used lastGap skips s).2 := by
  induction fuel with
  | zero => exact fun _ _ _ _ s => .refl s
  | succ fuel ih =>
    intro taken used lastGap skips s
    have skipped : Changes s (advanceCursor b (s.raise .itemSkipped (.band b))) :=
      .apart ((apart_raise ..).trans (apart_advanceCursor ..))
    unfold buildLoop
    split
    · exact .refl s
    · split
      · exact .refl s
      · split
        · next h =>
          split
          · exact .refl s
          · dsimp only
            split
            · exact changes_addItem h
            · exact (changes_addItem h).trans (ih ..)
        · dsimp only
          split
          · exact skipped
          · exact skipped.trans (ih ..)

theorem changes_pageBuild (c : BandConfig) (b : Fin 4) (voffset : Int) (s : State) :
    Changes s (pageBuild c b voffset s).2 := by
  unfold pageBuild
  extract_lets s1 s2 r
  have h1 : s.Apart s1 := apart_swapIf ..
  have h2 : s.Apart s2 := h1.trans (.ite (apart_swapIf ..) (.refl s1))
  have h3 : Changes s r.2 := (Changes.apart h2).trans (changes_buildLoop ..)
  split
  · exact h3.trans (.apart (apart_raise ..))
  · exact h3

theorem apart_updPage (b : Fin 4) (f : Page → Page) (s : State) : s.Apart (updPage b f s) := apart_updBand s b _

theorem rolledWindow_kinds (c : BandConfig) (k m : Nat) (w : List Inst) :
    (rolledWindow c k m w).map Inst.kind = w.map Inst.kind := by
  simp only [rolledWindow, List.map_append, List.map_map, Function.comp_def]
  rw [← List.map_append, List.take_append_drop]

theorem apart_setRoll (c : BandConfig) (b : Fin 4) (k : Nat) (s : State) : s.Apart (setRoll c b k s) :=
  apart_updBand s b _ (rolledWindow_kinds ..)

theorem apart_enterLeaving (c : BandConfig) (b : Fin 4) (s : State) : s.Apart (enterLeaving c b s) :=
  (apart_updPage ..).trans (apart_setRoll ..)

theorem changes_expirePage (c : BandConfig) (b : Fin 4) (s : State) : Changes s (expirePage c b s) := by
  unfold expirePage
  dsimp only
  split
  · split
    · exact (Changes.one (Change.remove b _)).trans (.apart (apart_updPage ..))
    · exact .apart (apart_enterLeaving ..)
  · split
    · exact ((changes_pageBuild ..).trans (.one (Change.remove b _))).trans (.apart (apart_updPage ..))
    · split
      · exact (changes_pageBuild ..).trans (.apart (apart_enterLeaving ..))
      · exact (changes_pageBuild ..).trans (.apart ((apart_updPage ..).trans (apart_setRoll ..)))

theorem changes_endRoll (c : BandConfig) (b : Fin 4) (s : State) : Changes s (endRoll c b s) :=
  (Changes.one (Change.remove b _)).trans
    (.apart (((apart_updBand _ b _ (by simp [Function.comp_def])).trans (apart_updPage ..)).trans (apart_bumpFree _)))

theorem changes_endLeaving (c : BandConfig) (b : Fin 4) (s : State) : Changes s (endLeaving c b s) := by
  unfold endLeaving
  extract_lets k m s' r
  have h : Changes s s' :=
    (Changes.one (Change.remove b _)).trans (.apart ((apart_updPage ..).trans (apart_bumpFree _)))
  split
  · exact (h.trans (changes_pageBuild ..)).trans (.apart (apart_updPage ..))
  · exact h

theorem changes_pageStep (c : BandConfig) (b : Fin 4) (s : State) : Changes s (pageStep c b s) := by
  unfold pageStep
  split
  · split
    · exact (changes_pageBuild ..).trans (.apart (apart_updPage ..))
    · exact .refl s
  · exact .ite (fun _ => .refl s) (fun _ => .ite (fun _ => changes_expirePage ..) (fun _ => .apart (apart_updPage ..)))
  · exact .ite (fun _ => .refl s) (fun _ => .ite (fun _ => .apart (apart_setRoll ..)) (fun _ => changes_endRoll ..))
  · exact .ite (fun _ => .refl s) (fun _ => .ite (fun _ => .apart (apart_setRoll ..)) (fun _ => changes_endLeaving ..))

theorem changes_flipSteps (c : BandConfig) (b : Fin 4) (s : State) : Changes s (flipSteps c b s) :=
  (changes_pageStep ..).trans (.apart (apart_drainEndStep ..))

/-! ### Requests -/

theorem apart_takeConfigure (b : Fin 4) (c : ConfigRecord) (s : State) : s.Apart (takeConfigure b c s).2 := by
  unfold takeConfigure
  split
  · exact .refl s
  · split
    · exact .refl s
    · split
      · exact .refl s
      · exact State.Apart.trans (apart_updBand s b _) (.ite (apart_enterReady ..) (.refl _))

theorem apart_takeTakeOn (sampled : Bool) (b : Fin 4) (fromTop : Bool) (s : State) :
    s.Apart (takeTakeOn sampled b fromTop s).2 := by
  unfold takeTakeOn
  extract_lets top
  split
  · split
    · exact .refl s
    · exact ((apart_updBand s b _).trans (apart_setVis ..)).trans (apart_changeProg ..)
  · exact (apart_updBand s b _).trans (apart_changeProg ..)
  all_goals exact .refl s

theorem apart_takeTakeOffDrain (b : Fin 4) (s : State) : s.Apart (takeTakeOffDrain b s).2 := by
  unfold takeTakeOffDrain
  split
  case h_1 => exact (apart_updBand s b _).trans (apart_changeProg ..)
  case h_2 => exact (apart_updBand s b _).trans (apart_changeProg ..)
  case h_3 => exact (apart_updBand s b _).trans (apart_changeProg ..)
  all_goals exact .refl s

theorem changes_takeTakeOffCut (b : Fin 4) (s : State) : Changes s (takeTakeOffCut b s).2 := by
  unfold takeTakeOffCut
  split
  · exact (Changes.one (Change.remove b _)).trans
      (.apart ((apart_updBand _ b _).trans (apart_enterReady ..)))
  · exact .refl s

theorem apart_takeBreak (b : Fin 4) (e : BreakEntry) (s : State) : s.Apart (takeBreak b e s).2 := by
  unfold takeBreak
  split
  · exact .refl s
  · split
    · exact .refl s
    · split
      · exact .refl s
      · exact State.Apart.trans (apart_updBand s b _)
          (.ite ((apart_updBand _ b _).trans (apart_changeProg ..)) (.refl _))

theorem apart_takeBreakClear (b : Fin 4) (s : State) : s.Apart (takeBreakClear b s).2 := by
  unfold takeBreakClear
  split
  · exact .refl s
  · split
    case h_1 => exact (apart_updBand s b _).trans (apart_changeProg ..)
    case h_2 => exact (apart_updBand s b _).trans (apart_changeProg ..)
    case h_3 => exact apart_updBand s b _
    all_goals exact .refl s

theorem changes_judgeRequest (sampled : Bool) (b : Fin 4) (r : BandRequest) (s : State) :
    Changes s (judgeRequest sampled b r s).2 := by
  have target : ∀ f, s.Apart (takeTarget b f s).2 := fun f => by
    unfold takeTarget
    split
    · exact .refl s
    · exact apart_updBand s b _
  have halted : ∀ v, s.Apart (takeHalted b v s).2 := fun v => by
    unfold takeHalted
    split
    · exact .refl s
    · exact apart_updBand s b _
  cases r with
  | configure c => exact .apart (apart_takeConfigure ..)
  | release =>
    show Changes s (takeRelease b s).2
    unfold takeRelease
    split
    · exact .apart ((apart_updBand s b _).trans (apart_changeProg ..))
    · exact .refl s
  | takeOn fromTop => exact .apart (apart_takeTakeOn ..)
  | takeOffDrain => exact .apart (apart_takeTakeOffDrain ..)
  | takeOffCut => exact changes_takeTakeOffCut ..
  | halt => exact .apart (halted true)
  | resume => exact .apart (halted false)
  | setSpeed v => exact .apart (target _)
  | nudge up => exact .apart (target _)
  | commit m => exact .apart (apart_takeCommit ..)
  | brk story repeats urgency => exact .apart (apart_takeBreak ..)
  | breakClear => exact .apart (apart_takeBreakClear ..)

theorem apart_deliver (o : Origin) (b : Fin 4) (r : Result) (v : List Byte) (s : State) : s.Apart (deliver o b r v s) := by
  unfold deliver
  split
  · exact .ite (.refl s) (apart_raise ..)
  · exact .ite (.of_phase rfl rfl rfl rfl (by simp)) (.refl s)

theorem changes_takeRequest (sampled : Bool) (o : Origin) (b : Fin 4) (r : BandRequest) (s : State) :
    Changes s (takeRequest sampled o b r s) := (changes_judgeRequest ..).trans (.apart (apart_deliver ..))

theorem changes_takeRequests (sampled : Bool) (b : Fin 4) (l : List QueuedRequest) :
    ∀ s : State, Changes s (takeRequests sampled b l s) := by
  induction l with
  | nil => exact Changes.refl
  | cons q t ih => exact fun s => (changes_takeRequest ..).trans (ih _)

theorem changes_bandFrameStart (sampled : Bool) (b : Fin 4) (s : State) : Changes s (bandFrameStart sampled b s) := by
  have h : Changes s (takeQueue sampled b s) := (Changes.apart (apart_updBand s b _)).trans (changes_takeRequests ..)
  unfold bandFrameStart
  dsimp only
  split
  · split
    · exact h
    · split
      · exact h.trans (changes_crawlSteps ..)
      · exact h.trans (changes_flipSteps ..)
  · exact h

theorem changes_takeAlone (o : Origin) (b : Fin 4) (r : BandRequest) (s : State) : Changes s (takeAlone o b r s) :=
  .ite (fun _ => changes_takeRequest ..) (fun _ => .refl s)

theorem apart_joinQueue (b : Fin 4) (q : QueuedRequest) (s : State) : s.Apart (joinQueue b q s).2 := by
  unfold joinQueue
  split
  · exact apart_updBand s b _
  · exact .refl s

theorem apart_panelRequest (b : Fin 4) (r : BandRequest) (s : State) : s.Apart (panelRequest b r s) := by
  unfold panelRequest
  exact .ite (apart_joinQueue ..) ((apart_joinQueue ..).trans (apart_raise ..))

theorem apart_panelBroadcast (r : BandRequest) (s : State) : s.Apart (panelBroadcast r s) :=
  (((apart_panelRequest ..).trans (apart_panelRequest ..)).trans (apart_panelRequest ..)).trans (apart_panelRequest ..)

theorem apart_editorialJoin (b : Fin 4) (r : BandRequest) (s : State) : s.Apart (editorialJoin b r s).2 := by
  unfold editorialJoin
  dsimp only
  split
  · exact (apart_joinQueue ..).trans (.of_link rfl rfl rfl rfl rfl rfl rfl)
  · exact apart_joinQueue ..

/-! ### Quote records -/

theorem Quote.Kept.of_eq {q q' : Quote} (state : q'.state = q.state) (symbol : q'.symbol = q.symbol)
    (count : q'.count = q.count) : q.Kept q' :=
  ⟨fun h => ⟨state ▸ h, symbol⟩, count, fun h => .inl (state ▸ h)⟩

theorem Quote.Kept.refl (q : Quote) : q.Kept q := .of_eq rfl rfl rfl

theorem changes_updQuote (s : State) (i : Fin 1024) (f : Quote → Quote) (h : (s.quote i).Kept (f (s.quote i))) :
    Changes s (s.updQuote i f) :=
  .one (Change.quotes _ (fun j => by
    rw [tget_tupd]
    split
    · next e => subst e; exact h
    · exact .refl _))

theorem changes_updQuoteAt (s : State) (i : Nat) (f : Quote → Quote) (h : ∀ q : Quote, q.Kept (f q)) :
    Changes s (s.updQuoteAt i f) := by
  unfold State.updQuoteAt
  split
  · exact changes_updQuote s _ f (h _)
  · exact .refl s

theorem Quote.kept_retired (q : Quote) : q.Kept (retiredQuote q) := by
  unfold retiredQuote
  split
  · next h => exact ⟨nofun, h.symm, fun _ => .inr h⟩
  · exact ⟨nofun, rfl, nofun⟩

theorem Quote.kept_freeIfGone (q : Quote) : q.Kept q.freeIfGone := by
  unfold Quote.freeIfGone
  split
  · next h => exact ⟨nofun, h.2.symm, fun _ => .inr h.2⟩
  · exact .refl q

theorem Quote.kept_countdown (q : Quote) : q.Kept (countdown q) := by
  unfold countdown
  split
  · exact .refl q
  · exact .of_eq rfl rfl rfl

theorem Quote.kept_flashExpiry (q : Quote) : q.Kept (flashExpiry q) := by
  unfold flashExpiry
  split
  · exact kept_countdown q
  · exact .refl q

theorem Quote.kept_latch (setting : Nat) (quiet : Bool) (q : Quote) : q.Kept (latchQuote setting quiet q) := by
  unfold latchQuote
  split
  · dsimp only
    split <;> exact .of_eq rfl rfl rfl
  · exact .refl q

theorem Quote.Kept.trans {q q' q'' : Quote} (h : q.Kept q') (k : q'.Kept q'') : q.Kept q'' where
  live e := ⟨(h.live (k.live e).1).1, (k.live e).2.trans (h.live (k.live e).1).2⟩
  count := k.count.trans h.count
  free e := (k.free e).elim h.free (fun c => .inr (h.count ▸ c))

theorem changes_quoteFrameStart (s : State) : Changes s (quoteFrameStart s) :=
  .one (Change.quotes _ (fun i => by
    rw [tget_tmap]
    exact (Quote.kept_countdown _).trans (Quote.kept_latch ..)))

/-- The record that a search finds passes its test. -/
theorem findQuote_some {s : State} {p : Quote → Bool} {i : Fin 1024} (h : s.findQuote p = some i) : p (s.quote i) = true :=
  List.find?_some (p := fun i => p (s.quote i)) h

theorem findQuote_none {s : State} {p : Quote → Bool} (h : s.findQuote p = none) (i : Fin 1024) : p (s.quote i) = false := by
  simpa using List.find?_eq_none.mp h i (List.mem_finRange i)

theorem changes_defineQuote (a : DefineArgs) (s : State) : Changes s (defineQuote a s).2 := by
  unfold defineQuote
  split
  · exact .refl s
  · next lane _ =>
    split
    · exact .refl s
    · split
      · exact .refl s
      · next unheld =>
        split
        · exact .refl s
        · next i found =>
          rw [State.updQuote_congr (g := fun _ => definedQuote (s.quote i) a lane (s.lane lane).quiet) rfl]
          refine .one (Change.define i _ (by simpa using findQuote_some found) rfl rfl (fun j live sym => ?_))
          have := findQuote_none unheld j
          simp only [holdsSymbol, live, decide_true, Bool.true_and, decide_eq_false_iff_not] at this
          exact this sym

theorem changes_retireQuote (r : Ref) (s : State) : Changes s (retireQuote r s).2 := by
  unfold retireQuote
  split
  · exact changes_updQuoteAt s _ _ Quote.kept_retired
  · exact .refl s

theorem changes_applySource (r : Ref) (src : Source) (text : List Byte) (s : State) :
    Changes s (applySource r src text s).2 := by
  unfold applySource
  split
  · exact changes_updQuoteAt s _ _ (fun _ => .of_eq rfl rfl rfl)
  · exact .refl s

theorem changes_setSource (r : Ref) (code dataLength : Nat) (s : State) : Changes s (setSource r code dataLength s).2 := by
  unfold setSource
  split
  · exact .refl s
  · split
    · exact .refl s
    · split
      · exact .refl s
      · split
        · exact changes_applySource ..
        · exact .refl s

theorem changes_setReference (r : Ref) (remove : Bool) (u : Nat) (m : Int) (s : State) :
    Changes s (setReference r remove u m s).2 := by
  unfold setReference
  split
  · exact .refl s
  · split
    · exact .refl s
    · split
      · exact .refl s
      · split
        · exact changes_updQuoteAt s _ _ (fun _ => .of_eq rfl rfl rfl)
        · split
          · exact .refl s
          · exact changes_updQuoteAt s _ _ (fun _ => .of_eq rfl rfl rfl)

/-! ### The feed link and the update engine -/

theorem apart_hearLane (n : Fin 4) (s : State) : s.Apart (hearLane n s) :=
  .ite (apart_updLane ..) ((apart_updLane ..).trans (apart_raise ..))

theorem apart_releaseLink (s : State) : s.Apart (releaseLink s) := .ite (.of_eq rfl rfl rfl rfl rfl) (.refl s)

theorem apart_countSilence (n : Fin 4) (s : State) : s.Apart (countSilence n s) :=
  .ite (.ite ((apart_updLane ..).trans (apart_raise ..)) (apart_updLane ..)) (.refl s)

theorem apart_feedFrameStart (s : State) : s.Apart (feedFrameStart s) :=
  (((apart_countSilence ..).trans (apart_countSilence ..)).trans (apart_countSilence ..)).trans (apart_countSilence ..)

theorem apart_silenceLane (n : Fin 4) (s : State) : s.Apart (silenceLane n s) := .ite (apart_countSilence ..) (.refl s)

theorem apart_queueTx (items : List TxItem) (s : State) : s.Apart (queueTx items s) := .of_eq rfl rfl rfl rfl rfl

theorem apart_badVerdict (s : State) : s.Apart (badVerdict s) := by
  unfold badVerdict
  refine State.Apart.trans ?_ (apart_queueTx ..)
  exact .ite (.refl s) (.ite ((apart_fli s _).trans (apart_raise ..)) (apart_fli s _))

theorem apart_otherVerdict (items : List TxItem) (s : State) : s.Apart (otherVerdict items s) := .of_eq rfl rfl rfl rfl rfl

theorem apart_refusePacket (code : Byte) (n : Fin 4) (s : State) : s.Apart (refusePacket code n s) :=
  (apart_raise ..).trans (apart_otherVerdict ..)

theorem apart_takePacket (n : Fin 4) (us : List Update) (s : State) : s.Apart (takePacket n us s) :=
  ((apart_updLane ..).trans (apart_hearLane ..)).trans (apart_otherVerdict ..)

theorem apart_heartbeat (mask : Byte) (s : State) : s.Apart (heartbeat mask s) := by
  unfold heartbeat
  generalize List.finRange 4 = l
  induction l generalizing s with
  | nil => exact .refl s
  | cons n t ih => exact State.Apart.trans (.ite (apart_hearLane ..) (.refl s)) (ih _)

theorem apart_statusQuery (s : State) : s.Apart (statusQuery s).2 := by
  unfold statusQuery
  split
  · exact .refl s
  · exact apart_updMaster ..

theorem apart_serveControls (rs : List (List Byte)) : ∀ s : State, s.Apart (serveControls rs s).2 := by
  induction rs with
  | nil => exact State.Apart.refl
  | cons r t ih =>
    intro s
    unfold serveControls
    split
    · exact (apart_heartbeat ..).trans (ih _)
    · split
      · exact (apart_updMaster ..).trans (ih _)
      · exact (apart_statusQuery s).trans (ih _)

theorem apart_judgeData (n : Fin 4) (rs : List (List Byte)) (s : State) : s.Apart (judgeData n rs s) :=
  .ite (apart_refusePacket ..) (.ite (apart_refusePacket ..) (.ite (apart_refusePacket ..) (apart_takePacket ..)))

theorem apart_judgePacket (bs : List Byte) (s : State) : s.Apart (judgePacket bs s) := by
  unfold judgePacket
  dsimp only
  split
  · exact .refl s
  · exact apart_otherVerdict ..
  · refine .ite (apart_badVerdict s) ?_
    split
    · exact .ite ((apart_serveControls _ s).trans (apart_otherVerdict ..)) (apart_badVerdict s)
    · exact apart_judgeData ..

theorem apart_feedByte (b : Byte) (s : State) : s.Apart (feedByte b s) := by
  unfold feedByte
  split
  · exact .ite (apart_fli s _) (.refl s)
  · exact .ite ((apart_fli s _).trans (apart_judgePacket ..)) (apart_fli s _)

theorem apart_feedBytes (bs : List Byte) : ∀ s : State, s.Apart (feedBytes bs s) := by
  induction bs with
  | nil => exact State.Apart.refl
  | cons b t ih => exact fun s => (apart_feedByte b s).trans (ih _)

theorem apart_endRecord (own : Bool) (s : State) : s.Apart (endRecord own s) := .ite (apart_updMaster ..) (.refl s)

theorem apart_sendFeedByte (s : State) : s.Apart (sendFeedByte s) := by
  have ends : ∀ fli own, s.Apart (endRecord own { s with fli := fli }) := fun fli own =>
    (apart_fli s fli).trans (apart_endRecord own _)
  unfold sendFeedByte
  split
  · exact .refl s
  · exact .of_eq rfl rfl rfl rfl rfl
  · exact ends ..
  · exact ends ..
  · exact .of_eq rfl rfl rfl rfl rfl

theorem changes_applyUpdate (n : Fin 4) (u : Update) (s : State) : Changes s (applyUpdate n u s) := by
  have raised : ∀ k src, Changes s (s.raise k src) := fun k src => .apart (apart_raise s k src)
  have written : ∀ f : Quote → Quote, (∀ q : Quote, q.Kept (f q)) → Changes s (s.updQuoteAt u.index f) :=
    fun f h => changes_updQuoteAt s u.index f h
  unfold applyUpdate
  dsimp only
  refine .ite (fun _ => raised ..) (fun _ => .ite (fun _ => raised ..) (fun _ => ?_))
  split
  · exact raised ..
  · refine .ite (fun _ => raised ..) (fun _ => .ite (fun _ => ?_) (fun _ => .ite (fun _ => ?_) (fun _ => ?_)))
    · split
      · exact raised ..
      · exact written _ (fun _ => .of_eq rfl rfl rfl)
    · split
      · exact raised ..
      · exact written _ (fun _ => .of_eq rfl rfl rfl)
    · exact .ite (fun _ => written _ (fun _ => .of_eq rfl rfl rfl))
        (fun _ => .ite (fun _ => written _ (fun _ => .of_eq rfl rfl rfl)) (fun _ => written _ (fun _ => .of_eq rfl rfl rfl)))

theorem changes_engineTurn (s : State) : Changes s (engineTurn s) := by
  unfold engineTurn
  split
  · exact .refl s
  · split
    · exact .refl s
    · refine Changes.trans (.apart ?_) (changes_applyUpdate ..)
      exact .of_eq rfl rfl rfl rfl rfl

theorem apart_laneCommand (lane : Nat) (f : Fin 4 → State → State) (s : State) (h : ∀ n, s.Apart (f n s)) :
    s.Apart (laneCommand lane f s).2 := by
  unfold laneCommand
  split
  · exact .refl s
  · exact h _

theorem apart_panelLaneCommand (lane : Nat) (f : Fin 4 → State → State) (s : State) (h : ∀ n, s.Apart (f n s)) :
    s.Apart (panelLaneCommand lane f s) := by
  unfold panelLaneCommand
  split
  · exact apart_raise ..
  · exact h _

theorem apart_setSilenceLimit (lane limit : Nat) (s : State) : s.Apart (setSilenceLimit lane limit s).2 := by
  unfold setSilenceLimit
  split
  · exact apart_laneCommand _ _ _ (fun _ => apart_updLane ..)
  · exact .refl s

/-! ### The compositor, the pins and the attention settings -/

theorem apart_moveBand (clean : Bool) (b : Fin 4) (s : State) : s.Apart (moveBand clean b s) := by
  unfold moveBand
  split
  · exact .refl s
  · exact .ite (apart_setVis ..) (.refl s)

theorem apart_judgeAck (clean : Bool) (s : State) : s.Apart (judgeAck clean s) :=
  .ite (.of_eq rfl rfl rfl rfl rfl) (.ite (.of_eq rfl rfl rfl rfl rfl) (.refl s))

theorem apart_compositorFrameStart (s : State) : s.Apart (compositorFrameStart s) := by
  have sampled : s.Apart { s with cmp := { s.cmp with sampled := s.cleanRequested } } := .of_eq rfl rfl rfl rfl rfl
  exact ((((sampled.trans (apart_moveBand ..)).trans (apart_moveBand ..)).trans (apart_moveBand ..)).trans
    (apart_moveBand ..)).trans (apart_judgeAck ..)

theorem apart_writeSoftClean (panel v : Bool) (s : State) : s.Apart (writeSoftClean panel v s) :=
  .ite (.of_eq rfl rfl rfl rfl rfl) (.of_eq rfl rfl rfl rfl rfl)

theorem apart_editorialSoftClean (value : Nat) (s : State) : s.Apart (editorialSoftClean value s).2 := by
  unfold editorialSoftClean
  split
  · exact .refl s
  · exact apart_writeSoftClean false _ s

theorem apart_panelSoftClean (value : Nat) (s : State) : s.Apart (panelSoftClean value s) := by
  unfold panelSoftClean
  split
  · exact apart_raise ..
  · exact apart_writeSoftClean ..

theorem apart_setPin (pin mode select level : Nat) (s : State) : s.Apart (setPin pin mode select level s).2 := by
  unfold setPin
  split
  · exact .of_eq rfl rfl rfl rfl rfl
  · exact .refl s

theorem apart_setLevels (master : Nat) (levels : List Nat) (s : State) : s.Apart (setLevels master levels s).2 := by
  unfold setLevels
  split
  · exact .refl s
  · split
    · split
      · exact apart_updMaster ..
      · exact .refl s
    · exact .refl s

theorem apart_editorialThreshold (v : Nat) (s : State) : s.Apart (editorialThreshold v s).2 := by
  unfold editorialThreshold
  split
  · exact apart_updMaster ..
  · exact .refl s

theorem apart_panelThreshold (v : Nat) (s : State) : s.Apart (panelThreshold v s) :=
  .ite (apart_updMaster ..) (apart_raise ..)

/-! ### Frame starts -/

theorem changes_frameBlocks (order : List Block) : ∀ (sampled : Bool) (s : State),
    Changes s (frameBlocks order sampled s) := by
  induction order with
  | nil => exact fun _ s => .refl s
  | cons k t ih =>
    intro sampled s
    cases k with
    | quotes => exact (changes_quoteFrameStart s).trans (ih ..)
    | feed => exact (Changes.apart (apart_feedFrameStart s)).trans (ih ..)
    | band b => exact (changes_bandFrameStart sampled b s).trans (ih ..)
    | compositor => exact (Changes.apart (apart_compositorFrameStart s)).trans (ih ..)

theorem changes_frameStart (s : State) : Changes s (frameStart s) := by
  unfold frameStart
  split
  · exact .refl s
  · exact .apart (.of_eq rfl rfl rfl rfl rfl)
  · unfold handFrameStart
    refine Changes.trans (.apart ?_) (changes_frameBlocks ..)
    exact .of_eq rfl rfl rfl rfl rfl

/-- A frame start of the timing unit, with TIMING raised or not. -/
theorem changes_timedFrameStart {s t : State} (h : s.Apart t) : Changes s (frameStart t) :=
  (Changes.apart h).trans (changes_frameStart t)

theorem apart_raiseTiming (s : State) : s.Apart (raiseTiming s) := .ite (apart_raise ..) (.refl s)

theorem changes_flipAlone (b : Fin 4) (due : BandConfig → Band → Bool) (f : BandConfig → Fin 4 → State → State) (s : State)
    (h : ∀ c, Changes s (f c b s)) : Changes s (flipAlone b due f s) := by
  unfold flipAlone
  split
  · exact .refl s
  · exact .ite (fun _ => h _) (fun _ => .refl s)

/-! ### Resets -/

theorem cleared_powerOnValues (s : State) (run : RunMode) (straps : Straps) (time : Nat) :
    s.Cleared (State.powerOnValues run straps time s.cleanPin s.freeIndex s.pending) :=
  ⟨rfl, .inl rfl, .inl rfl, rfl, nofun⟩

theorem cleared_deviceReset (s : State) : s.Cleared (deviceReset s) := ⟨rfl, .inr rfl, .inr rfl, rfl, nofun⟩

theorem apart_endInitialisation (s : State) : s.Apart (endInitialisation s) :=
  .ite (.of_eq rfl rfl rfl rfl rfl) (.refl s)

end Sys2Proof.Machine

/-! SUPPORT. Changes by the editorial link and the panel bus, and by every row: each step is a chain of changes. -/

namespace Sys2Proof.Machine

/-! ### Changes by the editorial link -/

theorem apart_drive (bytes : List Byte) (s : State) : s.Apart (drive bytes s) := .of_link rfl rfl rfl rfl rfl rfl rfl

theorem apart_driveZeros (n : Nat) (s : State) : s.Apart (driveZeros n s) := apart_drive ..

theorem apart_driveBlock (block : List Byte) (n : Nat) (s : State) : s.Apart (driveBlock block n s) := apart_drive ..

theorem apart_finish (st : Status) (s : State) : s.Apart (finish st s) := .of_phase rfl rfl rfl rfl nofun

theorem apart_takeBlock (tag : Byte) (c : Option EdCommand) (n : Nat) (s : State) : s.Apart (takeBlock tag c n s) :=
  .of_phase rfl rfl rfl rfl nofun

theorem apart_enterPhase {p : EdPhase} (s : State) (h : p ≠ .dataOut) : s.Apart (enterPhase p s) :=
  .of_phase rfl rfl rfl rfl h

/-- The link leaves its phase, and what was in flight is settled. -/
theorem changes_abandon (s : State) (f : Eli → Eli) (h : ∀ e, (f e).phase ≠ .dataOut) :
    Changes s ((abandon s).updEli f) := by
  have left : ∀ t : State, t.Apart (t.updEli f) := fun t => .of_phase rfl rfl rfl rfl (h _)
  unfold abandon
  split
  · exact .one (Change.drop f (h _))
  · refine Changes.apart (State.Apart.trans ?_ (left _))
    exact .ite (apart_updMaster ..) (.refl s)
  all_goals exact .apart (left s)

theorem changes_phaseError (s : State) : Changes s (phaseError s) :=
  .ite (fun _ => .refl s) (fun _ => changes_abandon s _ (fun _ => nofun))

theorem changes_resetLink (s : State) : Changes s (resetLink s) := changes_abandon s _ (fun _ => nofun)

theorem changes_deleteStory (r : Ref) (s : State) : Changes s (deleteStory r s).2 := by
  unfold deleteStory
  split
  · next h =>
    split
    · next resolves =>
      have loaded : (s.story ⟨r.index, h⟩).state = .loaded := by
        rw [State.resolvesStory, show s.storyAt r.index = some (s.story ⟨r.index, h⟩) from dif_pos h] at resolves
        simp only [Bool.and_eq_true, decide_eq_true_eq] at resolves
        exact resolves.1.1
      exact Changes.trans (.one (Change.deleteStory _ loaded)) (.one (Change.freeStory _))
    · exact .refl s
  · exact .refl s

theorem apart_unloadFace (face : Nat) (s : State) : s.Apart (unloadFace face s).2 := by
  unfold unloadFace
  split
  · exact .refl s
  · split
    · exact .refl s
    · exact .of_eq rfl rfl rfl rfl rfl

/-- The command phases that begin a data phase at most change no state. -/
theorem loadFace_state (a : FaceArgs) (n : Nat) (s : State) : (loadFace a n s).2 = s := by
  unfold loadFace
  split
  · rfl
  · split
    · rfl
    · split <;> rfl

theorem loadImages_state (offset n : Nat) (s : State) : (loadImages offset n s).2 = s := by
  unfold loadImages
  split
  · rfl
  · split <;> rfl

theorem apart_applyEdit (b : Fin 4) (op pos count : Nat) (items : List Item) (s : State) :
    s.Apart (applyEdit b op pos count items s).2 := apart_updLists ..

theorem apart_editRunList (band op pos count n : Nat) (s : State) : s.Apart (editRunList band op pos count n s).2 := by
  unfold editRunList
  split
  · exact .refl s
  · split
    · exact .refl s
    · split
      · exact .refl s
      · split
        · exact .refl s
        · split
          · exact .refl s
          · exact apart_applyEdit ..

theorem apart_copyBank (band : Nat) (s : State) : s.Apart (copyBank band s).2 := by
  unfold copyBank
  split
  · exact .refl s
  · split
    · exact .refl s
    · exact apart_updLists ..

theorem apart_editorialRequest (band : Nat) (r : EdRequest) (n : Nat) (s : State) :
    s.Apart (editorialRequest band r n s).2 := by
  unfold editorialRequest
  split
  · exact .refl s
  · split
    · split
      · exact .refl s
      · split <;> exact .refl s
    · split
      · exact .refl s
      · dsimp only
        split <;> exact apart_editorialJoin ..

/-- What the command phase of any command but LOAD STORY can change. -/
theorem changes_commandPhase {c : EdCommand} (n : Nat) (s : State) (h : c ≠ .loadStory) :
    Changes s (commandPhase c n s).2 := by
  cases c with
  | loadStory => exact absurd rfl h
  | defineQuote a => exact changes_defineQuote ..
  | retireQuote r => exact changes_retireQuote ..
  | setSource r source => exact changes_setSource ..
  | setReference r remove scale mantissa => exact changes_setReference ..
  | setFlash v => exact .apart (.of_eq rfl rfl rfl rfl rfl)
  | laneHold lane => exact .apart (apart_laneCommand _ _ _ (fun _ => apart_updLane ..))
  | laneRelease lane => exact .apart (apart_laneCommand _ _ _ (fun _ => apart_updLane ..))
  | laneFlush lane => exact .apart (apart_laneCommand _ _ _ (fun _ => apart_updLane ..))
  | linkRelease => exact .apart (apart_releaseLink s)
  | setSilenceLimit lane limit => exact .apart (apart_setSilenceLimit ..)
  | deleteStory r => exact changes_deleteStory ..
  | loadFace a =>
    show Changes s (loadFace a n s).2
    rw [loadFace_state]
    exact .refl s
  | unloadFace face => exact .apart (apart_unloadFace ..)
  | loadImages offset =>
    show Changes s (loadImages offset n s).2
    rw [loadImages_state]
    exact .refl s
  | edit band op pos count => exact .apart (apart_editRunList ..)
  | copyBank band => exact .apart (apart_copyBank ..)
  | request band r => exact .apart (apart_editorialRequest ..)
  | softClean v => exact .apart (apart_editorialSoftClean ..)
  | setPin pin mode select level => exact .apart (apart_setPin ..)
  | setLevels master levels => exact .apart (apart_setLevels ..)
  | setThreshold v => exact .apart (apart_editorialThreshold ..)
  | readQuotes start count d => exact .refl s
  | readLanes => exact .refl s
  | readStories start count => exact .refl s
  | readFace face start count => exact .refl s
  | readRunList band bank start count d => exact .refl s
  | readBand band => exact .refl s
  | readWindow band => exact .refl s
  | readOutput => exact .refl s
  | readEvents => exact .refl s
  | deviceReset => exact .refl s

theorem apart_staging (s : State) (l : List Byte) : s.Apart { s with gs := { s.gs with staging := l } } :=
  .of_eq rfl rfl rfl rfl rfl

theorem apart_completeFace (a : FaceArgs) (s : State) : s.Apart (completeFace a s).2 := by
  unfold completeFace
  dsimp only
  split
  · exact apart_staging ..
  · split
    · exact apart_staging ..
    · split
      · exact apart_staging ..
      · split
        · exact apart_staging ..
        · exact .of_eq rfl rfl rfl rfl rfl

theorem apart_completeEdit (band op pos count : Nat) (s : State) : s.Apart (completeEdit band op pos count s).2 := by
  have emptied : s.Apart { s with editStaging := [] } := .of_eq rfl rfl rfl rfl rfl
  unfold completeEdit
  dsimp only
  split
  · exact emptied
  · split
    · exact emptied
    · split
      · exact emptied
      · split
        · exact emptied
        · split
          · exact emptied
          · exact emptied.trans (apart_applyEdit ..)

theorem apart_completeConfigure (band : Nat) (s : State) : s.Apart (completeConfigure band s) := by
  unfold completeConfigure
  split
  · exact apart_finish ..
  · dsimp only
    split
    · exact (apart_editorialJoin ..).trans (apart_enterPhase _ nofun)
    · exact (apart_editorialJoin ..).trans (apart_finish ..)

/-- What the completion of a data phase can change. -/
theorem changes_completeData {c : EdCommand} (s : State)
    (h : c = .loadStory → s.eli.phase = .dataOut ∧ s.eli.command = some .loadStory) : Changes s (completeData c s) := by
  cases c with
  | setSource r source => exact (changes_applySource ..).trans (.apart (apart_finish ..))
  | loadStory => exact .one (Change.complete _ (h rfl).1 (h rfl).2)
  | loadFace a => exact .apart ((apart_completeFace ..).trans (apart_finish ..))
  | edit band op pos count => exact .apart ((apart_completeEdit ..).trans (apart_finish ..))
  | request band r => exact .apart (apart_completeConfigure ..)
  | _ => exact .apart (apart_finish ..)

/-- R170: the phase after a command phase; LOAD STORY apart. -/
theorem changes_settle {c : EdCommand} (n : Nat) (t : Reply × State) (h : c ≠ .loadStory)
    (k : t.1 = .receive → t.2.eli.command = some c) : Changes t.2 (settle c n t) := by
  unfold settle
  split
  · exact .apart (apart_finish ..)
  · next received =>
    refine .ite (fun _ => changes_completeData _ (fun e => absurd e h)) (fun _ => .apart ?_)
    refine ⟨rfl, rfl, rfl, fun _ => rfl, fun _ _ e => absurd (Option.some.inj ((k received).symm.trans e)) h⟩
  · exact .apart (apart_enterPhase _ nofun)
  · exact .apart (apart_enterPhase _ nofun)

/-- A command phase, but that of LOAD STORY, that begins a data phase has changed nothing. -/
theorem commandPhase_receive {c : EdCommand} {n : Nat} {s : State} (h : c ≠ .loadStory)
    (k : (commandPhase c n s).1 = .receive) : (commandPhase c n s).2 = s := by
  have answered : ∀ {t : Reply × State} {r v}, t.1 = .answer r v → t.1 = .receive → t.2 = s :=
    fun a e => nomatch a.symm.trans e
  have edits : ∀ band op pos count, (editRunList band op pos count n s).1 = .receive →
      (editRunList band op pos count n s).2 = s := by
    intro band op pos count
    unfold editRunList
    repeat' split
    all_goals first | exact fun _ => rfl | exact answered rfl
  have requests : ∀ band r, (editorialRequest band r n s).1 = .receive → (editorialRequest band r n s).2 = s := by
    intro band r
    unfold editorialRequest
    dsimp only
    repeat' split
    all_goals first | exact fun _ => rfl | exact answered rfl | exact nofun
  have sources : ∀ r source, (setSource r source n s).1 = .receive → (setSource r source n s).2 = s := by
    intro r source
    unfold setSource
    dsimp only
    repeat' split
    all_goals first | exact fun _ => rfl | exact answered rfl
  have lanes : ∀ lane f, (laneCommand lane f s).1 ≠ .receive := by
    intro lane f
    unfold laneCommand
    split <;> exact nofun
  cases c with
  | loadStory => exact absurd rfl h
  | setSource r source => exact sources r source k
  | loadFace a => exact loadFace_state ..
  | loadImages offset => exact loadImages_state ..
  | edit band op pos count => exact edits _ _ _ _ k
  | request band r => exact requests _ _ k
  | laneHold lane => exact absurd k (lanes _ _)
  | laneRelease lane => exact absurd k (lanes _ _)
  | laneFlush lane => exact absurd k (lanes _ _)
  | setSilenceLimit lane limit =>
    refine absurd k ?_
    show (setSilenceLimit lane limit s).1 ≠ _
    unfold setSilenceLimit
    split
    · exact lanes _ _
    · exact nofun
  | _ =>
    refine absurd k ?_
    simp only [commandPhase, defineQuote, retireQuote, setReference, setFlash, deleteStory, unloadFace, copyBank,
      editorialSoftClean, setPin, setLevels, editorialThreshold]
    repeat' split
    all_goals exact nofun

/-- R69: LOAD STORY is refused, or its target is designated and its data phase begins. -/
theorem changes_loadStory (n : Nat) (s : State) (phase : s.eli.phase ≠ .dataOut) (length : s.eli.dataLength = n) :
    Changes s (settle .loadStory n (loadStory n s)) := by
  unfold loadStory
  split
  · exact .apart (apart_finish ..)
  · next inRange =>
    split
    · exact .apart (apart_finish ..)
    · next i found =>
      have free : (s.story i).state = .free := by
        simpa using List.find?_some (p := fun i => decide ((s.story i).state = .free)) found
      split
      · exact .apart (apart_finish ..)
      · next enough =>
        refine Changes.trans (.one (Change.designate i (blocksFor (n / 2)) free (by omega) phase)) ?_
        show Changes _ (if n = 0 then _ else _)
        rw [if_neg (by omega)]
        refine .apart ⟨rfl, rfl, rfl, fun _ => rfl, fun _ _ _ => ⟨_, rfl, ?_⟩⟩
        show (s.ts.freeBlocks.take (blocksFor (n / 2))).length = (s.eli.dataLength / 2 + 31) / 32
        rw [List.length_take, length, Nat.min_eq_left (by omega)]
        rfl

theorem changes_runCommand (h : EdHeader) (c : EdCommand) (s : State) : Changes s (runCommand h c s) := by
  have taken := Changes.apart (apart_takeBlock h.tag (some c) h.dataLength s)
  refine .ite (fun _ => taken.trans ?_) (fun _ => taken.trans (.apart (apart_finish ..)))
  by_cases load : c = .loadStory
  · subst load
    exact changes_loadStory h.dataLength _ nofun rfl
  · exact (changes_commandPhase _ _ load).trans (changes_settle _ _ load (fun received => by
      rw [commandPhase_receive load received]
      rfl))

theorem changes_inFrame (n : Nat) {f : State → State} (s : State) (h : ∀ t, Changes t (f t)) :
    Changes s (inFrame n f s) :=
  .ite (fun _ => .refl s)
    (fun _ => .ite (fun _ => .apart ((apart_driveZeros n s).trans (.of_link rfl rfl rfl rfl rfl rfl rfl))) (fun _ => h s))

theorem changes_inPhase (p : EdPhase) (n : Nat) {f : State → State} (s : State) (h : ∀ t, Changes t (f t)) :
    Changes s (inPhase p n f s) :=
  changes_inFrame n s (fun t => .ite (fun _ => .apart (apart_driveZeros ..))
    (fun _ => .ite (fun _ => (Changes.apart (apart_driveZeros n t)).trans (h _))
      (fun _ => (Changes.apart (apart_driveZeros n t)).trans (changes_phaseError _))))

theorem changes_edCommand (h : EdHeader) (c : EdCommand) (s : State) : Changes s (edCommand h c s) :=
  changes_inPhase _ _ s (changes_runCommand h c)

theorem changes_commandFrame (bytes : List Byte) (s : State) : Changes s (commandFrame bytes s) :=
  changes_inPhase _ _ s (fun t => by
    unfold judgeBlock
    split
    · split
      · exact changes_runCommand ..
      · exact .apart ((apart_takeBlock ..).trans (apart_finish ..))
    · exact .apart ((apart_takeBlock ..).trans (apart_finish ..)))

theorem changes_storeByte (c : EdCommand) (k : Nat) (b : Byte) (s : State) : Changes s (storeByte c k b s) := by
  cases c with
  | loadStory =>
    show Changes s (writeStoryByte k b s)
    unfold writeStoryByte
    split
    · exact .refl s
    · exact .one (Change.writeText ..)
  | loadFace a => exact .apart (apart_staging ..)
  | loadImages offset => exact .one (Change.writeImage ..)
  | edit band op pos count => exact .apart (.of_eq rfl rfl rfl rfl rfl)
  | _ => exact .apart (.of_link rfl rfl rfl rfl rfl rfl rfl)

theorem changes_countByte {c : EdCommand} (s : State) (phase : s.eli.phase = .dataOut) (command : s.eli.command = some c) :
    Changes s (countByte c s) := by
  have counted : s.Apart (s.updEli (fun e => { e with counter := e.counter + 1 })) := .of_link rfl rfl rfl rfl rfl rfl rfl
  refine (Changes.apart counted).trans (.ite (fun _ => changes_completeData _ ?_) (fun _ => .refl _))
  exact fun e => ⟨phase, e ▸ command⟩

theorem changes_receiveByte (b : Byte) (s : State) : Changes s (receiveByte b s) := by
  unfold receiveByte
  split
  · next c phase command =>
    obtain ⟨_, _, phase', command'⟩ := storeByte_counts c s.eli.counter b s
    exact (changes_storeByte ..).trans (changes_countByte _ (phase'.trans phase) (command'.trans command))
  · exact changes_phaseError s

theorem changes_receiveBytes (bytes : List Byte) : ∀ s : State, Changes s (receiveBytes bytes s) := by
  induction bytes with
  | nil => exact Changes.refl
  | cons b t ih => exact fun s => (changes_receiveByte b s).trans (ih _)

theorem changes_dataOut (bytes : List Byte) (s : State) : Changes s (dataOut bytes s) :=
  changes_inPhase _ _ s (changes_receiveBytes bytes)

theorem apart_latchReport (c : EdCommand) (s : State) : s.Apart (latchReport c s) := by
  have begun : s.Apart (beginEvents c s) := .ite (apart_updMaster ..) (.refl s)
  have latched : ∀ (t : State) (l : List Byte) (k : Nat), t.Apart (t.updEli (fun e => { e with latch := l, reportNo := k })) :=
    fun t l k => .of_link rfl rfl rfl rfl rfl rfl rfl
  have freed : ∀ t : State, t.Apart (takeFree c t) := fun t => by
    unfold takeFree
    split
    · exact apart_bumpFree t
    · exact .refl t
  exact (begun.trans (latched _ _ _)).trans (freed _)

theorem apart_completeRead (c : EdCommand) (s : State) : s.Apart (completeRead c s) :=
  State.Apart.trans (.ite (apart_updMaster ..) (.refl s)) (apart_finish ..)

theorem apart_sendByte (s : State) : s.Apart (sendByte s).2 := by
  unfold sendByte
  split
  · next c _ _ =>
    have begun : s.Apart (if s.eli.latch = [] then latchReport c s else s) := .ite (apart_latchReport ..) (.refl s)
    have sent : ∀ t : State, t.Apart (t.updEli (fun e => { e with latch := e.latch.tail, counter := e.counter + 1 })) :=
      fun t => .of_link rfl rfl rfl rfl rfl rfl rfl
    exact (begun.trans (sent _)).trans (.ite (apart_completeRead ..) (.refl _))
  · exact .refl s

theorem apart_sendBytes (n : Nat) : ∀ s : State, s.Apart (sendBytes n s).2 := by
  induction n with
  | zero => exact State.Apart.refl
  | succ n ih => exact fun s => (apart_sendByte s).trans (ih _)

theorem changes_dataIn (n : Nat) (s : State) : Changes s (dataIn n s) :=
  changes_inPhase _ _ s (fun t => .apart ((apart_sendBytes n t).trans (apart_drive ..)))

theorem changes_consumeStatus (s : State) : Changes s (consumeStatus s) := by
  have idle : s.Apart (s.updEli Eli.toIdle) := .of_phase rfl rfl rfl rfl nofun
  exact (Changes.apart idle).trans (.ite (fun _ => .one (Change.clear (cleared_deviceReset _))) (fun _ => .refl _))

theorem changes_strayStatus (n : Nat) (s : State) : Changes s (strayStatus n s) :=
  (changes_phaseError s).trans (.apart (apart_driveBlock ..))

theorem changes_statusFrame (n : Nat) (s : State) : Changes s (statusFrame n s) :=
  changes_inFrame n s (fun t => by
    refine .ite (fun _ => .apart (apart_driveBlock ..)) (fun _ => ?_)
    split
    case h_1 =>
      have driven := Changes.apart (apart_driveBlock (commandBlock t.eli) n t)
      exact .ite (fun _ => driven.trans (changes_consumeStatus _)) (fun _ => driven)
    case h_2 => exact .apart (apart_driveBlock ..)
    all_goals exact changes_strayStatus n t)

theorem changes_linkReset (s : State) : Changes s (linkReset s) :=
  changes_inFrame 0 s (fun t => (changes_resetLink t).trans (.apart (apart_driveZeros ..)))

theorem changes_unknownFrame (n : Nat) (s : State) : Changes s (unknownFrame n s) :=
  changes_inFrame n s (fun t => .ite (fun _ => .apart (apart_driveZeros ..))
    (fun _ => (Changes.apart (apart_driveZeros n t)).trans (changes_phaseError _)))

theorem changes_edFrame (bytes : List Byte) (s : State) : Changes s (edFrame bytes s) := by
  unfold edFrame
  split
  · exact .apart (.of_link rfl rfl rfl rfl rfl rfl rfl)
  · split
    · exact changes_commandFrame ..
    · exact changes_dataOut ..
    · exact changes_dataIn ..
    · exact changes_statusFrame ..
    · exact changes_linkReset s
    · exact changes_unknownFrame ..

theorem changes_lastByte (p : EdCommand → Bool) (b : Byte) (s : State) : Changes s (lastByte p b s) :=
  .ite (fun _ => changes_dataOut ..) (fun _ => .refl s)

/-! ### The panel bus -/

theorem apart_panelBand (band : Nat) (r : BandRequest) (s : State) : s.Apart (panelBand band r s) := by
  unfold panelBand
  split
  · exact apart_raise ..
  · exact apart_panelRequest ..

theorem apart_handOver (c a0 a1 : Byte) (s : State) : s.Apart (handOver c a0 a1 s) := by
  unfold handOver
  split
  case h_6 =>
    split
    · exact apart_raise ..
    · exact apart_panelBand ..
  case h_7 => exact apart_panelLaneCommand _ _ _ (fun _ => apart_updLane ..)
  case h_8 => exact apart_panelLaneCommand _ _ _ (fun _ => apart_updLane ..)
  case h_9 => exact apart_releaseLink s
  case h_10 => exact apart_panelSoftClean ..
  case h_11 => exact apart_panelThreshold ..
  case h_12 =>
    split
    · exact apart_raise ..
    · exact apart_panelBroadcast ..
  case h_13 => exact apart_panelBroadcast ..
  case h_14 => exact apart_panelBroadcast ..
  case h_15 => exact .refl s
  all_goals exact apart_panelBand ..

theorem apart_takeWrite (bytes : List Byte) (discard : Bool) (s : State) : s.Apart (takeWrite bytes discard s) := by
  unfold takeWrite
  split
  · exact .refl s
  · exact .ite (.refl s) (.ite (apart_handOver ..) (apart_raise ..))

theorem apart_panelByte (b : Byte) (s : State) : s.Apart (panelByte b s).2 := by
  have moved : ∀ t, s.Apart (setTransfer t s) := fun t => apart_updPbi ..
  unfold panelByte
  split
  · exact .refl s
  · split
    · exact moved _
    · split
      · exact moved _
      · split
        · exact .of_eq rfl rfl rfl rfl rfl
        · split <;> exact moved _
  · split <;> exact moved _
  · split <;> exact moved _
  · exact .refl s

theorem apart_panelBytes (bytes : List Byte) : ∀ s : State, s.Apart (panelBytes bytes s).2 := by
  induction bytes with
  | nil => exact State.Apart.refl
  | cons b t ih => exact fun s => (apart_panelByte b s).trans (ih _)

theorem apart_writeBytes (bytes : List Byte) (s : State) : s.Apart (writeBytes bytes s) := by
  unfold writeBytes
  exact (apart_panelBytes bytes s).trans (apart_updPbi ..)

theorem apart_readByte (s : State) : s.Apart (readByte s).2 := by
  unfold readByte
  split
  · exact State.Apart.ite ((apart_updPbi s _).trans (apart_updMaster ..)) (apart_updPbi s _)
  · exact .refl s

theorem apart_readBytes (n : Nat) : ∀ s : State, s.Apart (readBytes n s).2 := by
  induction n with
  | zero => exact State.Apart.refl
  | succ n ih => exact fun s => (apart_readByte s).trans (ih _)

theorem apart_clockRead (n : Nat) (s : State) : s.Apart (clockRead n s) := by
  unfold clockRead
  exact (apart_readBytes n s).trans (apart_updPbi ..)

theorem apart_restart (t : Transfer) (s : State) : s.Apart (restart t s) := by
  have ended : s.Apart (endTransfer s) := by
    unfold endTransfer
    split
    · exact .refl s
    · exact .refl s
    · exact apart_takeWrite ..
    · exact apart_takeWrite ..
    · exact .ite (apart_updMaster ..) (.refl s)
  exact ended.trans (apart_updPbi ..)

theorem apart_onBus {f : State → State} (s : State) (h : s.Apart (f s)) : s.Apart (onBus f s) := .ite (.refl s) h

theorem apart_whenRunning {f : State → State} (s : State) (h : s.Apart (f s)) : s.Apart (whenRunning f s) :=
  .ite h (.refl s)

/-! ### What a step can change -/

/-- The next state, when there is one, comes from `s` by changes. -/
def Changing (s : State) (o : Host.Outcome State Fault Refusal) : Prop := ∀ t, o = .next t → Changes s t

theorem Changing.next {s t : State} (h : Changes s t) : Changing s (.next t) := fun _ e => by
  cases e
  exact h

theorem Changing.apart {s t : State} (h : s.Apart t) : Changing s (.next t) := .next (.apart h)

/-- A command of both masters. -/
theorem changing_via {s : State} (via : Via) (c : EdCommand) (f : State → State) (h : ∀ t : State, t.Apart (f t)) :
    Changing s (match via with
      | .editorial h => .next (edCommand h c s)
      | .panel => .next (whenRunning f s)) := by
  split
  · exact .next (changes_edCommand ..)
  · exact .apart (apart_whenRunning s (h s))

/-- Data bytes, unless they would reach outside glyph memory. -/
theorem changing_images {s t : State} (h : Changes s t) :
    Changing s (if imagesOutside s then .fault .glyphAddress else .next t) := by
  by_cases outside : imagesOutside s = true
  · rw [if_pos outside]
    exact fun _ e => nomatch e
  · rw [if_neg outside]
    exact .next h

theorem apart_tu (s : State) (u : Tu) : s.Apart { s with tu := u } := .of_eq rfl rfl rfl rfl rfl

theorem apart_execFade {s : State} {b : Fin 4} {c : Prop} [Decidable c] (clean : Bool) :
    s.Apart (if c then moveBand clean b s else s) := .ite (apart_moveBand ..) (.refl s)

theorem changing_exec (i : Instr) (s : State) : Changing s (exec i s) := by
  cases i with
  | powerOn levels time => exact .next (.one (Change.clear ⟨rfl, .inl rfl, .inl rfl, rfl, nofun⟩))
  | resetAsserted => exact .next (.one (Change.clear (cleared_powerOnValues ..)))
  | initDone => exact .apart (apart_endInitialisation s)
  | deviceResetStart => exact .next (.ite (fun _ => .one (Change.clear (cleared_deviceReset s))) (fun _ => .refl s))
  | referencePulse time =>
    refine .next (.ite (fun _ => .ite (fun _ => .refl s) (fun _ => ?_)) (fun _ => ?_))
    · exact changes_timedFrameStart (apart_tu s _)
    · exact changes_timedFrameStart ((apart_tu s _).trans (apart_raiseTiming _))
  | lossLimit =>
    exact .next (.ite (fun _ => changes_timedFrameStart ((apart_tu s _).trans (apart_raiseTiming _))) (fun _ => .refl s))
  | freeRunPeriod =>
    exact .next (.ite (fun _ => .refl s) (fun _ => changes_timedFrameStart (apart_tu s _)))
  | flashExpired index => exact .next (changes_updQuote s index _ (Quote.kept_flashExpiry _))
  | laneSilent lane => exact .apart (apart_silenceLane ..)
  | drainEnd band => exact .apart (apart_drainEndStep ..)
  | clearingEnd band => exact .apart (apart_clearingEndStep ..)
  | holdExpired band => exact .next (changes_flipAlone _ _ _ s (fun c => changes_expirePage ..))
  | rollEnd band => exact .next (changes_flipAlone _ _ _ s (fun c => changes_endRoll ..))
  | leavingEnd band => exact .next (changes_flipAlone _ _ _ s (fun c => changes_endLeaving ..))
  | fadeOutComplete band => exact .apart (apart_execFade true)
  | fadeInComplete band =>
    refine .apart ?_
    split
    · exact .refl s
    · exact apart_execFade false
  | bankSwap band => exact .apart (apart_whenRunning s (apart_swapBanks ..))
  | retiringRecordFreed index => exact .next (changes_updQuote s index _ (Quote.kept_freeIfGone _))
  | deletingStoryFreed id => exact .next (.one (Change.freeStory id))
  | cleanRequest level => exact .apart (.of_eq rfl rfl rfl rfl rfl)
  | feedPacket bytes => exact .apart (.ite (.refl s) (apart_feedBytes ..))
  | feedStatusRecordSent =>
    refine .apart ?_
    split
    · exact .refl s
    · exact (apart_fli s _).trans (apart_endRecord ..)
  | updateEngineTurn => exact .next (changes_engineTurn s)
  | commandFrame bytes => exact .next (changes_commandFrame ..)
  | dataOutFrame bytes => exact changing_images (changes_dataOut ..)
  | dataInFrame count => exact .next (changes_dataIn ..)
  | statusFrame count => exact .next (changes_statusFrame ..)
  | linkReset => exact .next (changes_linkReset s)
  | setSourceDataComplete last => exact .next (changes_lastByte ..)
  | laneHold via lane =>
    exact changing_via via _ _ (fun t => apart_panelLaneCommand lane holdLane t (fun _ => apart_updLane ..))
  | laneRelease via lane =>
    exact changing_via via _ _ (fun t => apart_panelLaneCommand lane releaseLane t (fun _ => apart_updLane ..))
  | linkRelease via => exact changing_via via _ _ apart_releaseLink
  | loadStoryComplete last => exact .next (changes_lastByte ..)
  | loadFaceComplete last => exact .next (changes_lastByte ..)
  | loadGlyphImagesComplete last => exact changing_images (changes_lastByte ..)
  | editDataComplete last => exact .next (changes_lastByte ..)
  | softClean via value => exact changing_via via _ _ (apart_panelSoftClean value)
  | setThreshold via value => exact changing_via via _ _ (apart_panelThreshold value)
  | readEventsComplete => exact .next (.ite (fun _ => changes_dataIn ..) (fun _ => .refl s))
  | bandRequestQueued a =>
    cases a with
    | editorial h band r => exact .next (changes_edCommand ..)
    | panel band r => exact .apart (apart_whenRunning s (apart_panelRequest ..))
  | allTakeOff cut => exact .apart (apart_whenRunning s (apart_panelBroadcast ..))
  | allHalt => exact .apart (apart_whenRunning s (apart_panelBroadcast ..))
  | allResume => exact .apart (apart_whenRunning s (apart_panelBroadcast ..))
  | panelWrite bytes => exact .apart (apart_onBus s (apart_writeBytes ..))
  | startCondition => exact .apart (apart_onBus s (apart_restart ..))
  | stopCondition => exact .apart (apart_onBus s (apart_restart ..))
  | panelStatusRead clocked =>
    exact .apart (apart_onBus s ((apart_writeBytes ..).trans (apart_clockRead ..)))
  | panelStatusReadComplete => exact .apart (.ite (.refl s) (apart_clockRead ..))
  | frameOfUnknownKind kind => exact .next (changes_edFrame ..)
  | configure ticket band record => exact .next (changes_takeAlone ..)
  | release ticket band => exact .next (changes_takeAlone ..)
  | takeOn origin band fromTop => exact .next (changes_takeAlone ..)
  | takeOffDrain origin band => exact .next (changes_takeAlone ..)
  | takeOffCut origin band => exact .next (changes_takeAlone ..)
  | halt origin band => exact .next (changes_takeAlone ..)
  | resume origin band => exact .next (changes_takeAlone ..)
  | setSpeed ticket band value => exact .next (changes_takeAlone ..)
  | nudge band up => exact .next (changes_takeAlone ..)
  | commit ticket band mode => exact .next (changes_takeAlone ..)
  | breakNext ticket band story repeats => exact .next (changes_takeAlone ..)
  | breakNow ticket band story repeats => exact .next (changes_takeAlone ..)
  | breakClear ticket band => exact .next (changes_takeAlone ..)
  | _ => exact .next (changes_edCommand ..)

/-- Whatever a step does to the quote records, the stores and the windows is a chain of changes. -/
theorem changes_of_step {s t : State} (h : step s = .next t) : Changes s t := by
  unfold step at h
  split at h
  · cases h
    exact .apart (apart_sendFeedByte s)
  · next i rest _ =>
    have waiting : s.Apart (s.withPending rest) := .of_eq rfl rfl rfl rfl rfl
    exact (Changes.apart waiting).trans (changing_exec i _ t h)

end Sys2Proof.Machine

/-! SUPPORT. Every change keeps both memories canonical, the symbols of LIVE records unique and the text pool whole. -/

namespace Sys2Proof.Machine

/-- What every change keeps, every step keeps. -/
theorem step_keeps {P : State → Prop} (h : ∀ {s t : State}, Change s t → P s → P t) {s t : State} (k : step s = .next t)
    (p : P s) : P t := by
  have keeps : ∀ {u : State}, Changes s u → P u := fun c => by
    induction c with
    | refl => exact p
    | tail _ c ih => exact h c ih
  exact keeps (changes_of_step k)

/-! ### The memories -/

theorem State.memoryOk_congr {s t : State} (text : t.ts.text = s.ts.text) (mem : t.gs.mem = s.gs.mem) (h : s.memoryOk) :
    t.memoryOk := by
  unfold State.memoryOk
  rw [text, mem]
  exact h

theorem State.Kept.memoryOk {s t : State} (k : s.Kept t) (h : s.memoryOk) : t.memoryOk :=
  State.memoryOk_congr k.text (congrArg GlyphStore.mem k.gs) h

theorem completeStory_text (n : Nat) (s : State) : (completeStory n s).2.ts.text = s.ts.text := by
  unfold completeStory
  split <;> rfl

theorem completeStory_gs (n : Nat) (s : State) : (completeStory n s).2.gs = s.gs := by
  unfold completeStory
  split <;> rfl

/-- R83: the memories after a reset are empty, or kept. -/
theorem State.Cleared.memoryOk {s t : State} (k : s.Cleared t) (h : s.memoryOk) : t.memoryOk := by
  obtain ⟨text, mem⟩ := h
  constructor
  · rcases k.ts with e | e <;> rw [e]
    · rfl
    · exact text
  · rcases k.mem with e | e <;> rw [e]
    · rfl
    · exact mem

theorem Change.memoryOk {s t : State} (c : Change s t) (h : s.memoryOk) : t.memoryOk := by
  cases c with
  | apart k => exact State.memoryOk_congr (congrArg TextStore.text k.ts) k.mem h
  | create b x _ => exact (kept_addInstance b x s).memoryOk h
  | remove b n => exact (kept_removeFront b n s).memoryOk h
  | freeStory i => exact (kept_freeStoryIfGone i s).memoryOk h
  | complete st _ _ => exact State.memoryOk_congr (completeStory_text ..) (congrArg GlyphStore.mem (completeStory_gs ..)) h
  | writeText a b => exact ⟨Memory.wf_write a b h.1, h.2⟩
  | writeImage a b => exact ⟨h.1, Memory.wf_write a b h.2⟩
  | clear k => exact k.memoryOk h
  | quotes v _ => exact h
  | define i q _ _ _ _ => exact h
  | deleteStory i _ => exact h
  | designate i n _ _ _ => exact h
  | drop f _ => exact h

/-! ### The symbols -/

/-- No record of `t` is LIVE that was not LIVE in `s` with the same symbol. -/
def State.NoNewSymbol (s t : State) : Prop :=
  ∀ i, (t.quote i).state = .live → (s.quote i).state = .live ∧ (t.quote i).symbol = (s.quote i).symbol

theorem State.NoNewSymbol.of_eq {s t : State} (h : t.quotes = s.quotes) : s.NoNewSymbol t := by
  intro i
  unfold State.quote
  rw [h]
  exact fun live => ⟨live, rfl⟩

theorem State.NoNewSymbol.trans {s t u : State} (h : s.NoNewSymbol t) (k : t.NoNewSymbol u) : s.NoNewSymbol u :=
  fun i live => ⟨(h i (k i live).1).1, (k i live).2.trans (h i (k i live).1).2⟩

theorem State.NoNewSymbol.symbolsOk {s t : State} (k : s.NoNewSymbol t) (h : s.symbolsOk) : t.symbolsOk := by
  intro i j livei livej same
  refine h i j (k i livei).1 (k j livej).1 ?_
  rw [← (k i livei).2, ← (k j livej).2, same]

theorem noNewSymbol_updQuoteAt (s : State) (i : Nat) (f : Quote → Quote)
    (h : ∀ q, (f q).state = .live → q.state = .live ∧ (f q).symbol = q.symbol) : s.NoNewSymbol (s.updQuoteAt i f) := by
  unfold State.updQuoteAt
  split
  · intro j
    rw [State.updQuote_quote]
    split
    · next e => subst e; exact h _
    · exact fun live => ⟨live, rfl⟩
  · exact .of_eq rfl

theorem Quote.dropInstance_live (q : Quote) :
    q.dropInstance.state = .live → q.state = .live ∧ q.dropInstance.symbol = q.symbol :=
  (Quote.kept_freeIfGone { q with count := q.count - 1 }).live

theorem freeStoryIfGone_quotes (i : Fin 256) (s : State) : (freeStoryIfGone i s).quotes = s.quotes := by
  unfold freeStoryIfGone
  dsimp only
  split <;> rfl

theorem dropStory_quotes (i : Nat) (s : State) : (dropStory i s).quotes = s.quotes := by
  unfold dropStory
  split
  · exact freeStoryIfGone_quotes ..
  · rfl

theorem noNewSymbol_reportRemoval (x : Inst) (s : State) : s.NoNewSymbol (reportRemoval x s) := by
  unfold reportRemoval
  split
  · exact noNewSymbol_updQuoteAt _ _ _ Quote.dropInstance_live
  · exact .of_eq (dropStory_quotes ..)
  · exact .of_eq rfl
  · exact .of_eq rfl

theorem noNewSymbol_reportRemovals (l : List Inst) : ∀ s : State, s.NoNewSymbol (reportRemovals l s) := by
  induction l with
  | nil => exact fun s => .of_eq rfl
  | cons x t ih => exact fun s => (noNewSymbol_reportRemoval x s).trans (ih _)

theorem noNewSymbol_addInstance (b : Fin 4) (x : Inst) (s : State) : s.NoNewSymbol (addInstance b x s) := by
  unfold addInstance reportCreation
  split
  · exact State.NoNewSymbol.trans (.of_eq rfl) (noNewSymbol_updQuoteAt (s.updBand b _) _ _ (fun _ live => ⟨live, rfl⟩))
  · split <;> exact .of_eq rfl
  · exact .of_eq rfl
  · exact .of_eq rfl

theorem completeStory_quotes (n : Nat) (s : State) : (completeStory n s).2.quotes = s.quotes := by
  unfold completeStory
  split <;> rfl

/-- R4, R5: a definition gives a symbol that no LIVE record holds. -/
theorem State.symbolsOk_define {s : State} {i : Fin 1024} {q : Quote} (h : s.symbolsOk)
    (fresh : ∀ j, (s.quote j).state = .live → (s.quote j).symbol ≠ q.symbol) : (s.updQuote i (fun _ => q)).symbolsOk := by
  intro j k
  simp only [State.updQuote_quote]
  split
  · next ej =>
    split
    · next ek => exact fun _ _ _ => ej.symm.trans ek
    · exact fun _ live same => absurd same.symm (fresh k live)
  · split
    · exact fun live _ same => absurd same (fresh j live)
    · exact h j k

theorem Change.symbolsOk {s t : State} (c : Change s t) (h : s.symbolsOk) : t.symbolsOk := by
  cases c with
  | apart k => exact (State.NoNewSymbol.of_eq k.quotes).symbolsOk h
  | quotes v k => exact State.NoNewSymbol.symbolsOk (fun i => (k i).live) h
  | define i q _ _ _ fresh => exact State.symbolsOk_define h fresh
  | create b x _ => exact (noNewSymbol_addInstance b x s).symbolsOk h
  | remove b n =>
    exact State.NoNewSymbol.symbolsOk (.trans (.of_eq rfl) (noNewSymbol_reportRemovals _ (s.updBand b _))) h
  | freeStory i => exact (State.NoNewSymbol.of_eq (freeStoryIfGone_quotes i s)).symbolsOk h
  | complete st _ _ => exact State.NoNewSymbol.symbolsOk (.of_eq (completeStory_quotes ..)) h
  | clear k =>
    refine State.NoNewSymbol.symbolsOk (s := s) (fun i live => ?_) h
    rw [State.quote, k.quotes, tget_replicate] at live
    cases live
  | deleteStory i _ => exact h
  | designate i n _ _ _ => exact h
  | drop f _ => exact h
  | writeText a b => exact h
  | writeImage a b => exact h

/-! ### Ascending lists of blocks -/

theorem mem_insertBlock {n k : Nat} {l : List Nat} : k ∈ insertBlock n l ↔ k = n ∨ k ∈ l := by
  induction l with
  | nil => simp [insertBlock]
  | cons m t ih =>
    unfold insertBlock
    split
    · simp
    · simp only [List.mem_cons, ih]
      tauto

theorem insertBlock_length (n : Nat) (l : List Nat) : (insertBlock n l).length = l.length + 1 := by
  induction l with
  | nil => rfl
  | cons m t ih =>
    unfold insertBlock
    split
    · rfl
    · simp [ih]

theorem insertBlock_ascending {n : Nat} {l : List Nat} (h : l.Pairwise (· < ·)) (k : n ∉ l) :
    (insertBlock n l).Pairwise (· < ·) := by
  induction l with
  | nil => simp [insertBlock]
  | cons m t ih =>
    obtain ⟨first, rest⟩ := List.pairwise_cons.mp h
    rw [List.mem_cons, not_or] at k
    unfold insertBlock
    split
    · refine List.pairwise_cons.mpr ⟨fun x hx => ?_, h⟩
      rcases List.mem_cons.mp hx with e | hx
      · omega
      · have := first x hx
        omega
    · refine List.pairwise_cons.mpr ⟨fun x hx => ?_, ih rest k.2⟩
      rcases mem_insertBlock.mp hx with e | hx
      · omega
      · exact first x hx

theorem mem_insertBlocks {k : Nat} {bs l : List Nat} : k ∈ bs.foldr insertBlock l ↔ k ∈ bs ∨ k ∈ l := by
  induction bs with
  | nil => simp
  | cons b t ih => rw [List.foldr_cons, mem_insertBlock, ih, List.mem_cons, or_assoc]

theorem insertBlocks_length (bs l : List Nat) : (bs.foldr insertBlock l).length = bs.length + l.length := by
  induction bs with
  | nil => simp
  | cons b t ih =>
    rw [List.foldr_cons, insertBlock_length, ih, List.length_cons]
    omega

theorem insertBlocks_ascending {bs l : List Nat} (h : l.Pairwise (· < ·)) (k : bs.Nodup) (d : ∀ b ∈ bs, b ∉ l) :
    (bs.foldr insertBlock l).Pairwise (· < ·) := by
  induction bs with
  | nil => exact h
  | cons b t ih =>
    obtain ⟨apart, k⟩ := List.nodup_cons.mp k
    refine insertBlock_ascending (ih k (fun x hx => d x (List.mem_cons_of_mem b hx))) ?_
    rw [mem_insertBlocks, not_or]
    exact ⟨apart, d b List.mem_cons_self⟩

/-- A sum over a table in which one entry has another value. -/
theorem sum_finRange_update {n : Nat} {f g : Fin n → Nat} (i : Fin n) (h : ∀ j, j ≠ i → g j = f j) :
    ((List.finRange n).map g).sum + f i = ((List.finRange n).map f).sum + g i := by
  have rest : ∑ j ∈ Finset.univ.erase i, g j = ∑ j ∈ Finset.univ.erase i, f j :=
    Finset.sum_congr rfl (fun j hj => h j (Finset.ne_of_mem_erase hj))
  rw [← Fin.sum_univ_def, ← Fin.sum_univ_def, ← Finset.sum_erase_add _ g (Finset.mem_univ i),
    ← Finset.sum_erase_add _ f (Finset.mem_univ i), rest]
  omega

/-! ### The text pool -/

/-- `State.poolOk`, with a name for each clause. -/
structure State.Pool (s : State) : Prop where
  ascending : s.ts.freeBlocks.Pairwise (· < ·)
  inRange : ∀ k ∈ s.ts.freeBlocks, k < 4096
  nodup : ∀ i, (s.story i).blocks.Nodup
  held : ∀ i, ∀ k ∈ (s.story i).blocks, k < 4096 ∧ k ∉ s.ts.freeBlocks
  disjoint : ∀ i j, j ≠ i → ∀ k ∈ (s.story i).blocks, k ∉ (s.story j).blocks
  total : s.ts.freeBlocks.length + ((List.finRange 256).map (fun i => (s.story i).blocks.length)).sum = 4096
  size : ∀ i, (s.story i).blocks.length = ((s.story i).length + 31) / 32
  empty : ∀ i, (s.story i).state = .free → (s.story i).length = 0
  target : ∀ t, s.ts.loadTarget = some t →
    (s.story t.id).state = .free ∧ t.blocks.Pairwise (· < ·) ∧ ∀ k ∈ t.blocks, k ∈ s.ts.freeBlocks
  load : s.loadOk

theorem State.poolOk_iff {s : State} : s.poolOk ↔ s.Pool := by
  constructor
  · rintro ⟨⟨ascending, inRange⟩, stories, total, sizes, target, load⟩
    exact ⟨ascending, inRange, fun i => (stories i).1, fun i => (stories i).2.1, fun i => (stories i).2.2, total,
      fun i => (sizes i).1, fun i => (sizes i).2, target, load⟩
  · intro h
    exact ⟨⟨h.ascending, h.inRange⟩, fun i => ⟨h.nodup i, h.held i, h.disjoint i⟩, h.total,
      fun i => ⟨h.size i, h.empty i⟩, h.target, h.load⟩

/-- What the text pool speaks of is as it was. -/
structure State.SamePool (s t : State) : Prop where
  free : t.ts.freeBlocks = s.ts.freeBlocks
  blocks : ∀ i, (t.story i).blocks = (s.story i).blocks
  length : ∀ i, (t.story i).length = (s.story i).length
  state : ∀ i, (t.story i).state = .free ↔ (s.story i).state = .free
  target : t.ts.loadTarget = s.ts.loadTarget
  load : s.loadOk → t.loadOk

theorem State.SamePool.pool {s t : State} (k : s.SamePool t) (h : s.Pool) : t.Pool where
  ascending := k.free ▸ h.ascending
  inRange := k.free ▸ h.inRange
  nodup i := k.blocks i ▸ h.nodup i
  held i := by rw [k.blocks, k.free]; exact h.held i
  disjoint i j := by rw [k.blocks, k.blocks]; exact h.disjoint i j
  total := by simp only [k.free, k.blocks]; exact h.total
  size i := by rw [k.blocks, k.length]; exact h.size i
  empty i e := by rw [k.length]; exact h.empty i ((k.state i).mp e)
  target t e := by
    rw [k.free, k.state]
    exact h.target t (k.target ▸ e)
  load := k.load h.load

theorem State.SamePool.of_ts {s t : State} (ts : t.ts = s.ts) (load : s.loadOk → t.loadOk) : s.SamePool t := by
  have story : ∀ i, t.story i = s.story i := fun i => by rw [State.story, State.story, ts]
  exact ⟨by rw [ts], fun i => by rw [story], fun i => by rw [story], fun i => by rw [story], by rw [ts], load⟩

theorem State.Pool.of_ts {s t : State} (h : s.Pool) (ts : t.ts = s.ts) (load : s.loadOk → t.loadOk) : t.Pool :=
  (State.SamePool.of_ts ts load).pool h

/-- A story record whose blocks, length and being FREE stay. -/
theorem samePool_updStory (s : State) (i : Fin 256) (f : Story → Story)
    (h : (f (s.story i)).blocks = (s.story i).blocks ∧ (f (s.story i)).length = (s.story i).length ∧
      ((f (s.story i)).state = .free ↔ (s.story i).state = .free)) : s.SamePool (s.updStory i f) := by
  obtain ⟨blocks, length, state⟩ := h
  have other : ∀ {j}, i ≠ j → (s.updStory i f).story j = s.story j := fun {j} ne => by
    rw [State.updStory_story, if_neg ne]
  have own : (s.updStory i f).story i = f (s.story i) := by rw [State.updStory_story, if_pos rfl]
  refine ⟨rfl, fun j => ?_, fun j => ?_, fun j => ?_, rfl, id⟩ <;> by_cases e : i = j
  · subst e; rw [own, blocks]
  · rw [other e]
  · subst e; rw [own, length]
  · rw [other e]
  · subst e; rw [own, state]
  · rw [other e]

/-- R72: a story is freed, and its blocks return to the free set. -/
theorem State.Pool.freeStory {s : State} {i : Fin 256} {g : Nat} (h : s.Pool) (deleting : (s.story i).state ≠ .free)
    (t : State)
    (ts : t.ts = { s.ts with
      stories := tupd s.ts.stories i (fun _ => Story.free g),
      freeBlocks := (s.story i).blocks.foldr insertBlock s.ts.freeBlocks })
    (load : t.loadOk) : t.Pool := by
  have freed : t.story i = Story.free g := by rw [State.story, ts, tget_tupd_self]
  have other : ∀ {j}, j ≠ i → t.story j = s.story j := fun {j} ne => by
    rw [State.story, ts, tget_tupd_ne _ (Ne.symm ne)]; rfl
  have free : t.ts.freeBlocks = (s.story i).blocks.foldr insertBlock s.ts.freeBlocks := by rw [ts]
  have none_held : (t.story i).blocks = [] := by rw [freed]; rfl
  refine ⟨?_, ?_, ?_, ?_, ?_, ?_, ?_, ?_, ?_, load⟩
  · rw [free]; exact insertBlocks_ascending h.ascending (h.nodup i) (fun k hk => (h.held i k hk).2)
  · intro k hk
    rw [free] at hk
    rcases mem_insertBlocks.mp hk with hk | hk
    · exact (h.held i k hk).1
    · exact h.inRange k hk
  · intro j
    by_cases e : j = i
    · subst e; rw [none_held]; exact List.nodup_nil
    · rw [other e]; exact h.nodup j
  · intro j k hk
    by_cases e : j = i
    · subst e; rw [none_held] at hk; cases hk
    · rw [other e] at hk
      refine ⟨(h.held j k hk).1, fun hf => ?_⟩
      rw [free] at hf
      rcases mem_insertBlocks.mp hf with hf | hf
      · exact h.disjoint j i (Ne.symm e) k hk hf
      · exact (h.held j k hk).2 hf
  · intro j l ne k hk
    by_cases e : j = i
    · subst e; rw [none_held] at hk; cases hk
    · by_cases e' : l = i
      · subst e'; rw [none_held]; exact List.not_mem_nil
      · rw [other e] at hk; rw [other e']; exact h.disjoint j l ne k hk
  · have total := h.total
    have sum := sum_finRange_update (f := fun j => (s.story j).blocks.length) (g := fun j => (t.story j).blocks.length) i
      (fun j ne => by rw [other ne])
    have : (t.story i).blocks.length = 0 := by rw [none_held]; rfl
    rw [free, insertBlocks_length]
    omega
  · intro j
    by_cases e : j = i
    · subst e; rw [freed]; simp [Story.free]
    · rw [other e]; exact h.size j
  · intro j
    by_cases e : j = i
    · subst e; rw [freed]; exact fun _ => rfl
    · rw [other e]; exact h.empty j
  · intro l hl
    rw [ts] at hl
    obtain ⟨state, ascending, inside⟩ := h.target l hl
    have ne : l.id ≠ i := fun e => deleting (e ▸ state)
    rw [free, other ne]
    exact ⟨state, ascending, fun k hk => mem_insertBlocks.mpr (.inr (inside k hk))⟩

theorem State.Pool.freeStoryIfGone {s : State} (h : s.Pool) (i : Fin 256) : (freeStoryIfGone i s).Pool := by
  unfold Machine.freeStoryIfGone
  dsimp only
  split
  · next gone =>
    exact h.freeStory (g := (s.story i).gen) (by rw [gone.1]; nofun) _ rfl h.load
  · exact h

theorem State.Pool.reportRemovals (l : List Inst) : ∀ {s : State}, s.Pool → (reportRemovals l s).Pool := by
  induction l with
  | nil => exact id
  | cons x t ih =>
    intro s h
    refine ih ?_
    unfold reportRemoval
    split
    · unfold State.updQuoteAt
      split
      · exact h.of_ts rfl id
      · exact h
    · unfold dropStory
      split
      · exact ((samePool_updStory s _ _ ⟨rfl, rfl, Iff.rfl⟩).pool h).freeStoryIfGone _
      · exact h
    · exact h
    · exact h

theorem State.Pool.addInstance {s : State} (h : s.Pool) (b : Fin 4) (x : Inst) : (addInstance b x s).Pool := by
  have shown : (s.updBand b (fun d => { d with window := d.window ++ [x] })).Pool := h.of_ts rfl id
  unfold Machine.addInstance reportCreation
  split
  · unfold State.updQuoteAt
    split
    · exact shown.of_ts rfl id
    · exact shown
  · split
    · exact (samePool_updStory _ _ _ ⟨rfl, rfl, Iff.rfl⟩).pool shown
    · exact shown
  · exact shown
  · exact shown

/-- R70: the target of a load takes its designated blocks from the free set. -/
theorem State.Pool.complete {s : State} {l : LoadTarget} {g n : Nat} (h : s.Pool) (target : s.ts.loadTarget = some l)
    (enough : l.blocks.length = (n / 2 + 31) / 32) (t : State)
    (ts : t.ts = { s.ts with
      stories := tupd s.ts.stories l.id (fun _ => ⟨.loaded, g, n / 2, l.blocks, 0⟩),
      freeBlocks := s.ts.freeBlocks.filter (fun b => !l.blocks.contains b), loadTarget := none })
    (load : t.loadOk) : t.Pool := by
  obtain ⟨state, ascending, inside⟩ := h.target l target
  have loaded : t.story l.id = ⟨.loaded, g, n / 2, l.blocks, 0⟩ := by rw [State.story, ts, tget_tupd_self]
  have other : ∀ {j}, j ≠ l.id → t.story j = s.story j := fun {j} ne => by
    rw [State.story, ts, tget_tupd_ne _ (Ne.symm ne)]; rfl
  have free : ∀ k, k ∈ t.ts.freeBlocks ↔ k ∈ s.ts.freeBlocks ∧ k ∉ l.blocks := fun k => by rw [ts]; simp
  have taken : (t.story l.id).blocks = l.blocks := by rw [loaded]
  have empty : (s.story l.id).blocks.length = 0 := by rw [h.size, h.empty _ state]
  have nodup : l.blocks.Nodup := ascending.imp (fun lt => Nat.ne_of_lt lt)
  have count : t.ts.freeBlocks.length + l.blocks.length = s.ts.freeBlocks.length := by
    have inside : (s.ts.freeBlocks.filter (fun b => l.blocks.contains b)).Perm l.blocks :=
      (List.perm_ext_iff_of_nodup (h.ascending.imp (fun lt => Nat.ne_of_lt lt) |>.filter _) nodup).mpr
        (fun k => by simpa using inside k)
    have parts := (List.filter_append_perm (fun b => l.blocks.contains b) s.ts.freeBlocks).length_eq
    rw [List.length_append, inside.length_eq] at parts
    rw [ts, Nat.add_comm]
    exact parts
  refine ⟨?_, ?_, ?_, ?_, ?_, ?_, ?_, ?_, ?_, load⟩
  · rw [ts]; exact h.ascending.filter _
  · exact fun k hk => h.inRange k ((free k).mp hk).1
  · intro j
    by_cases e : j = l.id
    · subst e; rw [taken]; exact nodup
    · rw [other e]; exact h.nodup j
  · intro j k hk
    rw [free]
    by_cases e : j = l.id
    · subst e; rw [taken] at hk
      exact ⟨h.inRange k (inside k hk), fun hf => hf.2 hk⟩
    · rw [other e] at hk
      exact ⟨(h.held j k hk).1, fun hf => (h.held j k hk).2 hf.1⟩
  · intro j m ne k hk
    by_cases e : j = l.id
    · subst e; rw [taken] at hk; rw [other ne]
      exact fun hm => (h.held m k hm).2 (inside k hk)
    · rw [other e] at hk
      by_cases e' : m = l.id
      · subst e'; rw [taken]
        exact fun hm => (h.held j k hk).2 (inside k hm)
      · rw [other e']; exact h.disjoint j m ne k hk
  · have total := h.total
    have sum := sum_finRange_update (f := fun j => (s.story j).blocks.length) (g := fun j => (t.story j).blocks.length) l.id
      (fun j ne => by rw [other ne])
    have : (t.story l.id).blocks.length = l.blocks.length := by rw [taken]
    omega
  · intro j
    by_cases e : j = l.id
    · subst e; rw [loaded]; exact enough
    · rw [other e]; exact h.size j
  · intro j
    by_cases e : j = l.id
    · subst e; rw [loaded]; exact nofun
    · rw [other e]; exact h.empty j
  · rw [ts]; exact nofun

/-- R83: the pool after a reset. -/
theorem pool_of_reset {t : State} {text : Memory} (ts : t.ts = TextStore.reset text) (load : t.loadOk) : t.Pool := by
  have story : ∀ i, t.story i = Story.free 0 := fun i => by rw [State.story, ts]; exact tget_replicate _ i
  have free : t.ts.freeBlocks = List.range Config.blockCount := by rw [ts, TextStore.reset]
  have range : Config.blockCount = 4096 := rfl
  generalize Config.blockCount = n at free range
  refine ⟨?_, ?_, ?_, ?_, ?_, ?_, ?_, ?_, ?_, load⟩
  · rw [free]; exact List.pairwise_lt_range
  · rw [free, range]; exact fun k hk => List.mem_range.mp hk
  · intro i; rw [story]; exact List.nodup_nil
  · intro i k hk; rw [story] at hk; cases hk
  · intro i j _ k hk; rw [story] at hk; cases hk
  · rw [← Fin.sum_univ_def, Finset.sum_eq_zero (fun i _ => by rw [story]; rfl), free, List.length_range]
    exact range
  · intro i; rw [story]; simp [Story.free]
  · intro i _; rw [story]; rfl
  · rw [ts]; exact nofun

theorem Change.pool {s t : State} (c : Change s t) (h : s.Pool) : t.Pool := by
  cases c with
  | apart k => exact h.of_ts k.ts k.load
  | quotes v _ => exact h.of_ts rfl id
  | define i q _ _ _ _ => exact h.of_ts rfl id
  | create b x _ => exact h.addInstance b x
  | remove b n => exact State.Pool.reportRemovals _ (h.of_ts rfl id)
  | freeStory i => exact h.freeStoryIfGone i
  | deleteStory i loaded =>
    refine (samePool_updStory s i _ ⟨rfl, rfl, ?_⟩).pool h
    rw [loaded]
    exact ⟨nofun, nofun⟩
  | designate i n free enough phase =>
    refine { h with target := ?_, load := State.loadOk_of_phase phase }
    intro l hl
    cases hl
    exact ⟨free, h.ascending.sublist (List.take_sublist ..), fun k hk => List.mem_of_mem_take hk⟩
  | complete st phase command =>
    obtain ⟨l, target, enough⟩ := h.load phase command
    have load : (finish st (completeStory s.eli.dataLength s).2).loadOk := State.loadOk_of_phase nofun
    refine h.complete (g := nextGen (s.story l.id).gen) target enough _ ?_ load
    unfold finish completeStory
    rw [target]
    rfl
  | drop f phase => exact { h with target := nofun, load := State.loadOk_of_phase phase }
  | writeText a b => exact { h with }
  | writeImage a b => exact h.of_ts rfl id
  | clear k =>
    have load := State.loadOk_of_phase k.phase
    exact k.ts.elim (fun e => pool_of_reset e load) (fun e => pool_of_reset e load)

/-- Settles O53: each of the three invariants is kept by every change, and a step is a chain of changes. -/
theorem everyStepKeepsStores : Obligations.EveryStepKeepsStores := by
  unfold Obligations.EveryStepKeepsStores
  refine ⟨fun s t h k => step_keeps Change.memoryOk k h, fun s t h k => step_keeps Change.symbolsOk k h, fun s t h k => ?_⟩
  exact State.poolOk_iff.mpr (step_keeps Change.pool k (State.poolOk_iff.mp h))

end Sys2Proof.Machine

/-! SUPPORT. Every change keeps the on-screen counts. `State.counts s l` says that they count the instances of the four windows
and those of `l`, which have left a window and wait to be reported. -/

namespace Sys2Proof.Machine

/-! ### Instances by what they refer to -/

/-- The window entry shows the quote record at index `i`. -/
def InstKind.isQuote (i : Nat) : InstKind → Bool
  | .quote r => r.index == i
  | .story _ => false
  | .glyph _ => false
  | .spacer => false

/-- The window entry shows the story at id `i`. -/
def InstKind.isStory (i : Nat) : InstKind → Bool
  | .quote _ => false
  | .story r => r.index == i
  | .glyph _ => false
  | .spacer => false

theorem quoteInstances_eq (i : Nat) (w : List Inst) :
    quoteInstances i w = (w.map Inst.kind).countP (InstKind.isQuote i) := by
  rw [List.countP_map]
  refine List.countP_congr (fun x _ => ?_)
  unfold Function.comp InstKind.isQuote
  cases x.kind <;> rfl

theorem storyInstances_eq (i : Nat) (w : List Inst) :
    storyInstances i w = (w.map Inst.kind).countP (InstKind.isStory i) := by
  rw [List.countP_map]
  refine List.countP_congr (fun x _ => ?_)
  unfold Function.comp InstKind.isStory
  cases x.kind <;> rfl

@[simp] theorem quoteInstances_nil (i : Nat) : quoteInstances i [] = 0 := rfl

@[simp] theorem storyInstances_nil (i : Nat) : storyInstances i [] = 0 := rfl

theorem quoteInstances_append (i : Nat) (v w : List Inst) :
    quoteInstances i (v ++ w) = quoteInstances i v + quoteInstances i w := List.countP_append

theorem storyInstances_append (i : Nat) (v w : List Inst) :
    storyInstances i (v ++ w) = storyInstances i v + storyInstances i w := List.countP_append

theorem quoteInstances_cons (i : Nat) (x : Inst) (w : List Inst) :
    quoteInstances i (x :: w) = (if x.kind.isQuote i then 1 else 0) + quoteInstances i w := by
  rw [quoteInstances_eq, quoteInstances_eq, List.map_cons, List.countP_cons, Nat.add_comm]

theorem storyInstances_cons (i : Nat) (x : Inst) (w : List Inst) :
    storyInstances i (x :: w) = (if x.kind.isStory i then 1 else 0) + storyInstances i w := by
  rw [storyInstances_eq, storyInstances_eq, List.map_cons, List.countP_cons, Nat.add_comm]

/-! ### Sums over the bands -/

theorem State.sumBands_congr {s t : State} {f : Band → Nat} (h : ∀ b, f (t.band b) = f (s.band b)) :
    t.sumBands f = s.sumBands f := by
  unfold State.sumBands
  rw [h, h, h, h]

/-- A sum over the bands of which one has changed. -/
theorem State.sumBands_updBand (s : State) (b : Fin 4) (g : Band → Band) (f : Band → Nat) :
    (s.updBand b g).sumBands f + f (s.band b) = s.sumBands f + f (g (s.band b)) := by
  unfold State.sumBands
  simp only [State.updBand_band]
  fin_cases b <;> simp <;> omega

theorem State.sumBands_eq_zero {s : State} {f : Band → Nat} (h : ∀ b, f (s.band b) = 0) : s.sumBands f = 0 := by
  unfold State.sumBands
  rw [h, h, h, h]

/-! ### The counts with removals that wait to be reported -/

/-- R9: the count of a record that `n` instances show. -/
def Quote.counts (q : Quote) (n : Nat) : Prop := q.count = n ∧ (q.state = .free → q.count = 0)

/-- R72: the count of a story that `n` instances show. -/
def Story.counts (st : Story) (n : Nat) : Prop := st.count = n ∧ (st.state = .free → st.count = 0)

/-- The counts are those of the instances in the windows and in `l`, a FREE record has none, and a load's record is FREE. -/
structure State.counts (s : State) (l : List Inst) : Prop where
  quote : ∀ i, (s.quote i).counts (s.sumBands (fun d => quoteInstances i.val d.window) + quoteInstances i.val l)
  story : ∀ i, (s.story i).counts (s.sumBands (fun d => storyInstances i.val d.window) + storyInstances i.val l)
  target : ∀ t, s.ts.loadTarget = some t → (s.story t.id).state = .free

theorem State.counts_nil_iff {s : State} : s.counts [] ↔ s.quoteCountsOk ∧ s.storyCountsOk :=
  ⟨fun h => ⟨h.quote, h.story, h.target⟩, fun ⟨quote, story, target⟩ => ⟨quote, story, target⟩⟩

/-- The windows show the same instances. -/
def State.SameWindows (s t : State) : Prop := ∀ b, (t.band b).window.map Inst.kind = (s.band b).window.map Inst.kind

theorem State.SameWindows.of_eq {s t : State} (h : t.bands = s.bands) : s.SameWindows t := fun b => by
  rw [State.band, State.band, h]

theorem State.SameWindows.sumQuotes {s t : State} (h : s.SameWindows t) (i : Nat) :
    t.sumBands (fun d => quoteInstances i d.window) = s.sumBands (fun d => quoteInstances i d.window) :=
  State.sumBands_congr (fun b => by simp only [quoteInstances_eq, h b])

theorem State.SameWindows.sumStories {s t : State} (h : s.SameWindows t) (i : Nat) :
    t.sumBands (fun d => storyInstances i d.window) = s.sumBands (fun d => storyInstances i d.window) :=
  State.sumBands_congr (fun b => by simp only [storyInstances_eq, h b])

/-- A change of the quote records alone. -/
theorem State.counts.of_quotes {s t : State} {l m : List Inst} (h : s.counts l) (windows : s.SameWindows t) (ts : t.ts = s.ts)
    (stories : ∀ i, storyInstances i m = storyInstances i l)
    (quotes : ∀ i, (s.quote i).counts (s.sumBands (fun d => quoteInstances i.val d.window) + quoteInstances i.val l) →
      (t.quote i).counts (s.sumBands (fun d => quoteInstances i.val d.window) + quoteInstances i.val m)) : t.counts m where
  quote i := by
    rw [windows.sumQuotes]
    exact quotes i (h.quote i)
  story i := by
    rw [windows.sumStories, stories, State.story, ts]
    exact h.story i
  target k hk := by
    rw [State.story, ts]
    exact h.target k (ts ▸ hk)

/-- A change of the story records alone. -/
theorem State.counts.of_stories {s t : State} {l m : List Inst} (h : s.counts l) (windows : s.SameWindows t)
    (quotes : t.quotes = s.quotes) (same : ∀ i, quoteInstances i m = quoteInstances i l)
    (stories : ∀ i, (s.story i).counts (s.sumBands (fun d => storyInstances i.val d.window) + storyInstances i.val l) →
      (t.story i).counts (s.sumBands (fun d => storyInstances i.val d.window) + storyInstances i.val m))
    (target : ∀ k, t.ts.loadTarget = some k → (t.story k.id).state = .free) : t.counts m where
  quote i := by
    rw [windows.sumQuotes, same, State.quote, quotes]
    exact h.quote i
  story i := by
    rw [windows.sumStories]
    exact stories i (h.story i)
  target := target

theorem State.counts.apart {s t : State} {l : List Inst} (h : s.counts l) (k : s.Apart t) : t.counts l :=
  h.of_quotes k.kinds k.ts (fun _ => rfl) (fun i c => by
    rw [State.quote, k.quotes]
    exact c)

/-! ### Removals -/

/-- R10: one removal is counted, and a RETIRING record without instances is freed. -/
theorem Quote.counts.dropInstance {q : Quote} {n : Nat} (h : q.counts (n + 1)) : q.dropInstance.counts n := by
  obtain ⟨count, free⟩ := h
  unfold Quote.dropInstance Quote.freeIfGone
  split
  · next gone =>
    have zero : q.count - 1 = 0 := gone.2
    exact ⟨by show 0 = n; omega, fun _ => rfl⟩
  · exact ⟨by show q.count - 1 = n; omega, fun e => by show q.count - 1 = 0; rw [free e]⟩

theorem freeStoryIfGone_target (i : Fin 256) (s : State) : (freeStoryIfGone i s).ts.loadTarget = s.ts.loadTarget :=
  (kept_freeStoryIfGone i s).loadTarget

theorem freeStoryIfGone_bands (i : Fin 256) (s : State) : (freeStoryIfGone i s).bands = s.bands := by
  unfold freeStoryIfGone
  dsimp only
  split <;> rfl

/-- R72: what freeing a DELETING story without instances makes of the story records. -/
theorem freeStoryIfGone_story (i j : Fin 256) (s : State) :
    (freeStoryIfGone i s).story j = s.story j ∨
      ((s.story j).count = 0 ∧ (freeStoryIfGone i s).story j = Story.free (s.story j).gen) := by
  unfold freeStoryIfGone
  dsimp only
  split
  · next gone =>
    by_cases e : i = j
    · subst e
      refine .inr ⟨gone.2, ?_⟩
      show tget (tupd s.ts.stories i _) i = _
      rw [tget_tupd_self]
      rfl
    · refine .inl ?_
      show tget (tupd s.ts.stories i _) j = _
      rw [tget_tupd_ne _ e]
      rfl
  · exact .inl rfl

theorem State.counts.freeStoryIfGone {s : State} {l : List Inst} (h : s.counts l) (i : Fin 256) :
    (freeStoryIfGone i s).counts l := by
  refine h.of_stories (.of_eq (freeStoryIfGone_bands i s)) (freeStoryIfGone_quotes i s) (fun _ => rfl) (fun j c => ?_)
    (fun k hk => ?_)
  · rcases freeStoryIfGone_story i j s with e | ⟨zero, e⟩ <;> rw [e]
    · exact c
    · exact ⟨by rw [← c.1, zero]; rfl, fun _ => rfl⟩
  · rw [freeStoryIfGone_target] at hk
    rcases freeStoryIfGone_story i k.id s with e | ⟨_, e⟩ <;> rw [e]
    · exact h.target k hk
    · rfl

theorem State.counts.dropStory {s : State} {l : List Inst} {x : Inst} {r : Ref} (h : s.counts (x :: l))
    (kind : x.kind = .story r) : (dropStory r.index s).counts l := by
  have quotes : ∀ i, quoteInstances i l = quoteInstances i (x :: l) := fun i => by
    rw [quoteInstances_cons, kind]
    simp [InstKind.isQuote]
  have stories : ∀ i, storyInstances i (x :: l) = (if r.index = i then 1 else 0) + storyInstances i l := fun i => by
    rw [storyInstances_cons, kind]
    simp [InstKind.isStory]
  unfold Machine.dropStory
  split
  · next inRange =>
    refine State.counts.freeStoryIfGone ?_ _
    refine h.of_stories (.of_eq rfl) rfl quotes (fun i c => ?_) (fun k hk => ?_)
    · rw [State.updStory_story]
      rw [stories] at c
      split
      · next e =>
        subst e
        rw [if_pos rfl] at c
        exact ⟨by simp only [c.1]; omega, fun e => by simp [c.2 e]⟩
      · next ne =>
        rw [if_neg (fun e => ne (Fin.ext e)), Nat.zero_add] at c
        exact c
    · rw [State.updStory_story]
      split
      · next e => rw [e]; exact h.target k hk
      · exact h.target k hk
  · next outside =>
    refine h.of_stories (.of_eq rfl) rfl quotes (fun i c => ?_) h.target
    rw [stories, if_neg (fun e : r.index = i.val => outside (e ▸ i.isLt)), Nat.zero_add] at c
    exact c

theorem State.counts.dropQuote {s : State} {l : List Inst} {x : Inst} {r : Ref} (h : s.counts (x :: l))
    (kind : x.kind = .quote r) : (s.updQuoteAt r.index Quote.dropInstance).counts l := by
  have stories : ∀ i, storyInstances i l = storyInstances i (x :: l) := fun i => by
    rw [storyInstances_cons, kind]
    simp [InstKind.isStory]
  have quotes : ∀ i, quoteInstances i (x :: l) = (if r.index = i then 1 else 0) + quoteInstances i l := fun i => by
    rw [quoteInstances_cons, kind]
    simp [InstKind.isQuote]
  unfold State.updQuoteAt
  split
  · next inRange =>
    refine h.of_quotes (.of_eq rfl) rfl stories (fun i c => ?_)
    rw [State.updQuote_quote]
    rw [quotes] at c
    split
    · next e =>
      subst e
      rw [if_pos rfl] at c
      refine Quote.counts.dropInstance (n := _) ?_
      rw [Nat.add_comm 1, ← Nat.add_assoc] at c
      exact c
    · next ne =>
      rw [if_neg (fun e => ne (Fin.ext e)), Nat.zero_add] at c
      exact c
  · next outside =>
    refine h.of_quotes (.of_eq rfl) rfl stories (fun i c => ?_)
    rw [quotes, if_neg (fun e : r.index = i.val => outside (e ▸ i.isLt)), Nat.zero_add] at c
    exact c

theorem State.counts.reportRemoval {s : State} {l : List Inst} {x : Inst} (h : s.counts (x :: l)) :
    (reportRemoval x s).counts l := by
  have shown : (∀ i, x.kind.isQuote i = false) → (∀ i, x.kind.isStory i = false) → s.counts l := fun q st =>
    h.of_quotes (.of_eq rfl) rfl (fun i => by simp [storyInstances_cons, st]) (fun i c => by
      rw [quoteInstances_cons, q] at c
      simpa using c)
  unfold Machine.reportRemoval
  split
  · next r kind => exact h.dropQuote kind
  · next r kind => exact h.dropStory kind
  · next kind => exact shown (fun i => by rw [kind]; rfl) (fun i => by rw [kind]; rfl)
  · next kind => exact shown (fun i => by rw [kind]; rfl) (fun i => by rw [kind]; rfl)

theorem State.counts.reportRemovals : ∀ {l : List Inst} {s : State}, s.counts l → (reportRemovals l s).counts []
  | [], _, h => h
  | _ :: _, _, h => h.reportRemoval.reportRemovals

theorem State.counts.removeFront {s : State} (h : s.counts []) (b : Fin 4) (n : Nat) : (removeFront b n s).counts [] := by
  have sums : ∀ f : List Inst → Nat, (∀ v w, f (v ++ w) = f v + f w) →
      (s.updBand b (fun d => { d with window := d.window.drop n })).sumBands (fun d => f d.window) +
        f ((s.band b).window.take n) = s.sumBands (fun d => f d.window) := fun f add => by
    have key := s.sumBands_updBand b (fun d => { d with window := d.window.drop n }) (fun d => f d.window)
    have parts := add ((s.band b).window.take n) ((s.band b).window.drop n)
    rw [List.take_append_drop] at parts
    dsimp only at key
    omega
  refine State.counts.reportRemovals ⟨fun i => ?_, fun i => ?_, h.target⟩
  · rw [sums _ (quoteInstances_append i.val)]
    exact h.quote i
  · rw [sums _ (storyInstances_append i.val)]
    exact h.story i

/-! ### The other changes -/

/-- R3, R68: a reference that resolves names a record in range that is not FREE. -/
theorem State.resolvesQuote_record {s : State} {r : Ref} (h : s.resolvesQuote r = true) :
    ∃ lt : r.index < 1024, (s.quote ⟨r.index, lt⟩).state = .live := by
  unfold State.resolvesQuote State.quoteAt at h
  by_cases lt : r.index < 1024
  · rw [dif_pos lt] at h
    simp only [Bool.and_eq_true, decide_eq_true_eq] at h
    exact ⟨lt, h.1.1⟩
  · rw [dif_neg lt] at h
    cases h

theorem State.resolvesStory_record {s : State} {r : Ref} (h : s.resolvesStory r = true) :
    ∃ lt : r.index < 256, (s.story ⟨r.index, lt⟩).state = .loaded := by
  unfold State.resolvesStory State.storyAt at h
  by_cases lt : r.index < 256
  · rw [dif_pos lt] at h
    simp only [Bool.and_eq_true, decide_eq_true_eq] at h
    exact ⟨lt, h.1.1⟩
  · rw [dif_neg lt] at h
    cases h

/-- The window entry has joined the window, and its creation is not yet reported. -/
def State.joined (s : State) (b : Fin 4) (x : Inst) : State := s.updBand b (fun d => { d with window := d.window ++ [x] })

@[simp] theorem State.joined_quote (s : State) (b : Fin 4) (x : Inst) (i : Fin 1024) :
    (s.joined b x).quote i = s.quote i := rfl

@[simp] theorem State.joined_story (s : State) (b : Fin 4) (x : Inst) (i : Fin 256) :
    (s.joined b x).story i = s.story i := rfl

theorem sumBands_joined (s : State) (b : Fin 4) (x : Inst) {f : List Inst → Nat} (add : ∀ v w, f (v ++ w) = f v + f w) :
    (s.joined b x).sumBands (fun d => f d.window) = s.sumBands (fun d => f d.window) + f [x] := by
  have key := s.sumBands_updBand b (fun d => { d with window := d.window ++ [x] }) (fun d => f d.window)
  simp only [add] at key
  unfold State.joined
  omega

theorem quotes_joined (s : State) (b : Fin 4) (x : Inst) (i : Nat) :
    (s.joined b x).sumBands (fun d => quoteInstances i d.window) =
      s.sumBands (fun d => quoteInstances i d.window) + if x.kind.isQuote i then 1 else 0 := by
  rw [sumBands_joined s b x (quoteInstances_append i), quoteInstances_cons]
  rfl

theorem stories_joined (s : State) (b : Fin 4) (x : Inst) (i : Nat) :
    (s.joined b x).sumBands (fun d => storyInstances i d.window) =
      s.sumBands (fun d => storyInstances i d.window) + if x.kind.isStory i then 1 else 0 := by
  rw [sumBands_joined s b x (storyInstances_append i), storyInstances_cons]
  rfl

/-- R10: the creation of a QUOTE window entry is counted at its record. -/
theorem State.counts.createQuote {s : State} (h : s.counts []) (b : Fin 4) {x : Inst} {r : Ref} (kind : x.kind = .quote r)
    (k : s.resolvesQuote r = true) :
    ((s.joined b x).updQuoteAt r.index (fun q => { q with count := q.count + 1 })).counts [] := by
  obtain ⟨lt, live⟩ := State.resolvesQuote_record k
  rw [State.updQuoteAt, dif_pos lt]
  refine ⟨fun i => ?_, fun i => ?_, h.target⟩
  · show (((s.joined b x).updQuote _ _).quote i).counts ((s.joined b x).sumBands (fun d => quoteInstances i d.window) + 0)
    rw [quotes_joined, kind, State.updQuote_quote]
    obtain ⟨count, free⟩ := h.quote i
    split
    · next e =>
      subst e
      refine ⟨?_, fun e => nomatch live.symm.trans e⟩
      show (s.quote _).count + 1 = _
      rw [count]
      simp [InstKind.isQuote]
    · next ne =>
      have : r.index ≠ i.val := fun e => ne (Fin.ext e)
      exact ⟨by simpa [InstKind.isQuote, this] using count, free⟩
  · show (s.story i).counts ((s.joined b x).sumBands (fun d => storyInstances i d.window) + 0)
    rw [stories_joined, kind]
    exact h.story i

/-- R72: the creation of a STORY window entry is counted at its record. -/
theorem State.counts.createStory {s : State} (h : s.counts []) (b : Fin 4) {x : Inst} {r : Ref} (kind : x.kind = .story r)
    (k : s.resolvesStory r = true) (lt : r.index < 256) :
    ((s.joined b x).updStory ⟨r.index, lt⟩ (fun st => { st with count := st.count + 1 })).counts [] := by
  obtain ⟨_, loaded⟩ := State.resolvesStory_record k
  refine ⟨fun i => ?_, fun i => ?_, fun l hl => ?_⟩
  · show (s.quote i).counts ((s.joined b x).sumBands (fun d => quoteInstances i d.window) + 0)
    rw [quotes_joined, kind]
    exact h.quote i
  · show (((s.joined b x).updStory _ _).story i).counts ((s.joined b x).sumBands (fun d => storyInstances i d.window) + 0)
    rw [stories_joined, kind, State.updStory_story]
    obtain ⟨count, free⟩ := h.story i
    split
    · next e =>
      subst e
      refine ⟨?_, fun e => nomatch loaded.symm.trans e⟩
      show (s.story _).count + 1 = _
      rw [count]
      simp [InstKind.isStory]
    · next ne =>
      have : r.index ≠ i.val := fun e => ne (Fin.ext e)
      exact ⟨by simpa [InstKind.isStory, this] using count, free⟩
  · rw [State.updStory_story]
    split
    · next e => rw [e]; exact h.target l hl
    · exact h.target l hl

theorem State.counts.addInstance {s : State} (h : s.counts []) (b : Fin 4) {x : Inst} (k : s.refers x.kind) :
    (addInstance b x s).counts [] := by
  have others : (∀ i, x.kind.isQuote i = false) → (∀ i, x.kind.isStory i = false) → (s.joined b x).counts [] :=
    fun q st => ⟨fun i => by rw [quotes_joined, q]; exact h.quote i, fun i => by rw [stories_joined, st]; exact h.story i,
      h.target⟩
  unfold Machine.addInstance reportCreation
  split
  · next r kind => exact h.createQuote b kind (by rw [kind] at k; exact k)
  · next r kind =>
    have resolves : s.resolvesStory r = true := by rw [kind] at k; exact k
    obtain ⟨lt, _⟩ := State.resolvesStory_record resolves
    rw [dif_pos lt]
    exact h.createStory b kind resolves lt
  · next kind => exact others (fun i => by rw [kind]; rfl) (fun i => by rw [kind]; rfl)
  · next kind => exact others (fun i => by rw [kind]; rfl) (fun i => by rw [kind]; rfl)

theorem State.counts.updQuotes {s : State} (h : s.counts []) (v : Vector Quote 1024)
    (k : ∀ i, (s.quote i).Kept (tget v i)) : State.counts { s with quotes := v } [] :=
  h.of_quotes (.of_eq rfl) rfl (fun _ => rfl) (fun i c =>
    ⟨(k i).count.trans c.1, fun free => (k i).count.trans (((k i).free free).elim c.2 id)⟩)

theorem State.counts.define {s : State} (h : s.counts []) {i : Fin 1024} {q : Quote} (free : (s.quote i).state = .free)
    (count : q.count = 0) : (s.updQuote i (fun _ => q)).counts [] :=
  h.of_quotes (.of_eq rfl) rfl (fun _ => rfl) (fun j c => by
    rw [State.updQuote_quote]
    split
    · next e =>
      subst e
      exact ⟨by rw [count, ← c.1, c.2 free], fun _ => count⟩
    · exact c)

theorem State.counts.complete {s : State} (h : s.counts []) (st : Status) (n : Nat) :
    (finish st (completeStory n s).2).counts [] := by
  unfold finish completeStory
  split
  · exact h.of_quotes (.of_eq rfl) rfl (fun _ => rfl) (fun _ => id)
  · next l target =>
    refine h.of_stories (.of_eq rfl) rfl (fun _ => rfl) (fun j c => ?_) nofun
    show (tget (tupd s.ts.stories l.id _) j).counts _
    rw [tget_tupd]
    split
    · next e =>
      subst e
      exact ⟨by rw [← c.1, c.2 (h.target l target)], nofun⟩
    · exact c

theorem State.counts.deleteStory {s : State} (h : s.counts []) {i : Fin 256} (loaded : (s.story i).state = .loaded) :
    (s.updStory i (fun st => { st with state := .deleting, gen := nextGen st.gen })).counts [] := by
  refine h.of_stories (.of_eq rfl) rfl (fun _ => rfl) (fun j c => ?_) (fun k hk => ?_)
  · rw [State.updStory_story]
    split
    · next e => subst e; exact ⟨c.1, nofun⟩
    · exact c
  · have free := h.target k hk
    rw [State.updStory_story, if_neg (fun e => by rw [e, free] at loaded; cases loaded)]
    exact free

/-- R9, R72: after a reset no window shows anything, and every count is 0. -/
theorem counts_of_reset {t : State} (quotes : t.quotes = Vector.replicate 1024 (Quote.free 0))
    {text : Memory} (ts : t.ts = TextStore.reset text) (bands : t.bands = Vector.replicate 4 Band.reset) : t.counts [] := by
  have window : ∀ b, (t.band b).window = [] := fun b => by rw [State.band, bands, tget_replicate]; rfl
  refine ⟨fun i => ?_, fun i => ?_, fun k hk => ?_⟩
  · rw [State.sumBands_eq_zero (fun b => by rw [window]; rfl), State.quote, quotes, tget_replicate]
    exact ⟨rfl, fun _ => rfl⟩
  · rw [State.sumBands_eq_zero (fun b => by rw [window]; rfl), State.story, ts, TextStore.reset, tget_replicate]
    exact ⟨rfl, fun _ => rfl⟩
  · rw [ts] at hk
    cases hk

theorem Change.counts {s t : State} (c : Change s t) (h : s.counts []) : t.counts [] := by
  cases c with
  | apart k => exact h.apart k
  | quotes v k => exact h.updQuotes v k
  | define i q free count _ _ => exact h.define free count
  | create b x k => exact h.addInstance b k
  | remove b n => exact h.removeFront b n
  | freeStory i => exact h.freeStoryIfGone i
  | deleteStory i loaded => exact h.deleteStory loaded
  | designate i n free _ _ => exact ⟨h.quote, h.story, fun k hk => by cases hk; exact free⟩
  | complete st _ _ => exact h.complete st _
  | drop f _ => exact ⟨h.quote, h.story, nofun⟩
  | writeText a b => exact ⟨h.quote, h.story, h.target⟩
  | writeImage a b => exact ⟨h.quote, h.story, h.target⟩
  | clear k => exact k.ts.elim (fun e => counts_of_reset k.quotes e k.bands) (fun e => counts_of_reset k.quotes e k.bands)

/-- Settles O54: the counts are kept by every change, and a step is a chain of changes. -/
theorem everyStepKeepsCounts : Obligations.EveryStepKeepsCounts := by
  unfold Obligations.EveryStepKeepsCounts
  intro s t h k
  exact State.counts_nil_iff.mp (step_keeps Change.counts k (State.counts_nil_iff.mpr h))

end Sys2Proof.Machine

/-! SUPPORT. The state after reset meets every invariant. -/

namespace Sys2Proof.Machine

theorem reset_quote (i : Fin 1024) : State.reset.quote i = Quote.free 0 := tget_replicate _ i

theorem reset_band (b : Fin 4) : State.reset.band b = Band.reset := tget_replicate _ b

theorem reset_lists (b : Fin 4) : State.reset.lists b = RunLists.reset := tget_replicate _ b

theorem reset_lane (n : Fin 4) : State.reset.lane n = Lane.reset := tget_replicate _ n

theorem reset_symbolsOk : State.reset.symbolsOk := fun i _ live => by
  rw [reset_quote] at live
  cases live

theorem reset_queuesOk : State.reset.queuesOk := by
  refine ⟨fun n => ?_, Nat.zero_le _, fun b => ?_⟩
  · rw [reset_lane]
    exact Nat.zero_le _
  · rw [reset_band, reset_lists]
    exact ⟨Nat.zero_le _, Nat.zero_le _, Nat.zero_le _, Nat.zero_le _⟩

theorem reset_windowsOk : State.reset.windowsOk := fun b => by
  rw [reset_band]
  exact ⟨Nat.zero_le _, fun _ => ⟨rfl, rfl⟩, nofun⟩

theorem reset_linesOk : State.reset.linesOk := by
  refine ⟨fun b c on => ?_, fun b _ c _ _ on => ?_⟩ <;> exact absurd (by rw [reset_band]; rfl) on

theorem reset_speedsOk : State.reset.speedsOk := fun b => by
  rw [reset_band]
  exact ⟨Nat.zero_le _, fun _ => rfl, nofun⟩

theorem reset_ordersOk : State.reset.ordersOk := fun b => by
  rw [reset_band, reset_lists]
  exact ⟨⟨fun _ => rfl, fun _ => rfl⟩, .inr rfl, rfl, fun _ => ⟨rfl, rfl⟩, fun _ => rfl, by simp [Band.reset], by simp [Band.reset]⟩

theorem reset_attentionOk : State.reset.attentionOk := fun m => by
  cases m <;> exact ⟨List.nodup_nil, List.nodup_nil, fun _ => rfl⟩

theorem reset_linkOk : State.reset.linkOk :=
  ⟨⟨by simp [State.reset, State.powerOnValues, Eli.reset], nofun, fun _ => rfl, nofun, Nat.le_refl 0⟩, fun _ => rfl⟩

/-- Settles O60: every table is filled with one value, which meets each invariant. -/
theorem resetIsInOrder : Obligations.ResetIsInOrder := by
  unfold Obligations.ResetIsInOrder
  obtain ⟨quoteCounts, storyCounts⟩ :=
    State.counts_nil_iff.mp (counts_of_reset (t := State.reset) (text := []) rfl rfl rfl)
  have pool : State.reset.poolOk :=
    State.poolOk_iff.mpr (pool_of_reset (text := []) rfl (State.loadOk_of_phase nofun))
  exact ⟨reset_memory_wf, reset_symbolsOk, quoteCounts, storyCounts, reset_queuesOk, reset_windowsOk, reset_linesOk,
    reset_speedsOk, reset_attentionOk, reset_linkOk, fun _ => nofun, pool, reset_ordersOk⟩

end Sys2Proof.Machine

/-! SUPPORT. The quote table's commands and its frame start: how a command of the editorial link ends, and what each owner
answers. -/

namespace Sys2Proof.Machine

/-! ### References -/

theorem State.resolvesQuote_iff {s : State} {r : Ref} : s.resolvesQuote r = true ↔
    r.gen ≠ 0 ∧ ∃ i : Fin 1024, r.index = i.val ∧ (s.quote i).state = .live ∧ (s.quote i).gen = r.gen := by
  constructor
  · intro h
    obtain ⟨lt, live⟩ := State.resolvesQuote_record h
    rw [State.resolvesQuote, State.quoteAt, dif_pos lt] at h
    simp only [Bool.and_eq_true, decide_eq_true_eq] at h
    exact ⟨h.2, ⟨r.index, lt⟩, rfl, live, h.1.2⟩
  · rintro ⟨gen, i, index, live, same⟩
    rw [State.resolvesQuote, index, State.quoteAt_fin]
    simp [live, same, gen]

theorem State.resolvesStory_iff {s : State} {r : Ref} : s.resolvesStory r = true ↔
    r.gen ≠ 0 ∧ ∃ i : Fin 256, r.index = i.val ∧ (s.story i).state = .loaded ∧ (s.story i).gen = r.gen := by
  constructor
  · intro h
    obtain ⟨lt, loaded⟩ := State.resolvesStory_record h
    rw [State.resolvesStory, State.storyAt, dif_pos lt] at h
    simp only [Bool.and_eq_true, decide_eq_true_eq] at h
    exact ⟨h.2, ⟨r.index, lt⟩, rfl, loaded, h.1.2⟩
  · rintro ⟨gen, i, index, loaded, same⟩
    rw [State.resolvesStory, index, State.storyAt_fin]
    simp [loaded, same, gen]

/-- Settles O14: both tests of a reference, and the four kinds of items. -/
theorem referencesResolve : Obligations.ReferencesResolve := by
  unfold Obligations.ReferencesResolve
  refine ⟨fun s r => State.resolvesQuote_iff, fun s r => State.resolvesStory_iff, fun s k => ?_⟩
  cases k with
  | quote r => exact Iff.rfl
  | story r => exact Iff.rfl
  | glyph c => exact iff_of_true rfl trivial
  | spacer w => exact iff_of_true rfl trivial

/-! ### How a command ends -/

/-- A command of the catalogue is judged on a state that holds its block (R170). -/
theorem edCommand_eq {s : State} {h : EdHeader} {c : EdCommand} {t : Reply × State} (k : s.takesCommand)
    (l : lengthOk c h.dataLength = true) (phase : commandPhase c h.dataLength (s.takes .idle h c) = t) :
    edCommand h c s = settle c h.dataLength t := by
  rw [edCommand_of_lengthOk k l, phase]

/-- An answer that leaves the state as it was ends the exchange. -/
theorem settle_answer_takes (s : State) (h : EdHeader) (c : EdCommand) (r : Result) (v : List Byte) :
    settle c h.dataLength (.answer r v, s.takes .idle h c) = s.answers h c r v := rfl

/-- A read begins its data phase. -/
theorem settle_send_takes (s : State) (h : EdHeader) (c : EdCommand) :
    settle c h.dataLength (.send, s.takes .idle h c) = s.takes .dataIn h c := rfl

/-- A command that receives data begins its data phase. -/
theorem settle_receive_takes {s : State} {h : EdHeader} {c : EdCommand} (n : h.dataLength ≠ 0) :
    settle c h.dataLength (.receive, s.takes .idle h c) = s.takes .dataOut h c := if_neg n

/-! ### Reads begin -/

/-- The commands of the catalogue that are reads: their command phase begins a data phase at once. -/
theorem edCommand_send {s : State} {h : EdHeader} {c : EdCommand} (k : s.takesCommand)
    (send : ∀ t : State, commandPhase c h.dataLength t = (.send, t)) :
    edCommand h c s = if lengthOk c h.dataLength = true then s.takes .dataIn h c else s.answers h c .badParam noValues := by
  split
  · next l => rw [edCommand_eq k l (send _), settle_send_takes]
  · next l => exact edCommand_of_badLength k (by simpa using l)

/-- A read whose parameters and length are judged by `ok` begins exactly when `ok` holds. -/
theorem read_begins {s : State} {h : EdHeader} {c : EdCommand} {i : Instr} {ok : Prop} (k : s.takesCommand)
    (run : exec i s = .next (edCommand h c s)) (send : ∀ t : State, commandPhase c h.dataLength t = (.send, t))
    (judged : lengthOk c h.dataLength = true ↔ ok) :
    (ok → exec i s = .next (s.takes .dataIn h c)) ∧ (¬ ok → exec i s = .next (s.answers h c .badParam noValues)) := by
  rw [run, edCommand_send k send]
  exact ⟨fun yes => by rw [if_pos (judged.mpr yes)], fun no => by rw [if_neg (fun l => no (judged.mp l))]⟩

/-- R170 check 5: a read with parameters judged by `p`. -/
theorem lengthOk_read {c : EdCommand} {p : Prop} [Decidable p] {n m : Nat}
    (use : dataUse c = if p then .read n else .badRead) : lengthOk c m = true ↔ p ∧ m = n := by
  unfold lengthOk
  rw [use]
  split <;> rename_i e <;> split at e <;> simp_all

/-- Settles O31: one line a read, with its parameters and its length. -/
theorem readsBegin : Obligations.ReadsBegin := by
  unfold Obligations.ReadsBegin
  intro s h k begins
  have ranged : ∀ {c : EdCommand} {i : Instr} {p ok : Prop} [Decidable p] {n : Nat}, exec i s = .next (edCommand h c s) →
      (∀ t : State, commandPhase c h.dataLength t = (.send, t)) → (dataUse c = if p then .read n else .badRead) →
      (ok ↔ p ∧ h.dataLength = n) → begins i c ok :=
    fun run send use same => read_begins k run send ((lengthOk_read use).trans same.symm)
  have plain : ∀ {c : EdCommand} {i : Instr} {n : Nat}, exec i s = .next (edCommand h c s) →
      (∀ t : State, commandPhase c h.dataLength t = (.send, t)) → dataUse c = .read n → begins i c (h.dataLength = n) :=
    fun run send use => read_begins k run send (by simp [lengthOk, use])
  refine ⟨fun start count d => ?_, plain rfl (fun _ => rfl) rfl, fun start count => ?_, fun face start count => ?_,
    fun band bank start count d => ?_, fun band => ?_, fun band => ?_, plain rfl (fun _ => rfl) rfl,
    plain rfl (fun _ => rfl) rfl⟩
  · exact ranged rfl (fun _ => rfl) rfl (by simp [directionOk, and_assoc])
  · exact ranged rfl (fun _ => rfl) rfl (by simp [and_assoc])
  · exact ranged rfl (fun _ => rfl) rfl (by simp [and_assoc])
  · exact ranged rfl (fun _ => rfl) rfl (by simp [directionOk, and_assoc])
  · exact ranged rfl (fun _ => rfl) rfl Iff.rfl
  · exact ranged rfl (fun _ => rfl) rfl (by simp)

/-! ### The frame start -/

/-- R17: the countdown of one record. -/
theorem countdown_eq (q : Quote) :
    countdown q = { q with flash := q.flash - 1, tick := if q.flash = 1 then .none else q.tick } := by
  unfold countdown
  split
  · next zero =>
    cases q
    cases zero
    rfl
  · rfl

theorem quoteFrameStart_quote (s : State) (i : Fin 1024) :
    (quoteFrameStart s).quote i = latchQuote s.flashSetting (s.quietLane (s.quote i)) (countdown (s.quote i)) :=
  tget_tmap ..

/-- R19: the record's lane is SILENT and not held. -/
theorem quietLane_eq (s : State) (q : Quote) :
    s.quietLane q = q.lane.any (fun n => !(s.lane n).active && !(s.lane n).held) := by
  unfold State.quietLane Lane.quiet
  cases q.lane <;> rfl

/-- R14: when a copy is made. -/
theorem Quote.copies_iff (q : Quote) :
    q.copies = true ↔ q.pendSource = .live ∧ (q.dirty = true ∨ q.dispSource ≠ .live) := by
  simp [Quote.copies]

theorem latchQuote_of_not_live {q : Quote} (setting : Nat) (quiet : Bool) (h : q.state ≠ .live) :
    latchQuote setting quiet q = q := if_neg h

theorem latchQuote_copied {q : Quote} (setting : Nat) (quiet : Bool) (h : q.state = .live) (c : q.copies = true) :
    latchQuote setting quiet q =
      { copyQuote setting q with dispSource := q.pendSource, dispText := q.pendText, stale := quiet } := by
  simp [latchQuote, h, c]

theorem latchQuote_not_copied {q : Quote} (setting : Nat) (quiet : Bool) (h : q.state = .live) (c : ¬ q.copies = true) :
    latchQuote setting quiet q = { q with dispSource := q.pendSource, dispText := q.pendText, stale := quiet } := by
  simp [latchQuote, h, c]

/-- R15: tick and flash after a copy, by the old and the new displayed last. -/
theorem tickAfter_none (setting : Nat) (old : Option Int) (t : Tick × Nat) : tickAfter setting old none t = (.none, 0) := by
  cases old <;> rfl

theorem tickAfter_first (setting : Nat) (new : Int) (t : Tick × Nat) : tickAfter setting none (some new) t = t := rfl

theorem tickAfter_same (setting : Nat) (last : Int) (t : Tick × Nat) :
    tickAfter setting (some last) (some last) t = t := by simp [tickAfter]

theorem tickAfter_up {setting : Nat} {old new : Int} (t : Tick × Nat) (h : old < new) :
    tickAfter setting (some old) (some new) t = (if setting = 0 then .none else .up, setting) := by
  by_cases z : setting = 0 <;> simp [tickAfter, h, z]

theorem tickAfter_down {setting : Nat} {old new : Int} (t : Tick × Nat) (h : new < old) :
    tickAfter setting (some old) (some new) t = (if setting = 0 then .none else .down, setting) := by
  have : ¬ old < new := by omega
  by_cases z : setting = 0 <;> simp [tickAfter, h, this, z]

/-- Settles O7: the record is counted down, and then latched with or without a copy. -/
theorem frameStartLatch : Obligations.FrameStartLatch := by
  unfold Obligations.FrameStartLatch
  intro s i q t flash tick
  obtain ⟨p, def_p⟩ : ∃ p : Quote, p = { q with flash := flash, tick := tick } := ⟨_, rfl⟩
  have latched : t = latchQuote s.flashSetting (s.quietLane q) p := by
    rw [def_p, ← countdown_eq q]
    exact quoteFrameStart_quote s i
  have same : p.state = q.state := by rw [def_p]
  have copies : p.copies = true ↔ q.pendSource = .live ∧ (q.dirty = true ∨ q.dispSource ≠ .live) := by
    rw [Quote.copies_iff, def_p]
  have quiet := quietLane_eq s q
  clear_value t flash tick
  refine ⟨fun state => ?_, fun state => ?_, fun state none => ?_, fun state live due => ?_⟩
  · rw [latched, latchQuote_of_not_live _ _ (same ▸ state), def_p]
  · rw [← quiet]
    by_cases c : p.copies = true
    · rw [latched, latchQuote_copied _ _ (same ▸ state) c, def_p]
      exact ⟨rfl, rfl, rfl⟩
    · rw [latched, latchQuote_not_copied _ _ (same ▸ state) c, def_p]
      exact ⟨rfl, rfl, rfl⟩
  · rw [latched, latchQuote_not_copied _ _ (same ▸ state) (fun c => none (copies.mp c)), def_p]
  · rw [latchQuote_copied _ _ (same ▸ state) (copies.mpr ⟨live, due⟩), def_p] at latched
    have lit : (t.tick, t.flash) = tickAfter s.flashSetting q.dispLast q.pendLast (tick, flash) := by rw [latched]; rfl
    refine ⟨?_, ?_, ?_, ?_, ?_, ?_, ?_, fun gone => ?_, fun new old last => ?_, fun old new was last => ⟨?_, ?_, ?_⟩, ?_⟩
    case refine_8 => rw [gone, tickAfter_none] at lit; simpa using lit
    case refine_9 => rw [old, last, tickAfter_first] at lit; simpa using lit
    case refine_10 =>
      rintro rfl
      rw [was, last, tickAfter_same] at lit
      simpa using lit
    case refine_11 =>
      intro up
      rw [was, last, tickAfter_up _ up, Prod.mk.injEq] at lit
      exact lit.symm
    case refine_12 =>
      intro down
      rw [was, last, tickAfter_down _ down, Prod.mk.injEq] at lit
      exact lit.symm
    all_goals rw [latched]; rfl

/-! ### Commands that carry no data -/

/-- A command that carries no data and is answered: the exchange ends on the state that its owner left. -/
theorem edCommand_answer {s t : State} {h : EdHeader} {c : EdCommand} {r : Result} {v : List Byte} (k : s.takesCommand)
    (use : dataUse c = .none) (zero : h.dataLength = 0)
    (phase : commandPhase c h.dataLength (s.takes .idle h c) = (.answer r v, t.takes .idle h c)) :
    edCommand h c s = t.answers h c r v := by
  rw [edCommand_eq k (lengthOk_none use zero) phase, settle_answer_takes]

/-! ### DEFINE QUOTE -/

theorem four_isSome {n : Nat} : (four n).isSome = true ↔ n < 4 := by
  unfold four
  split <;> simp_all

theorem laneOf_isSome {n : Nat} : (laneOf n).isSome = true ↔ 1 ≤ n ∧ n ≤ 4 := by
  unfold laneOf
  split
  · next zero => simp [zero]
  · rw [four_isSome]
    omega

/-- R1: the range of a mantissa. -/
theorem inRange_iff {m : Int} : inRange m = true ↔ -999999999 ≤ m ∧ m ≤ 999999999 := by
  rw [inRange, decide_eq_true_iff]
  show m.natAbs ≤ 999999999 ↔ _
  omega

/-- R5: the first check of DEFINE QUOTE. -/
theorem defineValid_iff {a : DefineArgs} : DefineValid a = true ↔
    1 ≤ a.symLen ∧ a.symLen ≤ 8 ∧ 1 ≤ a.lane ∧ a.lane ≤ 4 ∧ a.scale ≤ 6 ∧ a.decimals ≤ a.scale ∧
      ∀ r, a.reference = some r → -999999999 ≤ r ∧ r ≤ 999999999 := by
  simp only [DefineValid, Bool.and_eq_true, decide_eq_true_eq, laneOf_isSome, Option.all_eq_true, inRange_iff, and_assoc]

/-- The lowest record that passes a test is the one found. -/
theorem findQuote_lowest {s : State} {p : Quote → Bool} {i : Fin 1024} (passes : p (s.quote i) = true)
    (lowest : ∀ j, p (s.quote j) = true → i ≤ j) : s.findQuote p = some i := by
  refine List.find?_eq_some_iff_getElem.mpr ⟨passes, i.val, by simp, by simp, fun j lt => ?_⟩
  rw [List.getElem_finRange]
  by_contra fails
  have := Fin.le_def.mp (lowest _ (by simpa using fails))
  dsimp only at this
  omega

theorem findQuote_none_of {s : State} {p : Quote → Bool} (h : ∀ i, p (s.quote i) = false) : s.findQuote p = none :=
  List.find?_eq_none.mpr (fun i _ => by simp [h i])

theorem holdsSymbol_iff {sym : List Byte} {q : Quote} :
    holdsSymbol sym q = true ↔ q.state = .live ∧ q.symbol = some sym := by
  simp [holdsSymbol]

theorem defineQuote_invalid {a : DefineArgs} (s : State) (h : ¬ DefineValid a = true) : defineQuote a s = (badParam, s) := by
  unfold defineQuote
  split
  · rfl
  · rw [if_pos (by simpa using h)]

theorem defineQuote_exists {a : DefineArgs} {s : State} {i : Fin 1024} (h : DefineValid a = true)
    (found : s.findQuote (holdsSymbol (a.symbol.take a.symLen)) = some i) :
    defineQuote a s = (.answer .exists_ (refValues i.val (s.quote i).gen), s) := by
  unfold defineQuote
  split
  · next none => rw [DefineValid, none] at h; simp at h
  · rw [if_neg (by simp [h]), found]

theorem defineQuote_full {a : DefineArgs} {s : State} (h : DefineValid a = true)
    (unheld : s.findQuote (holdsSymbol (a.symbol.take a.symLen)) = none)
    (taken : s.findQuote (fun q => decide (q.state = .free)) = none) :
    defineQuote a s = (.answer .full noValues, s) := by
  unfold defineQuote
  split
  · next none => rw [DefineValid, none] at h; simp at h
  · rw [if_neg (by simp [h]), unheld, taken]

theorem defineQuote_defined {a : DefineArgs} {s : State} {i : Fin 1024} {lane : Fin 4} (h : DefineValid a = true)
    (on : laneOf a.lane = some lane) (unheld : s.findQuote (holdsSymbol (a.symbol.take a.symLen)) = none)
    (found : s.findQuote (fun q => decide (q.state = .free)) = some i) :
    defineQuote a s = (.answer .good (refValues i.val (nextGen (s.quote i).gen)),
      s.updQuote i (fun _ => definedQuote (s.quote i) a lane (s.lane lane).quiet)) := by
  unfold defineQuote
  rw [on]
  dsimp only
  rw [if_neg (by simp [h]), unheld, found]
  exact congrArg (Prod.mk _) (State.updQuote_congr rfl)

/-- Settles O11: the refusals in their order, and the record made. -/
theorem Settled.defineQuote : Obligations.DefineQuote := by
  unfold Obligations.DefineQuote
  intro s h a k zero valid symbol
  have ends : ∀ {r v} {t : State}, Machine.defineQuote a (s.takes .idle h (.defineQuote a)) =
      (.answer r v, t.takes .idle h (.defineQuote a)) →
      exec (.defineQuote h a) s = .next (t.answers h (.defineQuote a) r v) :=
    fun phase => congrArg Host.Outcome.next (edCommand_answer k rfl zero phase)
  refine ⟨fun bad => ?_, fun i ok live held only => ?_, fun ok unheld => ⟨fun taken => ?_, fun i lane on free lowest => ?_⟩⟩
  · exact ends (defineQuote_invalid _ (fun v => bad (defineValid_iff.mp v)))
  · refine ends (defineQuote_exists (defineValid_iff.mpr ok) ?_)
    refine findQuote_lowest (holdsSymbol_iff.mpr ⟨live, held⟩) (fun j passes => ?_)
    obtain ⟨livej, heldj⟩ := holdsSymbol_iff.mp passes
    exact le_of_eq (only j livej heldj).symm
  · refine ends (defineQuote_full (defineValid_iff.mpr ok) (findQuote_none_of (fun j => ?_))
      (findQuote_none_of (fun j => decide_eq_false (taken j))))
    exact Bool.eq_false_iff.mpr (fun passes => unheld j (holdsSymbol_iff.mp passes).1 (holdsSymbol_iff.mp passes).2)
  · have on' : laneOf a.lane = some lane := by rw [on, laneOf_fin]
    refine ends (defineQuote_defined (s := s.takes .idle h (.defineQuote a)) (defineValid_iff.mpr ok) on'
      (findQuote_none_of (fun j => ?_))
      (findQuote_lowest (decide_eq_true free) (fun j passes => lowest j (of_decide_eq_true passes))))
    exact Bool.eq_false_iff.mpr (fun passes => unheld j (holdsSymbol_iff.mp passes).1 (holdsSymbol_iff.mp passes).2)

/-! ### RETIRE QUOTE and the single steps -/

theorem retireQuote_resolves {s : State} {i : Fin 1024} {r : Ref} (index : r.index = i.val)
    (h : s.resolvesQuote r = true) :
    retireQuote r s = (.answer .good (refValues r.index (nextGen r.gen)), s.updQuote i retiredQuote) := by
  rw [retireQuote, if_pos h, index, State.updQuoteAt_fin]

theorem retireQuote_fails {s : State} {r : Ref} (h : ¬ s.resolvesQuote r = true) :
    retireQuote r s = (.answer .notFound noValues, s) := if_neg h

/-- Settles O12: the command, and the two single steps in every state. -/
theorem Settled.retireQuote : Obligations.RetireQuote := by
  unfold Obligations.RetireQuote
  refine ⟨⟨fun g lt => ?_, rfl, fun s h r k zero => ?_⟩, fun s i => ⟨fun retiring gone => ?_, fun other => ?_,
    fun last => ?_, fun other => ?_⟩⟩
  · rw [nextGen, if_neg (by omega)]
  · have ends : ∀ {v w} {t : State}, Machine.retireQuote r (s.takes .idle h (.retireQuote r)) =
        (.answer v w, t.takes .idle h (.retireQuote r)) →
        exec (.retireQuote h r) s = .next (t.answers h (.retireQuote r) v w) :=
      fun phase => congrArg Host.Outcome.next (edCommand_answer k rfl zero phase)
    refine ⟨fun i named live gen => ?_, fun fails => ?_⟩
    · have index : r.index = i.val := congrArg Ref.index named
      have same : (s.quote i).gen = r.gen := (congrArg Ref.gen named).symm
      have resolves : s.resolvesQuote r = true := State.resolvesQuote_iff.mpr ⟨gen, i, index, live, same⟩
      have retired := retireQuote_resolves (s := s.takes .idle h (.retireQuote r)) index resolves
      intro returned
      have values : refValues r.index (nextGen r.gen) = returned := by rw [index]; rfl
      rw [values] at retired
      refine ⟨fun count => ?_, fun count => ?_⟩
      · rw [State.updQuote_congr (g := fun _ => Quote.free (nextGen r.gen))] at retired
        · exact ends retired
        · show retiredQuote (s.quote i) = _
          rw [retiredQuote, if_pos count, same]
      · rw [State.updQuote_congr (g := fun q => { q with
          state := .retiring, gen := nextGen r.gen, pendSource := .live, pendText := none, pendLast := none,
          pendRef := none, pendHalted := false, dirty := false })] at retired
        · exact ends retired
        · show retiredQuote (s.quote i) = _
          rw [retiredQuote, if_neg count, same]
          rfl
    · refine ends (retireQuote_fails (fun resolves => ?_))
      obtain ⟨gen, i, index, live, same⟩ := (State.resolvesQuote_iff (s := s)).mp resolves
      exact gen (fails i index live same)
  · exact congrArg Host.Outcome.next (State.updQuote_congr (if_pos ⟨retiring, gone⟩))
  · exact congrArg Host.Outcome.next (State.updQuote_same (if_neg other))
  · refine congrArg Host.Outcome.next (State.updQuote_congr ?_)
    rw [flashExpiry, if_pos last, countdown_eq, last]
    rfl
  · exact congrArg Host.Outcome.next (State.updQuote_same (if_neg other))

/-! ### SET SOURCE -/

theorem applySource_resolves {s : State} {i : Fin 1024} {r : Ref} (src : Source) (text : List Byte)
    (index : r.index = i.val) (h : s.resolvesQuote r = true) :
    applySource r src text s = (.good, s.updQuote i (fun q =>
      { q with pendSource := src, pendText := if src = .overridden then some text else none })) := by
  rw [applySource, if_pos h, index, State.updQuoteAt_fin]

theorem applySource_fails {s : State} {r : Ref} (src : Source) (text : List Byte) (h : s.resolvesQuote r = false) :
    applySource r src text s = (.notFound, s) := if_neg (by simp [h])

theorem sourceOf_of_large {code : Nat} (h : 2 < code) : sourceOf code = none := by
  unfold sourceOf
  split <;> first | omega | rfl

/-- The source that acts at once. -/
theorem sourceOf_of_small {code : Nat} (h : code < 2) : sourceOf code = some (if code = 0 then .live else .frozen) := by
  obtain rfl | rfl : code = 0 ∨ code = 1 := by omega
  · rfl
  · rfl

theorem setSource_refused {r : Ref} {code n : Nat} (s : State)
    (h : 2 < code ∨ (code = 2 ∧ (n = 0 ∨ 16 < n)) ∨ (code < 2 ∧ n ≠ 0)) : setSource r code n s = (badParam, s) := by
  unfold setSource
  rcases h with large | ⟨rfl, length⟩ | ⟨small, length⟩
  · rw [sourceOf_of_large large]
  · exact if_pos ⟨rfl, by omega⟩
  · rw [sourceOf_of_small small]
    dsimp only
    rw [if_neg (by split <;> simp), if_pos ⟨by split <;> simp, length⟩]

theorem setSource_receives {r : Ref} {n : Nat} (s : State) (low : 1 ≤ n) (high : n ≤ 16) :
    setSource r 2 n s = (.receive, s) := by
  show (if _ then _ else if _ then _ else if _ then _ else _) = _
  rw [if_neg (by omega), if_neg (by simp), if_neg (by omega)]

theorem setSource_acts {r : Ref} {code : Nat} (s : State) (small : code < 2) :
    setSource r code 0 s = (.answer (applySource r (if code = 0 then .live else .frozen) [] s).1 noValues,
      (applySource r (if code = 0 then .live else .frozen) [] s).2) := by
  unfold setSource
  rw [sourceOf_of_small small]
  dsimp only
  rw [if_neg (by split <;> simp), if_neg (by simp), if_pos rfl]

/-- R11: the override text has arrived. -/
theorem completeData_override (r : Ref) (s : State) : completeData (.setSource r 2) s =
    finish ⟨(applySource r .overridden s.eli.data s).1, 0, noValues⟩ (applySource r .overridden s.eli.data s).2 := rfl

/-- Settles O13: the command phase by the source code and the length, and the arrival of the last byte. -/
theorem Settled.setSource : Obligations.SetSource := by
  unfold Obligations.SetSource
  refine ⟨fun s h r code k => ?_, fun s r last await => ?_⟩
  · have run : exec (.setSource h r code) s = .next (settle (.setSource r code) h.dataLength
        (Machine.setSource r code h.dataLength (s.takes .idle h (.setSource r code)))) :=
      congrArg Host.Outcome.next (edCommand_eq k rfl rfl)
    refine ⟨fun bad => ?_, ?_, fun small zero => ⟨fun i index resolves => ?_, fun fails => ?_⟩⟩
    · rw [run, setSource_refused _ bad]
      rfl
    · rintro rfl low high
      rw [run, setSource_receives _ low high, settle_receive_takes (by omega)]
    · rw [run, zero, setSource_acts _ small, applySource_resolves _ _ index (by exact resolves)]
      have frozen : (if code = 0 then Source.live else Source.frozen) ≠ .overridden := by split <;> simp
      simp only [if_neg frozen]
      exact congrArg Host.Outcome.next (by rw [settle_answer, ← zero]; rfl)
    · rw [run, zero, setSource_acts _ small, applySource_fails _ _ (by exact fails)]
      exact congrArg Host.Outcome.next (by rw [settle_answer, ← zero]; rfl)
  · have run : exec (.setSourceDataComplete last) s = .next (completeData (.setSource r 2)
        (s.updEli (fun e => { e with dout := [0, 0], data := e.data ++ [last], counter := e.counter + 1 }))) :=
      congrArg Host.Outcome.next (lastByte_of_awaitsLast last await rfl)
    intro link
    refine ⟨fun i index resolves => ?_, fun fails => ?_⟩
    · rw [run, completeData_override, applySource_resolves _ _ index (by exact resolves)]
      rfl
    · rw [run, completeData_override, applySource_fails _ _ (by exact fails)]
      rfl

/-! ### SET REFERENCE and SET FLASH -/

theorem setReference_badScale {r : Ref} {u : Nat} (m : Int) (s : State) (h : 6 < u) :
    setReference r false u m s = (badParam, s) := if_pos (by simp [h])

theorem setReference_fails {r : Ref} {remove : Bool} {u : Nat} {m : Int} {s : State} (h : remove = true ∨ u ≤ 6)
    (fails : s.resolvesQuote r = false) : setReference r remove u m s = (.answer .notFound noValues, s) := by
  unfold setReference
  rw [if_neg (by rcases h with rfl | h <;> simp; omega), if_pos (by simp [fails])]

theorem setReference_removes {r : Ref} {u : Nat} {m : Int} {s : State} {i : Fin 1024} (index : r.index = i.val)
    (resolves : s.resolvesQuote r = true) :
    setReference r true u m s = (good, s.updQuote i (fun q => { q with pendRef := none, dirty := true })) := by
  unfold setReference
  rw [if_neg (by simp), if_neg (by simp [resolves]), index, State.quoteAt_fin]
  dsimp only
  rw [if_pos rfl, State.updQuoteAt_fin]

/-- R12, R25: a failed normalisation is refused. -/
theorem setReference_unfit {r : Ref} {u : Nat} {m : Int} {s : State} {i : Fin 1024} (index : r.index = i.val)
    (resolves : s.resolvesQuote r = true) (small : u ≤ 6) (unfit : normalise u (s.quote i).scale m = none) :
    setReference r false u m s = (badParam, s) := by
  unfold setReference
  rw [if_neg (by simp; omega), if_neg (by simp [resolves]), index, State.quoteAt_fin]
  dsimp only
  rw [if_neg (by simp), unfit]

theorem setReference_sets {r : Ref} {u : Nat} {m v : Int} {s : State} {i : Fin 1024} (index : r.index = i.val)
    (resolves : s.resolvesQuote r = true) (fit : normalise u (s.quote i).scale m = some v) :
    setReference r false u m s = (good, s.updQuote i (fun q => { q with pendRef := some v, dirty := true })) := by
  have small : u ≤ 6 := by
    by_contra large
    rw [normalise, if_pos (by omega)] at fit
    cases fit
  unfold setReference
  rw [if_neg (by simp; omega), if_neg (by simp [resolves]), index, State.quoteAt_fin]
  dsimp only
  rw [if_neg (by simp), fit]
  dsimp only
  rw [State.updQuoteAt_fin]

/-- Settles O15: the refusals of SET REFERENCE in their order and its two effects, and SET FLASH. -/
theorem setReferenceAndFlash : Obligations.SetReferenceAndFlash := by
  unfold Obligations.SetReferenceAndFlash
  refine ⟨fun s h r remove u m k zero => ?_, fun s h v k zero => ?_⟩
  · intro c
    have ends : ∀ {v w} {t : State}, setReference r remove u m (s.takes .idle h c) = (.answer v w, t.takes .idle h c) →
        exec (.setReference h r remove u m) s = .next (t.answers h c v w) :=
      fun phase => congrArg Host.Outcome.next (edCommand_answer k rfl zero phase)
    refine ⟨?_, fun judged fails => ends (setReference_fails judged fails), fun i index resolves => ⟨?_, ?_, ?_⟩⟩
    · rintro rfl large
      exact ends (setReference_badScale m _ large)
    · rintro rfl
      exact ends (setReference_removes (s := s.takes .idle h c) index resolves)
    · rintro rfl small unfit
      exact ends (setReference_unfit index resolves small unfit)
    · rintro v rfl fit
      exact ends (setReference_sets (s := s.takes .idle h c) index resolves fit)
  · exact congrArg Host.Outcome.next
      (edCommand_answer (t := { s with flashSetting := v }) (c := .setFlash v) k rfl zero rfl)

end Sys2Proof.Machine

/-! SUPPORT. The reads of the editorial link: the bytes that a DATA IN frame sends, one report after the other, and the state that
a read leaves. -/

namespace Sys2Proof.Machine

/-! ### One byte -/

/-- The state in the middle of a read: what is left of the report in progress, the bytes sent and the number of the next report. -/
def State.goesOn (s : State) (latch : List Byte) (n k : Nat) : State :=
  { s with eli := { s.eli with latch := latch, counter := n, reportNo := k } }

theorem State.goesOn_self (s : State) : s.goesOn s.eli.latch s.eli.counter s.eli.reportNo = s := rfl

/-- A read whose reports leave everything outside the link as it is: every one but READ EVENTS and READ BAND. -/
def ReportsOnly (c : EdCommand) : Prop := c ≠ .readEvents ∧ ∀ b, c ≠ .readBand b

/-- No report speaks of the editorial link. -/
theorem report_updEli (c : EdCommand) (k : Nat) (s : State) (f : Eli → Eli) : report c k (s.updEli f) = report c k s := by
  cases c <;> rfl

theorem report_goesOn (c : EdCommand) (i : Nat) (s : State) (l : List Byte) (n k : Nat) :
    report c i (s.goesOn l n k) = report c i s :=
  report_updEli c i s (fun e => { e with latch := l, counter := n, reportNo := k })

theorem beginEvents_of_ne {c : EdCommand} (s : State) (h : c ≠ .readEvents) : beginEvents c s = s := if_neg h

theorem takeFree_of_ne {c : EdCommand} (s : State) (h : ∀ b, c ≠ .readBand b) : takeFree c s = s := by
  unfold takeFree
  split
  · next b => exact absurd rfl (h b)
  · rfl

theorem latchReport_goesOn {c : EdCommand} (h : ReportsOnly c) (s : State) (l : List Byte) (n k : Nat) :
    latchReport c (s.goesOn l n k) = s.goesOn (report c k s) n (k + 1) := by
  unfold latchReport
  dsimp only
  rw [beginEvents_of_ne _ h.1, takeFree_of_ne _ h.2]
  exact congrArg (fun r => s.goesOn r n (k + 1)) (report_goesOn c k s l n k)

theorem completeRead_of_ne {c : EdCommand} (s : State) (h : c ≠ .readEvents) :
    completeRead c s = finish ⟨.good, 0, noValues⟩ s := by
  rw [completeRead, if_neg h]

theorem latchReport_eli (c : EdCommand) (s : State) : (latchReport c s).eli =
    { s.eli with latch := report c s.eli.reportNo (beginEvents c s), reportNo := s.eli.reportNo + 1 } := by
  have free : ∀ t : State, (takeFree c t).eli = t.eli := fun t => by cases c <;> rfl
  have begins : (beginEvents c s).eli = s.eli := by unfold beginEvents; split <;> rfl
  rw [latchReport, free]
  simp only [State.updEli, begins]

section
variable {s : State} {c : EdCommand} (phase : s.eli.phase = .dataIn) (command : s.eli.command = some c)
include phase command

theorem sendByte_latched (b : Byte) (l : List Byte) {n : Nat} (k : Nat) (more : n + 1 < s.eli.dataLength) :
    sendByte (s.goesOn (b :: l) n k) = (b, s.goesOn l (n + 1) k) := by
  simp only [sendByte, State.goesOn, phase, command, State.updEli]
  rw [if_neg (List.cons_ne_nil b l)]
  simp only [List.headD_cons, List.tail_cons]
  rw [if_neg (by omega)]

theorem sendByte_last (b : Byte) {n : Nat} (k : Nat) (last : n + 1 = s.eli.dataLength) :
    sendByte (s.goesOn [b] n k) = (b, completeRead c (s.goesOn [] (n + 1) k)) := by
  simp only [sendByte, State.goesOn, phase, command, State.updEli]
  rw [if_neg (List.cons_ne_nil b [])]
  simp only [List.headD_cons, List.tail_cons]
  rw [if_pos (by omega)]

/-- Bytes of the report in progress. -/
theorem sendBytes_latched (l rest : List Byte) {n : Nat} (k : Nat) (more : n + l.length < s.eli.dataLength) :
    sendBytes l.length (s.goesOn (l ++ rest) n k) = (l, s.goesOn rest (n + l.length) k) := by
  induction l generalizing n with
  | nil => rfl
  | cons b l ih =>
    rw [List.length_cons] at more ⊢
    rw [sendBytes, List.cons_append, sendByte_latched phase command b _ k (by omega)]
    dsimp only
    rw [ih (by omega), Nat.add_assoc, Nat.add_comm 1]

/-- The last bytes of a read. -/
theorem sendBytes_last {l : List Byte} {n : Nat} (k : Nat) (ne : l ≠ []) (last : n + l.length = s.eli.dataLength) :
    sendBytes l.length (s.goesOn l n k) = (l, completeRead c (s.goesOn [] s.eli.dataLength k)) := by
  obtain ⟨front, b, rfl⟩ := List.eq_nil_or_concat' l |>.resolve_left ne
  rw [List.length_append, List.length_singleton] at last ⊢
  rw [sendBytes_add, sendBytes_latched phase command front [b] k (by omega)]
  dsimp only
  rw [sendBytes, sendByte_last phase command b k (by omega), sendBytes, ← last, Nat.add_assoc]

/-- With no report in progress a byte is the first of the next one. -/
theorem sendByte_open (latch : s.eli.latch = []) (more : (latchReport c s).eli.latch ≠ []) :
    sendByte s = sendByte (latchReport c s) := by
  have e := latchReport_eli c s
  have phase' : (latchReport c s).eli.phase = .dataIn := by rw [e]; exact phase
  have command' : (latchReport c s).eli.command = some c := by rw [e]; exact command
  simp only [sendByte, phase, command, phase', command']
  rw [if_pos latch, if_neg more]

theorem sendBytes_open {m : Nat} (pos : 0 < m) (latch : s.eli.latch = []) (more : (latchReport c s).eli.latch ≠ []) :
    sendBytes m s = sendBytes m (latchReport c s) := by
  obtain ⟨m, rfl⟩ := Nat.exists_eq_add_of_lt pos
  rw [Nat.zero_add, sendBytes, sendBytes, sendByte_open phase command latch more]

/-- The next byte is the first of report `k`. -/
theorem sendBytes_next_report (only : ReportsOnly c) {m : Nat} (pos : 0 < m) (n : Nat) {k : Nat} (ne : report c k s ≠ []) :
    sendBytes m (s.goesOn [] n k) = sendBytes m (s.goesOn (report c k s) n (k + 1)) := by
  have opens := latchReport_goesOn only s [] n k
  rw [sendBytes_open (s := s.goesOn [] n k) phase command pos rfl (by rw [opens]; exact ne), opens]

/-- R172: the reports of a read, from report `k` to the last, in one run of bytes. -/
theorem sendBytes_reports (only : ReportsOnly c) (m : Nat) {n k : Nat}
    (ne : ∀ i, report c i s ≠ [])
    (last : n + ((List.range' k (m + 1)).flatMap (fun i => report c i s)).length = s.eli.dataLength) :
    sendBytes ((List.range' k (m + 1)).flatMap (fun i => report c i s)).length (s.goesOn [] n k) =
      ((List.range' k (m + 1)).flatMap (fun i => report c i s),
        completeRead c (s.goesOn [] s.eli.dataLength (k + m + 1))) := by
  induction m generalizing n k with
  | zero =>
    rw [List.range'_one, List.flatMap_singleton] at last ⊢
    have pos := List.length_pos_iff.mpr (ne k)
    rw [sendBytes_next_report phase command only pos n (ne k)]
    exact sendBytes_last phase command (k + 1) (ne k) last
  | succ m ih =>
    rw [List.range'_succ, List.flatMap_cons, List.length_append] at last ⊢
    have pos := List.length_pos_iff.mpr (ne k)
    have rest : 0 < ((List.range' (k + 1) (m + 1)).flatMap (fun i => report c i s)).length := by
      rw [List.range'_succ, List.flatMap_cons, List.length_append]
      exact Nat.add_pos_left (List.length_pos_iff.mpr (ne (k + 1))) _
    have first := sendBytes_latched phase command (report c k s) [] (n := n) (k + 1) (by omega)
    rw [List.append_nil] at first
    rw [sendBytes_add, sendBytes_next_report phase command only pos n (ne k), first]
    dsimp only
    rw [ih (by omega), show k + 1 + m + 1 = k + (m + 1) + 1 by omega]
end

/-! ### The frame -/

/-- The state with these bytes on ED DOUT. -/
def State.withDout (s : State) (d : List Byte) : State := s.updEli (fun e => { e with dout := d })

/-- R172: the state in which the next byte is sent: a report is in progress. -/
def opened (c : EdCommand) (s : State) : State := if s.eli.latch = [] then latchReport c s else s

theorem latchReport_withDout (c : EdCommand) (s : State) (d : List Byte) :
    latchReport c (s.withDout d) = (latchReport c s).withDout d := by
  have begins : beginEvents c (s.withDout d) = (beginEvents c s).withDout d := by
    unfold beginEvents
    split <;> rfl
  unfold latchReport
  dsimp only
  rw [begins]
  generalize beginEvents c s = t
  have same : report c t.eli.reportNo (t.withDout d) = report c t.eli.reportNo t := report_updEli ..
  unfold takeFree
  split
  · exact congrArg (fun l => (t.updEli (fun e => { e with latch := l, reportNo := e.reportNo + 1, dout := d })).bumpFree) same
  · exact congrArg (fun l => t.updEli (fun e => { e with latch := l, reportNo := e.reportNo + 1, dout := d })) same

theorem opened_withDout (c : EdCommand) (s : State) (d : List Byte) : opened c (s.withDout d) = (opened c s).withDout d := by
  unfold opened
  rw [latchReport_withDout]
  show (if s.eli.latch = [] then _ else _) = _
  split <;> rfl

theorem opened_eli (c : EdCommand) (s : State) : (opened c s).eli =
    { s.eli with latch := (opened c s).eli.latch, reportNo := (opened c s).eli.reportNo } := by
  unfold opened
  split
  · rw [latchReport_eli]
  · rfl

theorem latchReport_run (c : EdCommand) (s : State) : (latchReport c s).run = s.run := by
  have free : ∀ t : State, (takeFree c t).run = t.run := fun t => by cases c <;> rfl
  have begins : (beginEvents c s).run = s.run := by unfold beginEvents; split <;> rfl
  rw [latchReport, free]
  exact begins

theorem opened_run (c : EdCommand) (s : State) : (opened c s).run = s.run := by
  unfold opened
  split
  · exact latchReport_run c s
  · rfl

/-- R172: the state after the next byte. -/
def stepped (c : EdCommand) (s : State) : State :=
  (opened c s).updEli (fun e => { e with latch := e.latch.tail, counter := e.counter + 1 })

theorem sendByte_reading {s : State} {c : EdCommand} (phase : s.eli.phase = .dataIn) (command : s.eli.command = some c) :
    sendByte s = ((opened c s).eli.latch.headD 0,
      if s.eli.dataLength ≤ s.eli.counter + 1 then completeRead c (stepped c s) else stepped c s) := by
  have e := opened_eli c s
  have length : (stepped c s).eli.dataLength = s.eli.dataLength := (congrArg Eli.dataLength e :)
  have counter : (stepped c s).eli.counter = s.eli.counter + 1 := (congrArg (fun e => Eli.counter e + 1) e :)
  rw [← length, ← counter]
  simp only [sendByte, phase, command]
  rfl

theorem sendByte_other {s : State} (h : ¬ (s.eli.phase = .dataIn ∧ ∃ c, s.eli.command = some c)) : sendByte s = (0, s) := by
  unfold sendByte
  split
  · next c phase command => exact absurd ⟨phase, c, command⟩ h
  · rfl

theorem completeRead_withDout (c : EdCommand) (s : State) (d : List Byte) :
    completeRead c (s.withDout d) = (completeRead c s).withDout d := by
  unfold completeRead
  split <;> rfl

/-- What stands on ED DOUT does not matter to the bytes sent. -/
theorem sendByte_withDout (s : State) (d : List Byte) :
    sendByte (s.withDout d) = ((sendByte s).1, (sendByte s).2.withDout d) := by
  by_cases h : s.eli.phase = .dataIn ∧ ∃ c, s.eli.command = some c
  · obtain ⟨phase, c, command⟩ := h
    have step : stepped c (s.withDout d) = (stepped c s).withDout d :=
      congrArg (State.updEli · fun e => { e with latch := e.latch.tail, counter := e.counter + 1 }) (opened_withDout c s d)
    rw [sendByte_reading phase command, sendByte_reading (s := s.withDout d) phase command, step, completeRead_withDout,
      opened_withDout]
    refine Prod.ext rfl ?_
    exact (apply_ite (State.withDout · d) _ _ _).symm
  · rw [sendByte_other h, sendByte_other (s := s.withDout d) h]

theorem sendBytes_withDout (n : Nat) (s : State) (d : List Byte) :
    sendBytes n (s.withDout d) = ((sendBytes n s).1, (sendBytes n s).2.withDout d) := by
  induction n generalizing s with
  | zero => rfl
  | succ n ih => simp only [sendBytes, sendByte_withDout, ih]

/-- A DATA IN frame, by the bytes that it sends. -/
theorem dataIn_eq {s : State} (n : Nat) (k : s.listens) (phase : s.eli.phase = .dataIn) :
    dataIn n s = (sendBytes n s).2.withDout (0 :: (sendBytes n s).1) := by
  have zeros : sendBytes n (driveZeros n s) = _ := sendBytes_withDout n s (0 :: List.replicate n 0)
  rw [dataIn, inPhase_of_phase n _ k phase, zeros]
  rfl

theorem exec_dataInFrame {s : State} (n : Nat) (k : s.listens) (phase : s.eli.phase = .dataIn) :
    exec (.dataInFrame n) s = .next ((sendBytes n s).2.withDout (0 :: (sendBytes n s).1)) :=
  congrArg Host.Outcome.next (dataIn_eq n k phase)

/-- R172: a read begins with its first report: nothing is sent yet. -/
structure State.Reading (s : State) (c : EdCommand) (n : Nat) : Prop where
  listens : s.listens
  phase : s.eli.phase = .dataIn
  command : s.eli.command = some c
  length : s.eli.dataLength = n
  counter : s.eli.counter = 0
  latch : s.eli.latch = []
  reportNo : s.eli.reportNo = 0

theorem State.Reading.goesOn {s : State} {c : EdCommand} {n : Nat} (h : s.Reading c n) : s.goesOn [] 0 0 = s := by
  calc s.goesOn [] 0 0 = s.goesOn s.eli.latch s.eli.counter s.eli.reportNo := by rw [h.latch, h.counter, h.reportNo]
    _ = s := s.goesOn_self

/-- R172: a read clocked in one frame sends its reports in their order, and changes nothing outside the link. -/
theorem read_one_frame {s : State} {c : EdCommand} {m n : Nat} {bytes : List Byte} (only : ReportsOnly c) (h : s.Reading c n)
    (ne : ∀ i, report c i s ≠ []) (reports : (List.range (m + 1)).flatMap (fun i => report c i s) = bytes)
    (length : bytes.length = n) :
    ∃ t, exec (.dataInFrame n) s = .next t ∧ t = { s with eli := t.eli } ∧ t.eli.phase = .statusReady ∧
      t.eli.status = some ⟨.good, 0, noValues⟩ ∧ t.eli.dout = 0 :: bytes := by
  have sent := sendBytes_reports (k := 0) (n := 0) h.phase h.command only m ne
    (by rw [← List.range_eq_range', reports, Nat.zero_add]; exact length.trans h.length.symm)
  rw [← List.range_eq_range', reports, length, h.goesOn, completeRead_of_ne _ only.1] at sent
  refine ⟨_, exec_dataInFrame n h.listens h.phase, ?_⟩
  rw [sent]
  exact ⟨rfl, rfl, rfl, rfl⟩

/-! ### Lengths and positions -/

@[simp] theorem bytesOf_length (k v : Nat) : (bytesOf k v).length = k := by
  induction k with
  | zero => rfl
  | succ k ih => rw [bytesOf, List.length_cons, ih]

@[simp] theorem bytesOfInt_length (k : Nat) (z : Int) : (bytesOfInt k z).length = k := bytesOf_length ..

/-- Reports of equal length. -/
theorem length_flatMap_of_eq {α β : Type} {l : List α} {f : α → List β} {n : Nat} (h : ∀ a ∈ l, (f a).length = n) :
    (l.flatMap f).length = n * l.length := by
  rw [List.length_flatMap, List.map_congr_left h, List.map_const', List.sum_replicate_nat, Nat.mul_comm]

theorem stepPosition_lt {n start : Nat} (d k : Nat) (h : start < n) : stepPosition n start d k < n := by
  unfold stepPosition
  split
  · exact Nat.mod_lt _ (by omega)
  · exact Nat.mod_lt _ (by omega)
  · exact h

/-- R172: upward, downward and not moving, over at most one round. -/
theorem stepPosition_eq {n k : Nat} (start d : Nat) (h : k < n) : stepPosition n start d k =
    if d = 0 then (start + k) % n else if d = 1 then (start + n - k) % n else start := by
  unfold stepPosition
  split
  · rfl
  · rw [Nat.mod_eq_of_lt h]
    rfl
  · next no no' => rw [if_neg no, if_neg no']

/-! ### READ QUOTES -/

/-- R23: 32 bytes of a record whose symbol has at most eight codes. -/
theorem quoteBytes_length {q : Quote} (h : (q.symbol.getD []).length ≤ 8) : (quoteBytes q).length = 32 := by
  simp only [quoteBytes, optMantissa, optPercent, List.length_append, List.length_cons, List.length_nil, bytesOf_length,
    bytesOfInt_length, List.length_replicate]
  omega

theorem quoteBytes_ne_nil (q : Quote) : quoteBytes q ≠ [] := List.cons_ne_nil _ _

theorem report_readQuotes (s : State) {start : Nat} (count d k : Nat) (h : start ≤ 1023) :
    report (.readQuotes start count d) k s = quoteBytes (s.quote (Fin.ofNat 1024 (stepPosition 1024 start d k))) := by
  have lt : stepPosition 1024 start d k < 1024 := stepPosition_lt d k (by omega)
  have same : Fin.ofNat 1024 (stepPosition 1024 start d k) = ⟨stepPosition 1024 start d k, lt⟩ :=
    Fin.ext (Nat.mod_eq_of_lt lt)
  rw [report, State.quoteAt, dif_pos lt, same]
  rfl

/-! ### READ EVENTS -/

theorem completeRead_readEvents (s : State) :
    completeRead .readEvents s = finish ⟨.good, 0, noValues⟩ (s.updMaster .editorial MasterSet.completeRead) := rfl

/-- R190: the first byte of READ EVENTS. -/
theorem latchReport_readEvents (s : State) : latchReport .readEvents s =
    (s.updMaster .editorial MasterSet.beginRead).goesOn (eventsBytes s.au.editorial.pending) s.eli.counter
      (s.eli.reportNo + 1) := rfl

/-- R189: what is left of READ EVENTS, sent from the latch. -/
theorem dataIn_events_rest {s : State} {n : Nat} (k : s.listens) (phase : s.eli.phase = .dataIn)
    (command : s.eli.command = some .readEvents) (ne : s.eli.latch ≠ []) (length : s.eli.latch.length = n)
    (last : s.eli.counter + n = s.eli.dataLength) :
    dataIn n s = (finish ⟨.good, 0, noValues⟩ ((s.goesOn [] s.eli.dataLength s.eli.reportNo).updMaster .editorial
      MasterSet.completeRead)).withDout (0 :: s.eli.latch) := by
  have sent := sendBytes_last phase command s.eli.reportNo ne (by rw [length]; exact last)
  rw [State.goesOn_self, length, completeRead_readEvents] at sent
  rw [dataIn_eq n k phase, sent]

/-- R189, R190: READ EVENTS from its first byte on. -/
theorem dataIn_events {s : State} {n : Nat} (k : s.listens) (phase : s.eli.phase = .dataIn)
    (command : s.eli.command = some .readEvents) (latch : s.eli.latch = [])
    (length : (eventsBytes s.au.editorial.pending).length = n) (last : s.eli.counter + n = s.eli.dataLength) :
    dataIn n s = (finish ⟨.good, 0, noValues⟩ ((s.goesOn [] s.eli.dataLength (s.eli.reportNo + 1)).updMaster .editorial
      (fun m => m.beginRead.completeRead))).withDout (0 :: eventsBytes s.au.editorial.pending) := by
  have ne : eventsBytes s.au.editorial.pending ≠ [] := List.cons_ne_nil _ _
  have opens := sendBytes_open phase command (length ▸ List.length_pos_iff.mpr ne) latch ne
  have sent := sendBytes_last (s := s.updMaster .editorial MasterSet.beginRead) phase command (s.eli.reportNo + 1) ne
    (by rw [length]; exact last)
  rw [length, completeRead_readEvents] at sent
  rw [dataIn_eq n k phase, opens, latchReport_readEvents]
  exact congrArg (fun r : List Byte × State => r.2.withDout (0 :: r.1)) sent

theorem exec_readEventsComplete {s : State} (k : s.listens) (phase : s.eli.phase = .dataIn)
    (command : s.eli.command = some .readEvents) :
    exec .readEventsComplete s = .next (dataIn (s.eli.dataLength - s.eli.counter) s) := by
  show execReadEventsComplete s = _
  rw [execReadEventsComplete, if_pos ⟨k.1, phase, command⟩]

/-- R190: the count, a slot a pair, and FFh to the end. -/
theorem eventsBytes_length {l : List Event} (h : l.length ≤ 64) : (eventsBytes l).length = 129 := by
  have slots : (l.flatMap eventBytes).length = 2 * l.length := length_flatMap_of_eq (fun _ _ => rfl)
  simp only [eventsBytes, List.length_cons, List.length_append, slots, List.length_replicate]
  omega

theorem mem_addEvent {l : List Event} {e f : Event} : e ∈ addEvent l f ↔ e ∈ l ∨ e = f := by
  unfold addEvent
  split
  · next old => exact ⟨.inl, fun h => h.elim id (fun same => same ▸ old)⟩
  · simp

/-- R189: what a merge leaves pending. -/
theorem mem_foldl_addEvent {hold l : List Event} {e : Event} : e ∈ hold.foldl addEvent l ↔ e ∈ l ∨ e ∈ hold := by
  induction hold generalizing l with
  | nil => simp
  | cons f hold ih => rw [List.foldl_cons, ih, mem_addEvent, List.mem_cons, or_assoc]

/-- R189: a completed read leaves what was not latched and what was held back. -/
theorem mem_completeRead_pending {m : MasterSet} {latched : List Event} (h : m.latch = some latched) (e : Event) :
    e ∈ m.completeRead.pending ↔ (e ∈ m.pending ∧ e ∉ latched) ∨ e ∈ m.hold := by
  show e ∈ m.hold.foldl addEvent (m.pending.filter (fun e => !(m.latch.getD []).contains e)) ↔ _
  rw [mem_foldl_addEvent, List.mem_filter, h]
  simp

/-- R189: a read of every pair pending, with none held back, leaves none. -/
theorem completeRead_beginRead {m : MasterSet} (h : m.hold = []) :
    m.beginRead.completeRead = { m with pending := [], hold := [], latch := none } := by
  have none : m.pending.filter (fun e => !m.pending.contains e) = [] := by simp
  show { m with pending := m.hold.foldl addEvent (m.pending.filter (fun e => !m.pending.contains e)), hold := [], latch := _ } = _
  rw [h, none]
  rfl

/-- Settles O32: the reports of READ QUOTES in one frame, and the two ways in which READ EVENTS stands when its last bytes
are clocked. -/
theorem readData : Obligations.ReadData := by
  unfold Obligations.ReadData
  refine ⟨?_, fun s k phase command length counter latch few hold => ?_,
    fun s latched k phase command less length latch => ?_⟩
  · intro s start count d k phase command length counter latch reportNo hstart low high hd symbols index
    obtain ⟨m, rfl⟩ := Nat.exists_eq_add_of_le' low
    refine read_one_frame (c := .readQuotes start (m + 1) d) (m := m) ⟨nofun, fun _ => nofun⟩ ⟨k, phase, command, length, counter, latch, reportNo⟩
      (fun i => ?_) (List.flatMap_congr fun i hi => ?_) ?_
    · rw [report_readQuotes s _ _ _ hstart]
      exact quoteBytes_ne_nil _
    · rw [report_readQuotes s _ _ _ hstart, stepPosition_eq _ _ (by have := List.mem_range.mp hi; omega)]
    · rw [length_flatMap_of_eq (n := 32), List.length_range]
      intro i _
      apply quoteBytes_length
      cases h : (s.quote (Fin.ofNat 1024 (index i))).symbol with
      | none => exact Nat.zero_le 8
      | some symbol => exact symbols _ _ h
  · have bytes := eventsBytes_length few
    rw [exec_readEventsComplete k phase command, length, counter,
      dataIn_events k phase command latch bytes (by rw [length, counter])]
    exact ⟨_, rfl, rfl, completeRead_beginRead (m := s.au.editorial) hold, rfl⟩
  · rw [exec_readEventsComplete k phase command,
      dataIn_events_rest k phase command (List.ne_nil_of_length_pos (length.symm ▸ Nat.sub_pos_of_lt less)) length
        (Nat.add_sub_of_le less.le)]
    generalize s.eli.dataLength - s.eli.counter = n
    exact ⟨_, rfl, rfl, rfl, rfl, rfl, rfl, mem_completeRead_pending (m := s.au.editorial) latch⟩

end Sys2Proof.Machine

/-! SUPPORT. A read over several frames, the bytes of the reports of the editorial reads, and the configuration record both
ways. -/

namespace Sys2Proof.Machine

/-! ### A read over several frames -/

/-- A read goes on while bytes are left. -/
structure State.GoesOn (s t : State) (n : Nat) : Prop where
  run : t.run = s.run
  straddles : t.eli.straddles = s.eli.straddles
  phase : t.eli.phase = s.eli.phase
  command : t.eli.command = s.eli.command
  dataLength : t.eli.dataLength = s.eli.dataLength
  counter : t.eli.counter = s.eli.counter + n

theorem goesOn_stepped (c : EdCommand) (s : State) : s.GoesOn (stepped c s) 1 where
  run := opened_run c s
  straddles := (congrArg Eli.straddles (opened_eli c s) :)
  phase := (congrArg Eli.phase (opened_eli c s) :)
  command := (congrArg Eli.command (opened_eli c s) :)
  dataLength := (congrArg Eli.dataLength (opened_eli c s) :)
  counter := (congrArg (fun e => Eli.counter e + 1) (opened_eli c s) :)

theorem sendByte_more {s : State} {c : EdCommand} (phase : s.eli.phase = .dataIn) (command : s.eli.command = some c)
    (more : s.eli.counter + 1 < s.eli.dataLength) : sendByte s = ((opened c s).eli.latch.headD 0, stepped c s) := by
  rw [sendByte_reading phase command, if_neg (by omega)]

theorem goesOn_sendBytes {s : State} {c : EdCommand} {n : Nat} (phase : s.eli.phase = .dataIn)
    (command : s.eli.command = some c) (more : s.eli.counter + n < s.eli.dataLength) :
    s.GoesOn (sendBytes n s).2 n := by
  induction n generalizing s with
  | zero => exact ⟨rfl, rfl, rfl, rfl, rfl, rfl⟩
  | succ n ih =>
    have first := goesOn_stepped c s
    have rest := ih (s := stepped c s) (first.phase.trans phase) (first.command.trans command)
      (by rw [first.counter, first.dataLength]; omega)
    rw [sendBytes, sendByte_more phase command (by omega)]
    exact ⟨rest.run.trans first.run, rest.straddles.trans first.straddles, rest.phase.trans first.phase,
      rest.command.trans first.command, rest.dataLength.trans first.dataLength,
      by rw [rest.counter, first.counter, Nat.add_assoc, Nat.add_comm 1]⟩

/-- R172: two frames send what one sends. -/
theorem dataInFrame_twice {s : State} {n : Nat} (m : Nat) (k : s.listens) (phase : s.eli.phase = .dataIn)
    (command : s.eli.command ≠ none) (more : s.eli.counter + n < s.eli.dataLength) :
    ∃ t u, exec (.dataInFrame n) s = .next t ∧ exec (.dataInFrame m) t = .next u ∧ t.eli.phase = .dataIn ∧
      t.eli.counter = s.eli.counter + n ∧
      exec (.dataInFrame (n + m)) s = .next { u with eli := { u.eli with dout := t.eli.dout ++ u.eli.dout.drop 1 } } := by
  obtain ⟨c, command⟩ := Option.ne_none_iff_exists'.mp command
  have on := goesOn_sendBytes phase command more
  refine ⟨_, _, exec_dataInFrame n k phase, exec_dataInFrame m ⟨on.run.trans k.1, on.straddles.trans k.2⟩
    (on.phase.trans phase), on.phase.trans phase, on.counter, ?_⟩
  rw [exec_dataInFrame (n + m) k phase, sendBytes_add, sendBytes_withDout]
  rfl

/-- R172: one byte of a read that goes on. -/
theorem dataInFrame_one {s : State} {c : EdCommand} {bytes : List Byte} {k : Nat} (listens : s.listens)
    (phase : s.eli.phase = .dataIn) (command : s.eli.command = some c) (more : s.eli.counter + 1 < s.eli.dataLength)
    (opens : opened c s = s.goesOn bytes s.eli.counter k) :
    exec (.dataInFrame 1) s = .next { s with eli := { s.eli with
      counter := s.eli.counter + 1, latch := bytes.tail, reportNo := k, dout := [0, bytes.headD 0] } } := by
  rw [exec_dataInFrame 1 listens phase, sendBytes, sendByte_more phase command more, stepped, opens]
  rfl

theorem opened_in_progress {s : State} (c : EdCommand) (h : s.eli.latch ≠ []) : opened c s = s := if_neg h

theorem opened_next {s : State} {c : EdCommand} (only : ReportsOnly c) (h : s.eli.latch = []) :
    opened c s = s.goesOn (report c s.eli.reportNo s) s.eli.counter (s.eli.reportNo + 1) := by
  rw [opened, if_pos h]
  exact latchReport_goesOn only s s.eli.latch s.eli.counter s.eli.reportNo

/-! ### Reports clocked in one frame -/

/-- R172: a read whose reports make up its data length, clocked in one frame. -/
theorem reads_reports {s : State} {c : EdCommand} {m n : Nat} {bytes : List Byte} (only : ReportsOnly c)
    (ne : ∀ i, report c i s ≠ []) (reports : (List.range (m + 1)).flatMap (fun i => report c i s) = bytes)
    (length : ((List.range (m + 1)).flatMap (fun i => report c i s)).length = n) (h : s.listens ∧ s.eli.phase = .dataIn ∧ s.eli.command = some c ∧ s.eli.dataLength = n ∧
      s.eli.counter = 0 ∧ s.eli.latch = [] ∧ s.eli.reportNo = 0) :
    bytes.length = n ∧ ∃ t, exec (.dataInFrame n) s = .next t ∧
      t = { s with eli := t.eli, freeIndex := s.freeIndex + 0 } ∧ t.eli.phase = .statusReady ∧
      t.eli.status = some ⟨.good, 0, noValues⟩ ∧ t.eli.dout = 0 :: bytes := by
  obtain ⟨listens, phase, command, dataLength, counter, latch, reportNo⟩ := h
  rw [reports] at length
  exact ⟨length, read_one_frame only ⟨listens, phase, command, dataLength, counter, latch, reportNo⟩ ne reports length⟩

/-- The counts that reports give of a table's entries. -/
theorem length_filter_tlist {α : Type} {n : Nat} (v : Vector α n) (p : α → Bool) :
    ((tlist v).filter p).length = ((List.finRange n).filter (fun i => p (tget v i))).length := by
  have entries : tlist v = (List.finRange n).map (tget v) := List.ext_getElem (by simp) fun i h _ => by
    rw [List.getElem_map, List.getElem_finRange]
    exact tlist_getElem v ⟨i, by simpa using h⟩
  rw [entries, List.filter_map, List.length_map]
  rfl

theorem bytesOfInt_one (z : Int) : bytesOfInt 1 z = [BitVec.ofInt 8 z] := by
  refine congrArg (· :: []) (BitVec.eq_of_toNat_eq ?_)
  rw [BitVec.toNat_ofInt]
  simpa using Int.emod_lt_of_pos z (by decide : (0 : Int) < 256)

/-- The reports after the first of a read. -/
theorem flatMap_range_succ {α : Type} (f : Nat → List α) (n : Nat) :
    (List.range (n + 1)).flatMap f = f 0 ++ (List.range n).flatMap (fun k => f (k + 1)) := by
  rw [List.range_succ_eq_map, List.flatMap_cons, List.flatMap_map]

/-- R172: a first report, and `m` reports of `w` bytes each after it. -/
theorem reads_first_then {s : State} {c : EdCommand} {m n w : Nat} {bytes first : List Byte} {rest : Nat → List Byte}
    (only : ReportsOnly c) (zero : report c 0 s = first) (succ : ∀ k, report c (k + 1) s = rest k) (ne : first ≠ [])
    (width : ∀ k, (rest k).length = w) (pos : 0 < w) (reports : first ++ (List.range m).flatMap rest = bytes)
    (length : first.length + w * m = n) (h : s.listens ∧ s.eli.phase = .dataIn ∧ s.eli.command = some c ∧
      s.eli.dataLength = n ∧ s.eli.counter = 0 ∧ s.eli.latch = [] ∧ s.eli.reportNo = 0) :
    bytes.length = n ∧ ∃ t, exec (.dataInFrame n) s = .next t ∧
      t = { s with eli := t.eli, freeIndex := s.freeIndex + 0 } ∧ t.eli.phase = .statusReady ∧
      t.eli.status = some ⟨.good, 0, noValues⟩ ∧ t.eli.dout = 0 :: bytes := by
  have all : (List.range (m + 1)).flatMap (fun i => report c i s) = first ++ (List.range m).flatMap rest := by
    rw [flatMap_range_succ, zero, List.flatMap_congr (fun k _ => succ k)]
  refine reads_reports only (fun i => ?_) (all.trans reports) ?_ h
  · cases i with
    | zero => rw [zero]; exact ne
    | succ k => rw [succ]; exact List.ne_nil_of_length_pos (by rw [width]; exact pos)
  · rw [all, List.length_append, length_flatMap_of_eq (fun k _ => width k), List.length_range]
    exact length

/-! ### The lengths of the reports (R183) -/

theorem storyBytes_length (id : Nat) (st : Story) : (storyBytes id st).length = 9 := by simp [storyBytes]

theorem glyphBytes_length (code : Nat) (g : Glyph) : (glyphBytes code g).length = 12 := by simp [glyphBytes]

theorem itemReport_length (position : Nat) (i : Option Item) : (itemReport position i).length = 11 := by
  cases i <;> simp [itemReport, itemBytes]

theorem instReport_length (position : Nat) (i : Option Inst) : (instReport position i).length = 25 := by
  cases i <;> simp [instReport]

theorem rgbBytes_length (p : Rgb) : (rgbBytes p).length = 6 := by simp [rgbBytes]

theorem configBytes_length (c : BandConfig) : (configBytes c).length = 96 := by
  have palette : ((tlist c.palette).flatMap rgbBytes).length = 6 * 10 := by
    rw [length_flatMap_of_eq (fun p _ => rgbBytes_length p), tlist_length]
  unfold configBytes
  simp only [List.length_append, palette, bytesOf_length, List.length_cons, List.length_nil]

theorem bandBytes_length (s : State) (b : Fin 4) (target : Nat) : (bandBytes s b target).length = 119 := by
  have record : (((s.band b).config.map configBytes).getD (List.replicate Config.configBytes 0)).length = 96 := by
    cases (s.band b).config with
    | none => rfl
    | some c => exact configBytes_length c
  unfold bandBytes
  simp only [List.length_append, record, bytesOf_length, List.length_cons, List.length_nil]

/-! ### The reports of each read -/

theorem report_readLanes_ne_nil (k : Nat) (s : State) : report .readLanes k s ≠ [] := by
  simp only [report]
  split <;> exact List.cons_ne_nil _ _

theorem report_readStories (s : State) (start : Nat) {count k : Nat} (h : k < count) :
    report (.readStories start count) k s =
      storyBytes (Fin.ofNat 256 (start + k)).val (s.story (Fin.ofNat 256 (start + k))) := by
  have at_id : s.storyAt (stepPosition 256 start 0 k) = some (s.story (Fin.ofNat 256 (start + k))) :=
    s.storyAt_fin (Fin.ofNat 256 (start + k))
  simp only [report]
  rw [if_pos h, at_id]
  rfl

theorem report_readStories_pool (s : State) (start count : Nat) {k : Nat} (h : count ≤ k) :
    report (.readStories start count) k s = poolBytes s := by
  simp only [report]
  rw [if_neg (by omega)]

theorem report_readStories_ne_nil (s : State) (start count k : Nat) : report (.readStories start count) k s ≠ [] := by
  rcases Nat.lt_or_ge k count with h | h
  · rw [report_readStories s start h]
    exact List.cons_ne_nil _ _
  · rw [report_readStories_pool s start count h]
    exact List.cons_ne_nil _ _

theorem report_readFace_face (s : State) (f : Fin 4) (start count : Nat) :
    report (.readFace f.val start count) 0 s = faceBytes s f := by
  simp only [report]
  rw [four_fin]
  rfl

theorem report_readFace_glyph (s : State) (f : Fin 4) (start count k : Nat) :
    report (.readFace f.val start count) (k + 1) s =
      glyphBytes (Fin.ofNat 1024 (start + k)).val (tget (s.face f).glyphs (Fin.ofNat 1024 (start + k))) := by
  have record : glyphRecord (s.face f) (stepPosition 1024 start 0 k) = tget (s.face f).glyphs (Fin.ofNat 1024 (start + k)) :=
    dif_pos (Fin.ofNat 1024 (start + k)).isLt
  simp only [report]
  rw [four_fin]
  exact congrArg (glyphBytes _) record

theorem report_readRunList_bank (s : State) (b : Fin 4) (bank start count d : Nat) :
    report (.readRunList b.val bank start count d) 0 s = bankBytes s b bank := by
  simp only [report]
  rw [four_fin]
  rfl

/-- R84: the bank of a letter. -/
theorem runLists_bank_bit (r : RunLists) (bankB : Bool) : r.bank (bit bankB) = if bankB then r.bankB else r.bankA := by
  cases bankB <;> rfl

theorem report_readRunList_item (s : State) (b : Fin 4) (bank start count d k : Nat) :
    report (.readRunList b.val bank start count d) (k + 1) s =
      itemReport (stepPosition 256 start d k) ((s.lists b).bank bank)[stepPosition 256 start d k]? := by
  simp only [report]
  rw [four_fin]
  rfl

theorem report_readBand (s : State) (b : Fin 4) (k : Nat) :
    report (.readBand b.val) k s = bandBytes s b (s.reportedTarget b) := by
  simp only [report]
  rw [four_fin]

/-- R113: the target of a CRAWL band. -/
theorem reportedTarget_crawl {s : State} {b : Fin 4} {c : BandConfig} (config : (s.band b).config = some c)
    (crawl : c.presentation = .crawl) : s.reportedTarget b = (s.band b).effectiveTarget c := by
  unfold State.reportedTarget
  rw [config]
  dsimp only
  rw [crawl]

/-- R111: the motion as a byte. -/
theorem byteOf_motionCode (d : Band) :
    byteOf d.motionCode = if d.halted = false then 0 else if 0 < d.speed then 1 else 2 := by
  unfold Band.motionCode
  cases d.halted
  · rfl
  · exact apply_ite byteOf (0 < d.speed) 1 2

/-- R123: the one report of READ BAND takes a free value. -/
theorem latchReport_readBand (s : State) (b : Fin 4) : latchReport (.readBand b.val) s =
    s.bumpFree.goesOn (bandBytes s b (s.reportedTarget b)) s.eli.counter (s.eli.reportNo + 1) := by
  have bytes := report_readBand s b s.eli.reportNo
  unfold latchReport
  dsimp only
  rw [beginEvents_of_ne (c := .readBand b.val) s nofun]
  exact congrArg (fun l => s.bumpFree.goesOn l s.eli.counter (s.eli.reportNo + 1)) bytes

/-- R123: READ BAND clocked in one frame. -/
theorem exec_dataInFrame_band {s : State} {b : Fin 4} (h : s.Reading (.readBand b.val) 119) :
    exec (.dataInFrame 119) s = .next ((finish ⟨.good, 0, noValues⟩ (s.bumpFree.goesOn [] 119 1)).withDout
      (0 :: bandBytes s b (s.reportedTarget b))) := by
  have length := bandBytes_length s b (s.reportedTarget b)
  have ne : bandBytes s b (s.reportedTarget b) ≠ [] := List.ne_nil_of_length_eq_add_one length
  have opens := latchReport_readBand s b
  rw [h.counter, h.reportNo] at opens
  have sent := sendBytes_last (s := s.bumpFree) h.phase h.command (n := 0) 1 ne (by rw [length]; exact h.length.symm)
  rw [exec_dataInFrame 119 h.listens h.phase, sendBytes_open h.phase h.command (by decide) h.latch (by rw [opens]; exact ne),
    opens]
  rw [length, show s.bumpFree.eli.dataLength = 119 from h.length, completeRead_of_ne (c := .readBand b.val) _ nofun] at sent
  exact congrArg (fun r : List Byte × State => Host.Outcome.next (r.2.withDout (0 :: r.1))) sent

theorem report_readWindow_count (s : State) (b : Fin 4) : report (.readWindow b.val) 0 s = [byteOf (s.band b).window.length] := by
  simp only [report]
  rw [four_fin]
  rfl

theorem report_readWindow_entry (s : State) (b : Fin 4) (k : Nat) :
    report (.readWindow b.val) (k + 1) s = instReport k (s.band b).window[k]? := by
  simp only [report]
  rw [four_fin]
  rfl

/-! ### The coded fields of a quote snapshot (R23) -/

theorem lane_number (l : Option (Fin 4)) : (l.map laneNumber).getD 0 = match l with
    | none => 0
    | some n => n.val + 1 := by
  cases l <;> rfl

theorem source_code (x : Source) : 16 * x.code = match x with
    | .live => 0
    | .frozen => 16
    | .overridden => 32 := by
  cases x <;> rfl

theorem sign_code (x : Sign) : 16 * x.code = match x with
    | .zero => 0
    | .plus => 16
    | .minus => 32 := by
  cases x <;> rfl

theorem tick_code (x : Tick) : 64 * x.code = match x with
    | .none => 0
    | .up => 64
    | .down => 128 := by
  cases x <;> rfl

/-! ### A configuration record both ways (R183) -/

/-- The 96 bytes of a configuration record, with `high` in the upper six bits of every field of ten bits. -/
def recordBytes (c : ConfigRecord) (high : Nat) (unread : List Byte) : List Byte :=
  let wide := fun v : Nat => bytesOf 2 (v + 1024 * high)
  [byteOf c.presentation] ++ bytesOf 2 c.yOrigin ++ bytesOf 2 c.height ++ [byteOf c.face] ++ bytesOf 2 c.baseline ++
    (tlist c.palette).flatMap (fun p => wide p.r ++ wide p.g ++ wide p.b) ++ wide c.backKey ++ bytesOf 2 c.gap ++
    [byteOf c.quantum] ++ bytesOf 2 c.speed ++ bytesOf 2 c.accel ++ bytesOf 2 c.clearSpeed ++
    [byteOf c.fade, byteOf c.changeStyle, byteOf c.smooth] ++ bytesOf 2 c.flipHold ++
    [byteOf c.flipTransition, byteOf c.rollFrames] ++ bytesOf 2 c.arrowUp ++ bytesOf 2 c.arrowDown ++
    bytesOf 2 c.arrowSame ++ bytesOf 2 c.arrowHalt ++ unread

theorem recordBytes_length (c : ConfigRecord) (high : Nat) (a b : Byte) : (recordBytes c high [a, b]).length = 96 := by
  have palette : ((tlist c.palette).flatMap (fun p => bytesOf 2 (p.r + 1024 * high) ++ bytesOf 2 (p.g + 1024 * high) ++
      bytesOf 2 (p.b + 1024 * high))).length = 6 * 10 := by
    rw [length_flatMap_of_eq (n := 6) (fun p _ => by simp), tlist_length]
  unfold recordBytes
  simp only [List.length_append, palette, bytesOf_length, List.length_cons, List.length_nil]

theorem natOf_byteOf {v : Nat} (h : v < 256) : natOf [byteOf v] = v := by
  simp only [natOf, byteOf, List.foldl_cons, List.foldl_nil, BitVec.toNat_ofNat]
  omega

theorem natOf_bytesOf_two {v : Nat} (h : v < 65536) : natOf (bytesOf 2 v) = v := by
  simp only [natOf, bytesOf, List.foldl_cons, List.foldl_nil, BitVec.toNat_ofNat]
  omega

/-- R183: the upper six bits of a field of ten bits are not read. -/
theorem natOf_bytesOf_ten {v high : Nat} (h : v < 1024) (small : high < 64) :
    natOf (bytesOf 2 (v + 1024 * high)) % 1024 = v := by
  rw [natOf_bytesOf_two (by omega)]
  omega

/-- A palette entry as it is read back. -/
def readRgb (high : Nat) (p : Rgb) : Rgb :=
  ⟨natOf (bytesOf 2 (p.r + 1024 * high)) % 1024, natOf (bytesOf 2 (p.g + 1024 * high)) % 1024,
    natOf (bytesOf 2 (p.b + 1024 * high)) % 1024⟩

theorem readRgb_eq {high : Nat} {p : Rgb} (h : p.r < 1024 ∧ p.g < 1024 ∧ p.b < 1024) (small : high < 64) :
    readRgb high p = p := by
  obtain ⟨red, green, blue⟩ := h
  unfold readRgb
  rw [natOf_bytesOf_ten red small, natOf_bytesOf_ten green small, natOf_bytesOf_ten blue small]

/-- A table of ten entries, by its entries. -/
theorem vector_ten {α : Type} (v : Vector α 10) : ∃ p0 p1 p2 p3 p4 p5 p6 p7 p8 p9,
    v = ⟨#[p0, p1, p2, p3, p4, p5, p6, p7, p8, p9], rfl⟩ := by
  obtain ⟨⟨l⟩, size⟩ := v
  match l, size with
  | [p0, p1, p2, p3, p4, p5, p6, p7, p8, p9], _ => exact ⟨p0, p1, p2, p3, p4, p5, p6, p7, p8, p9, rfl⟩

/-- R183: a configuration record sent is the record received. -/
theorem configOf_recordBytes (c : ConfigRecord) (high : Nat) (a b : Byte)
    (bytes : ∀ v ∈ [c.presentation, c.face, c.quantum, c.fade, c.changeStyle, c.smooth, c.flipTransition, c.rollFrames], v < 256)
    (words : ∀ v ∈ [c.yOrigin, c.height, c.baseline, c.gap, c.speed, c.accel, c.clearSpeed, c.flipHold, c.arrowUp, c.arrowDown,
      c.arrowSame, c.arrowHalt], v < 65536)
    (tens : ∀ p ∈ tlist c.palette, p.r < 1024 ∧ p.g < 1024 ∧ p.b < 1024) (key : c.backKey < 1024) (small : high < 64) :
    configOf (recordBytes c high [a, b]) = c := by
  obtain ⟨p0, p1, p2, p3, p4, p5, p6, p7, p8, p9, palette⟩ := vector_ten c.palette
  have sent : configOf (recordBytes c high [a, b]) =
      { presentation := natOf [byteOf c.presentation], yOrigin := natOf (bytesOf 2 c.yOrigin),
        height := natOf (bytesOf 2 c.height), face := natOf [byteOf c.face], baseline := natOf (bytesOf 2 c.baseline),
        palette := ⟨#[readRgb high p0, readRgb high p1, readRgb high p2, readRgb high p3, readRgb high p4, readRgb high p5,
          readRgb high p6, readRgb high p7, readRgb high p8, readRgb high p9], rfl⟩,
        backKey := natOf (bytesOf 2 (c.backKey + 1024 * high)) % 1024, gap := natOf (bytesOf 2 c.gap),
        quantum := natOf [byteOf c.quantum], speed := natOf (bytesOf 2 c.speed), accel := natOf (bytesOf 2 c.accel),
        clearSpeed := natOf (bytesOf 2 c.clearSpeed), fade := natOf [byteOf c.fade],
        changeStyle := natOf [byteOf c.changeStyle], smooth := natOf [byteOf c.smooth],
        flipHold := natOf (bytesOf 2 c.flipHold), flipTransition := natOf [byteOf c.flipTransition],
        rollFrames := natOf [byteOf c.rollFrames], arrowUp := natOf (bytesOf 2 c.arrowUp),
        arrowDown := natOf (bytesOf 2 c.arrowDown), arrowSame := natOf (bytesOf 2 c.arrowSame),
        arrowHalt := natOf (bytesOf 2 c.arrowHalt) } := by
    unfold recordBytes
    rw [palette]
    simp only [tlist, List.flatMap_cons, List.flatMap_nil, bytesOf, List.cons_append, List.nil_append, List.append_nil]
    rfl
  rw [palette] at tens
  simp only [tlist, List.forall_mem_cons] at bytes words tens
  obtain ⟨presentation, face, quantum, fade, changeStyle, smooth, flipTransition, rollFrames, -⟩ := bytes
  obtain ⟨yOrigin, height, baseline, gap, speed, accel, clearSpeed, flipHold, arrowUp, arrowDown, arrowSame, arrowHalt,
    -⟩ := words
  obtain ⟨t0, t1, t2, t3, t4, t5, t6, t7, t8, t9, -⟩ := tens
  rw [sent]
  simp only [natOf_byteOf presentation, natOf_byteOf face, natOf_byteOf quantum, natOf_byteOf fade,
    natOf_byteOf changeStyle, natOf_byteOf smooth, natOf_byteOf flipTransition, natOf_byteOf rollFrames,
    natOf_bytesOf_two yOrigin, natOf_bytesOf_two height, natOf_bytesOf_two baseline, natOf_bytesOf_two gap,
    natOf_bytesOf_two speed, natOf_bytesOf_two accel, natOf_bytesOf_two clearSpeed, natOf_bytesOf_two flipHold,
    natOf_bytesOf_two arrowUp, natOf_bytesOf_two arrowDown, natOf_bytesOf_two arrowSame, natOf_bytesOf_two arrowHalt,
    natOf_bytesOf_ten key small, readRgb_eq t0 small, readRgb_eq t1 small, readRgb_eq t2 small, readRgb_eq t3 small,
    readRgb_eq t4 small, readRgb_eq t5 small, readRgb_eq t6 small, readRgb_eq t7 small, readRgb_eq t8 small,
    readRgb_eq t9 small, ← palette]

/-- Settles O33, one case a read: its reports, each of the length of R183, make up the bytes stated. -/
theorem readReports : Obligations.ReadReports := by
  unfold Obligations.ReadReports
  intro reading ends sends number yes kindOf record stored
  refine ⟨fun s => ?lanes, fun s start count low high last => ?stories, fun s f start count low high last => ?face,
    fun s b bankB start count d low high some hd => ?runList, fun s b h => ?band, fun s b => ?window, fun s => ?output,
    ⟨rfl, rfl, rfl, rfl⟩, fun q symbol h short => ?quote, fun c high a b bytes words tens key small => ?record,
    fun s n m k phase command more => dataInFrame_twice m k phase command more,
    fun s c k phase command more => ⟨fun h => dataInFrame_one k phase command more (opened_in_progress c h),
      fun h no no' => dataInFrame_one k phase command more (opened_next ⟨no, no'⟩ h)⟩⟩
  case lanes => exact reads_reports (m := 4) ⟨nofun, fun _ => nofun⟩ (report_readLanes_ne_nil · s) rfl rfl
  case output => exact reads_reports (m := 0) ⟨nofun, fun _ => nofun⟩ (fun i => List.cons_ne_nil _ _) rfl rfl
  case stories =>
    refine reads_reports (m := count) ⟨nofun, fun _ => nofun⟩ (report_readStories_ne_nil s start count) ?_ ?_
    · rw [List.range_succ, List.flatMap_append, List.flatMap_singleton, report_readStories_pool s start count le_rfl,
        List.append_assoc]
      refine congrArg₂ (· ++ ·) (List.flatMap_congr fun k hk => ?_) ?_
      · rw [report_readStories s start (List.mem_range.mp hk)]
        dsimp only
        generalize s.story (Fin.ofNat 256 (start + k)) = d
        unfold storyBytes
        cases d.state <;> rfl
      · rw [poolBytes, length_filter_tlist]
        rfl
    · rw [List.range_succ, List.flatMap_append, List.flatMap_singleton, report_readStories_pool s start count le_rfl,
        List.length_append, length_flatMap_of_eq (n := 9), List.length_range]
      · rfl
      · intro k hk
        rw [report_readStories s start (List.mem_range.mp hk)]
        exact storyBytes_length _ _
  case face =>
    refine reads_first_then (m := count) ⟨nofun, fun _ => nofun⟩ (report_readFace_face s f start count)
      (report_readFace_glyph s f start count) (List.cons_ne_nil _ _) (fun k => glyphBytes_length _ _) (by decide) ?_ rfl
    refine congrArg₂ (· ++ ·) ?_ (List.flatMap_congr fun k _ => ?_)
    · rw [faceBytes, length_filter_tlist]
      rfl
    · simp only [glyphBytes, bytesOfInt_one]
      rfl
  case runList =>
    refine reads_first_then (m := count) ⟨nofun, fun _ => nofun⟩ (report_readRunList_bank s b (bit bankB) start count d)
      (report_readRunList_item s b (bit bankB) start count d) (List.cons_ne_nil _ _) (fun k => itemReport_length _ _)
      (by decide) ?_ rfl
    refine congrArg₂ (· ++ ·) ?_ (List.flatMap_congr fun k hk => ?_)
    · unfold bankBytes
      dsimp only
      generalize (s.lists b).commit = commit
      cases bankB <;> rcases commit with _ | _ | _ <;> rfl
    · rw [stepPosition_eq _ _ (by have := List.mem_range.mp hk; omega), runLists_bank_bit]
      dsimp only
      generalize (if d = 0 then (start + k) % 256 else if d = 1 then (start + 256 - k) % 256 else start) = place
      cases (if bankB = true then (s.lists b).bankB else (s.lists b).bankA)[place]? with
      | none => rfl
      | some i =>
        unfold itemReport itemBytes
        cases i.kind <;> rfl
  case window =>
    refine reads_first_then (m := 64) ⟨nofun, fun _ => nofun⟩ (report_readWindow_count s b) (report_readWindow_entry s b)
      (List.cons_ne_nil _ _) (fun k => instReport_length _ _) (by decide) ?_ rfl
    refine congrArg₂ (· ++ ·) rfl (List.flatMap_congr fun k _ => ?_)
    cases (s.band b).window[k]? with
    | none => rfl
    | some i =>
      unfold instReport
      cases i.kind <;> rfl
  case band =>
    obtain ⟨listens, phase, command, dataLength, counter, latch, reportNo⟩ := h
    refine ⟨_, s.reportedTarget b, exec_dataInFrame_band ⟨listens, phase, command, dataLength, counter, latch, reportNo⟩,
      fun c config crawl => reportedTarget_crawl config crawl, rfl, rfl, rfl, congrArg (0 :: ·) ?_⟩
    generalize s.reportedTarget b = target
    unfold bandBytes
    dsimp only
    rw [byteOf_motionCode]
    have same : ∀ c, configBytes c = stored c := by
      intro c
      unfold configBytes
      rw [List.append_assoc _ [byteOf c.fade]]
      rfl
    cases (s.band b).config with
    | none =>
      cases (s.band b).page.phase <;> rfl
    | some c =>
      rw [Option.map_some, Option.getD_some, same]
      cases (s.band b).page.phase <;> rfl
  case quote =>
    subst h
    unfold quoteBytes
    simp only [lane_number, source_code, sign_code, tick_code]
    rfl
  case record => exact ⟨recordBytes_length c high a b, configOf_recordBytes c high a b bytes words tens key small⟩

end Sys2Proof.Machine

/-! SUPPORT. The quote arithmetic (R25 to R29): what rounded division leaves of its operands, once, and what follows for
normalisation, change and percent. -/

namespace Sys2Proof.Machine

/-! ### Rounded division -/

/-- The quotient is the nearest, and of two that are equally near the one farther from 0 (Conventions). -/
theorem roundDiv_nearest (a : Int) {b : Nat} (pos : 0 < b) :
    2 * |roundDiv a b * b - a| ≤ b ∧ (2 * |roundDiv a b * b - a| = b → |a| < |roundDiv a b * b|) := by
  unfold roundDiv
  have above : 2 * b * ((2 * a.natAbs + b) / (2 * b)) ≤ 2 * a.natAbs + b := Nat.mul_div_le ..
  have below : 2 * a.natAbs + b < 2 * b * ((2 * a.natAbs + b) / (2 * b)) + 2 * b := Nat.lt_mul_div_succ _ (by omega)
  generalize (2 * a.natAbs + b) / (2 * b) = q at above below
  rw [Nat.mul_right_comm, Nat.mul_assoc] at above below
  have product : ((q : Nat) : Int) * b = (q * b : Nat) := by push_cast; ring
  generalize q * b = p at above below product
  simp only [Int.abs_eq_natAbs]
  split
  · rw [Int.neg_mul, product]; omega
  · rw [product]; omega

/-- `z` is `m` rounded to `k` fewer decimals, to the nearest with halves away from zero (R25, R29, R31). -/
def RoundsTo (m : Int) (k : Nat) (z : Int) : Prop :=
  2 * |z * 10 ^ k - m| ≤ 10 ^ k ∧ (2 * |z * 10 ^ k - m| = 10 ^ k → |m| < |z * 10 ^ k|)

theorem roundDiv_roundsTo (m : Int) (k : Nat) : RoundsTo m k (roundDiv m (10 ^ k)) := by
  simpa [RoundsTo] using roundDiv_nearest m (b := 10 ^ k) (by positivity)

/-! ### Normalisation, change and percent -/

theorem rescale_of_le {u s : Nat} (h : u ≤ s) (m : Int) : rescale u s m = m * 10 ^ (s - u) := by
  simp [rescale, h]

theorem rescale_of_lt {u s : Nat} (h : s < u) (m : Int) : rescale u s m = roundDiv m (10 ^ (u - s)) :=
  if_neg (Nat.not_le.mpr h)

theorem changeOf_none_left (r : Option Int) : changeOf none r = none := rfl

theorem changeOf_none_right (l : Option Int) : changeOf l none = none := by cases l <;> rfl

theorem percentOf_none_left (r : Option Int) : percentOf none r = none := rfl

theorem percentOf_none_right (c : Option Int) : percentOf c none = none := by cases c <;> rfl

theorem percentOf_of_nonpos {r : Int} (c : Int) (h : r ≤ 0) : percentOf (some c) (some r) = none := if_neg (by omega)

theorem percentOf_of_pos {r : Int} (c : Int) (h : 0 < r) :
    percentOf (some c) (some r) = some (max (-99999) (min 99999 (roundDiv (c * 10000) r.toNat))) := if_pos h

/-- Settles O8: the cases of the two operands, and the bounds of a difference. -/
theorem changeIsTheDifference : Obligations.ChangeIsTheDifference := by
  unfold Obligations.ChangeIsTheDifference
  refine ⟨fun l r => rfl, changeOf_none_left, changeOf_none_right, fun l r c l0 l1 r0 r1 same => ?_⟩
  have difference : l - r = c := Option.some.inj same
  omega

/-- Settles O9: the clamp is of the rounded quotient. -/
theorem percentIsRoundedThenClamped : Obligations.PercentIsRoundedThenClamped := by
  unfold Obligations.PercentIsRoundedThenClamped
  refine ⟨fun c r pos => ⟨_, roundDiv (c * 10000) r.toNat, percentOf_of_pos c pos, ?_⟩, fun c r => percentOf_of_nonpos c,
    percentOf_none_left, percentOf_none_right⟩
  obtain ⟨near, half⟩ := roundDiv_nearest (c * 10000) (b := r.toNat) (by omega)
  rw [Int.toNat_of_nonneg pos.le] at near half
  exact ⟨near, half, rfl⟩

/-- Settles O10: rescaling up and down, and the two tests of a normalisation. -/
theorem normalisationRounds : Obligations.NormalisationRounds := by
  unfold Obligations.NormalisationRounds
  refine ⟨fun u s m h => rescale_of_le h m, fun u s m h => ?_, fun u s m => ?_⟩
  · rw [rescale_of_lt h]
    exact roundDiv_roundsTo m (u - s)
  · unfold normalise
    by_cases scale : u ≤ 6
    · rw [if_neg (by omega)]
      simp only [inRange_iff, scale, true_and]
    · rw [if_pos (by omega), if_neg (fun h => scale h.1)]

end Sys2Proof.Machine

/-! SUPPORT. What is drawn of a quote (R29, R31 to R39): numbers in decimal, the texts, the arrow and the colour, the ladder of
forms, and the measuring of texts and slots (R41, R80, R81). -/

namespace Sys2Proof.Machine

/-! ### Numbers in decimal -/

/-- Every code is a decimal digit. -/
def AllDigits (t : List Nat) : Prop := ∀ c ∈ t, 0x30 ≤ c ∧ c ≤ 0x39

/-- The number that a run of digits writes. -/
def numberOf (t : List Nat) : Nat := t.foldl (fun a c => 10 * a + (c - 0x30)) 0

/-- R31: `whole` writes `n` in decimal, with no leading zeros and with "0" for 0. -/
structure WritesWhole (whole : List Nat) (n : Nat) : Prop where
  digits : AllDigits whole
  nonempty : whole ≠ []
  lead : whole.head? = some 0x30 → whole = [0x30]
  value : numberOf whole = n

/-- R31, steps 2 and 3: `whole` and `point` write the magnitude `v` at `d` decimals. -/
def Writes (d v : Nat) (whole point : List Nat) : Prop :=
  ∃ part, AllDigits whole ∧ AllDigits part ∧ whole ≠ [] ∧ (whole.head? = some 0x30 → whole = [0x30]) ∧ part.length = d ∧
    10 ^ d * numberOf whole + numberOf part = v ∧ point = if d = 0 then [] else 0x2E :: part

theorem AllDigits.append {s t : List Nat} (hs : AllDigits s) (ht : AllDigits t) : AllDigits (s ++ t) := fun c h =>
  (List.mem_append.mp h).elim (hs c) (ht c)

theorem allDigits_digit (n : Nat) : AllDigits [0x30 + n % 10] := fun c h => by
  rw [List.mem_singleton.mp h]
  omega

@[simp] theorem numberOf_append_digit (t : List Nat) (n : Nat) : numberOf (t ++ [0x30 + n]) = 10 * numberOf t + n := by
  simp [numberOf]

theorem numberOf_cons (c : Nat) (t : List Nat) : numberOf (c :: t) = (c - 0x30) * 10 ^ t.length + numberOf t := by
  induction t using List.reverseRecOn with
  | nil => simp [numberOf]
  | append_singleton t e ih =>
    have last : ∀ u : List Nat, numberOf (u ++ [e]) = 10 * numberOf u + (e - 0x30) := fun u => by simp [numberOf]
    rw [← List.cons_append, last, last, ih, List.length_append, List.length_singleton, pow_succ]
    ring

/-- The digits come out before the accumulated text. -/
theorem digitsFrom_writes {fuel n : Nat} (enough : n < fuel) (acc : List Nat) :
    ∃ whole, WritesWhole whole n ∧ digitsFrom fuel n acc = whole ++ acc := by
  induction fuel generalizing n acc with
  | zero => omega
  | succ fuel ih =>
    unfold digitsFrom
    split
    · next small =>
      refine ⟨[0x30 + n % 10], ⟨allDigits_digit n, List.cons_ne_nil _ _, fun h => ?_, ?_⟩, rfl⟩
      · rw [Option.some.inj h]
      · simp [numberOf, Nat.mod_eq_of_lt small]
    · next large =>
      obtain ⟨whole, writes, same⟩ := ih (n := n / 10) (by omega) ((0x30 + n % 10) :: acc)
      refine ⟨whole ++ [0x30 + n % 10], ⟨writes.digits.append (allDigits_digit n), by simp, fun h => ?_, ?_⟩, ?_⟩
      · rw [List.head?_append_of_ne_nil _ writes.nonempty] at h
        have zero : n / 10 = 0 := by rw [← writes.value, writes.lead h]; rfl
        omega
      · rw [numberOf_append_digit, writes.value]
        omega
      · rw [same, List.append_assoc]
        rfl

theorem decimalText_writes (n : Nat) : WritesWhole (decimalText n) n := by
  obtain ⟨whole, writes, same⟩ := digitsFrom_writes (Nat.lt_succ_self n) []
  rw [decimalText, same, List.append_nil]
  exact writes

theorem paddedText_length (d n : Nat) : (paddedText d n).length = d := by
  induction d with
  | zero => rfl
  | succ d ih => rw [paddedText, List.length_cons, ih]

theorem paddedText_digits (d n : Nat) : AllDigits (paddedText d n) := by
  induction d with
  | zero => exact fun c h => absurd h List.not_mem_nil
  | succ d ih => exact (allDigits_digit _).append ih

theorem numberOf_paddedText (d n : Nat) : numberOf (paddedText d n) = n % 10 ^ d := by
  induction d with
  | zero => simp [paddedText, numberOf, Nat.mod_one]
  | succ d ih =>
    rw [paddedText, numberOf_cons, ih, paddedText_length, Nat.mod_pow_succ, Nat.add_sub_cancel_left, Nat.mul_comm, Nat.add_comm]

/-- The point and the digits after it. -/
def pointText (d v : Nat) : List Nat := if d = 0 then [] else 0x2E :: paddedText d (v % 10 ^ d)

theorem magnitudeText_plain (d v : Nat) : magnitudeText false d v = decimalText (v / 10 ^ d) ++ pointText d v := by
  rcases Nat.eq_zero_or_pos d with zero | pos
  · simp [magnitudeText, pointText, zero]
  · simp [magnitudeText, pointText, pos, pos.ne', codePoint]

theorem magnitudeText_separated (d v : Nat) :
    magnitudeText true d v = separated (decimalText (v / 10 ^ d)) ++ pointText d v := by
  rcases Nat.eq_zero_or_pos d with zero | pos
  · simp [magnitudeText, pointText, zero]
  · simp [magnitudeText, pointText, pos, pos.ne', codePoint]

theorem writes_decimal (d v : Nat) : Writes d v (decimalText (v / 10 ^ d)) (pointText d v) := by
  obtain ⟨digits, nonempty, lead, value⟩ := decimalText_writes (v / 10 ^ d)
  refine ⟨paddedText d (v % 10 ^ d), digits, paddedText_digits d _, nonempty, lead, paddedText_length .., ?_, rfl⟩
  rw [value, numberOf_paddedText, Nat.mod_mod, Nat.div_add_mod]

/-! ### Groups of three -/

theorem separated_length {t : List Nat} (ne : t ≠ []) : (separated t).length = t.length + (t.length - 1) / 3 := by
  induction t with
  | nil => exact absurd rfl ne
  | cons c t ih =>
    rcases eq_or_ne t [] with rfl | more
    · simp [separated]
    · have pos := List.length_pos_iff.mpr more
      unfold separated
      split
      · next group =>
        simp only [List.length_cons, ih more]
        omega
      · next no =>
        have inner : t.length % 3 ≠ 0 := fun h => no ⟨h, more⟩
        simp only [List.length_cons, ih more]
        omega

/-- Without its commas a separated text is the plain one. -/
theorem separated_filter {t : List Nat} (digits : AllDigits t) : (separated t).filter (fun c => c != 0x2C) = t := by
  induction t with
  | nil => rfl
  | cons c t ih =>
    have digit : c ≠ 0x2C := by have := digits c List.mem_cons_self; omega
    have rest := ih fun e h => digits e (List.mem_cons_of_mem c h)
    unfold separated
    split <;> simp [digit, rest, codeComma]

theorem separated_head (t : List Nat) : (separated t).head? = t.head? := by
  cases t with
  | nil => rfl
  | cons c t => unfold separated; split <;> rfl

/-- A code is a comma exactly when the codes from it to the end come in fours. -/
theorem separated_comma {t : List Nat} (digits : AllDigits t) {k : Nat} (lt : k < (separated t).length) :
    (separated t)[k]? = some 0x2C ↔ ((separated t).length - k) % 4 = 0 := by
  induction t generalizing k with
  | nil => exact absurd lt (Nat.not_lt_zero k)
  | cons c t ih =>
    have digit : c ≠ 0x2C := by have := digits c List.mem_cons_self; omega
    have rest : ∀ {k}, k < (separated t).length → _ := ih fun e h => digits e (List.mem_cons_of_mem c h)
    have length : t ≠ [] → (separated t).length = t.length + (t.length - 1) / 3 := separated_length
    unfold separated at lt ⊢
    split at lt <;> rename_i group
    · have pos := List.length_pos_iff.mpr group.2
      have length := length group.2
      rw [if_pos group]
      match k with
      | 0 => simp [digit]; omega
      | 1 => simp [codeComma]; omega
      | k + 2 =>
        have := rest (k := k) (by simpa using lt)
        simpa using this
    · rw [if_neg group]
      match k with
      | 0 =>
        rcases eq_or_ne t [] with rfl | more
        · simp [digit, separated]
        · have := length more
          have pos := List.length_pos_iff.mpr more
          have : t.length % 3 ≠ 0 := fun h => group ⟨h, more⟩
          simp [digit]; omega
      | k + 1 =>
        have := rest (k := k) (by simpa using lt)
        simpa using this

/-! ### Texts, arrow and colour -/

theorem shownChange_some (scale d : Nat) (c : Int) : shownChange scale d (some c) = some (roundDiv c (10 ^ (scale - d))) := rfl

theorem shownChange_none (scale d : Nat) : shownChange scale d none = none := rfl

theorem signOf_none : signOf none = .zero := rfl

theorem signOf_some (z : Int) : signOf (some z) = if 0 < z then .plus else if z < 0 then .minus else .zero := rfl

theorem priceText_absent {q : Quote} (h : q.dispLast = none) (sep : Bool) : priceText sep q = [0x2D, 0x2D] := by
  rw [priceText, h]
  rfl

theorem priceText_present {q : Quote} {l : Int} (h : q.dispLast = some l) (sep : Bool) :
    priceText sep q = (if roundDiv l (10 ^ (q.scale - q.decimals)) < 0 then [0x2D] else []) ++
      magnitudeText sep q.decimals (roundDiv l (10 ^ (q.scale - q.decimals))).natAbs := by
  rw [priceText, h]
  rfl

theorem absText_absent {q : Quote} (h : q.change = none) : absText q = [0x2D, 0x2D] := by
  rw [absText, h]
  rfl

theorem absText_present {q : Quote} {c : Int} (h : q.change = some c) :
    absText q = signText (roundDiv c (10 ^ (q.scale - q.decimals))) ++
      magnitudeText false q.decimals (roundDiv c (10 ^ (q.scale - q.decimals))).natAbs := by
  rw [absText, h]
  rfl

theorem pctText_absent {q : Quote} (h : q.percent = none) : pctText q = [0x2D, 0x2D] := by
  rw [pctText, h]
  rfl

theorem pctText_present {q : Quote} {p : Int} (h : q.percent = some p) :
    pctText q = signText p ++ magnitudeText false 2 p.natAbs ++ [0x25] := by
  rw [pctText, h]
  rfl

theorem changeText_abs (q : Quote) : changeText .abs q = absText q := rfl

theorem changeText_pct (q : Quote) : changeText .pct q = pctText q := rfl

theorem changeText_both (q : Quote) : changeText .both q = absText q ++ 0x20 :: pctText q := List.append_assoc ..

/-- R34: what the arrow shows of the net change. -/
def netArrow (c : BandConfig) : Sign → Nat
  | .plus => c.arrowUp
  | .minus => c.arrowDown
  | .zero => c.arrowSame

/-- R39: the palette entry of the net change. -/
def netColour : Sign → Fin 10
  | .plus => 2
  | .minus => 3
  | .zero => 4

section

variable {q : Quote} {c : BandConfig}

theorem arrowCode_halted (halted : q.dispHalted = true) : arrowCode c q = c.arrowHalt := by
  simp [arrowCode, halted]

theorem arrowCode_up (moving : q.dispHalted = false) (flash : 0 < q.flash) (tick : q.tick = .up) :
    arrowCode c q = c.arrowUp := by
  simp [arrowCode, moving, flash, tick]

theorem arrowCode_down (moving : q.dispHalted = false) (flash : 0 < q.flash) (tick : q.tick = .down) :
    arrowCode c q = c.arrowDown := by
  simp [arrowCode, moving, flash, tick]

theorem arrowCode_still (moving : q.dispHalted = false) (flash : q.flash = 0) : arrowCode c q = netArrow c q.netSign := by
  rw [arrowCode, moving, flash]
  cases q.netSign <;> rfl

theorem quoteColour_overridden (replaced : q.dispSource = .overridden) : quoteColour q = 9 := by
  simp [quoteColour, replaced]

theorem quoteColour_halted (own : q.dispSource ≠ .overridden) (halted : q.dispHalted = true) : quoteColour q = 8 := by
  simp [quoteColour, own, halted]

variable (own : q.dispSource ≠ .overridden) (moving : q.dispHalted = false)

include own moving

theorem quoteColour_stale (stale : q.stale = true) : quoteColour q = 7 := by
  simp [quoteColour, own, moving, stale]

theorem quoteColour_up (fresh : q.stale = false) (flash : 0 < q.flash) (tick : q.tick = .up) : quoteColour q = 5 := by
  simp [quoteColour, own, moving, fresh, flash, tick]

theorem quoteColour_down (fresh : q.stale = false) (flash : 0 < q.flash) (tick : q.tick = .down) : quoteColour q = 6 := by
  simp [quoteColour, own, moving, fresh, flash, tick]

theorem quoteColour_still (fresh : q.stale = false) (flash : q.flash = 0) : quoteColour q = netColour q.netSign := by
  rw [quoteColour, if_neg own, moving, fresh, flash]
  cases q.netSign <;> rfl

end

/-! ### Glyphs and widths -/

/-- The face has this glyph for the code, and it is present (R74, R80). -/
def Face.has (f : Face) (code : Nat) (g : Glyph) : Prop :=
  ∃ n : Fin 1024, n.val = code ∧ tget f.glyphs n = g ∧ g.present = true

theorem presentGlyph_of_has {f : Face} {code : Nat} {g : Glyph} (h : f.has code g) : presentGlyph f code = some g := by
  obtain ⟨n, rfl, rfl, present⟩ := h
  simp [presentGlyph, present]

theorem presentGlyph_of_missing {f : Face} {code : Nat} (h : ¬ ∃ g, f.has code g) : presentGlyph f code = none := by
  unfold presentGlyph
  split
  · next lt => exact if_neg fun present => h ⟨_, ⟨code, lt⟩, rfl, rfl, present⟩
  · rfl

theorem glyphOf_of_has {f : Face} {code : Nat} {g : Glyph} (h : f.has code g) : glyphOf f code = some g := by
  rw [glyphOf, presentGlyph_of_has h]

theorem glyphOf_of_missing {f : Face} {code : Nat} (h : ¬ ∃ g, f.has code g) :
    glyphOf f code = presentGlyph f f.substitute := by
  rw [glyphOf, presentGlyph_of_missing h]

theorem effectiveAdvance_of_glyph {f : Face} {code : Nat} {g : Glyph} (h : glyphOf f code = some g) :
    effectiveAdvance f code = g.advance := by
  rw [effectiveAdvance, h]
  rfl

theorem effectiveAdvance_of_none {f : Face} {code : Nat} (h : glyphOf f code = none) : effectiveAdvance f code = 0 := by
  rw [effectiveAdvance, h]
  rfl

/-- A run sets the glyph of its first code at the pen, and the rest from the pen after it. -/
theorem setRun_cons (f : Face) (pen : Int) (x : Nat × Fin 10) (run : List (Nat × Fin 10)) :
    setRun f pen (x :: run) = (glyphOf f x.1).toList.map (fun g => ⟨pen, g, x.2⟩) ++
      setRun f (pen + (effectiveAdvance f x.1 : Int)) run := by
  rw [setRun]
  cases glyphOf f x.1 <;> rfl

/-- R37, R82: each code of a run stands at the pen after the width of the codes before it. -/
theorem setRun_eq (f : Face) (pen : Int) (run : List (Nat × Fin 10)) : setRun f pen run =
    (List.range run.length).flatMap (fun k => ((run.drop k).take 1).flatMap (fun x =>
      (glyphOf f x.1).toList.map (fun g => ⟨pen + (textWidth f ((run.take k).map Prod.fst) : Int), g, x.2⟩))) := by
  induction run generalizing pen with
  | nil => rfl
  | cons x run ih =>
    rw [setRun_cons, ih, List.length_cons, List.range_succ_eq_map, List.flatMap_cons, List.flatMap_map]
    simp [textWidth, add_assoc]

/-! ### The form that is drawn -/

/-- The tails of the forms F0 to F3, the fullest first (R35). -/
def formTails (c : BandConfig) (q : Quote) : List (List Nat) :=
  [priceText true q ++ [0x20, arrowCode c q, 0x20] ++ changeText c.changeStyle q,
    priceText false q ++ [0x20, arrowCode c q, 0x20] ++ changeText c.changeStyle q,
    priceText false q ++ [0x20, arrowCode c q], [arrowCode c q]]

/-- The symbol, a space and the tail fit the slot. -/
def TailFits (f : Face) (slot : Nat) (q : Quote) (tail : List Nat) : Prop :=
  textWidth f (symbolText q ++ 0x20 :: tail) ≤ slot

/-- R37: the form with this tail is what is drawn, in two parts where it fits and as one run where it does not. -/
def DrawsTail (c : BandConfig) (f : Face) (slot : Nat) (q : Quote) (tail : List Nat) : Prop :=
  (TailFits f slot q tail → quoteGlyphs c f slot q = setRun f 0 ((symbolText q).map fun code => (code, 1)) ++
    setRun f ((slot : Int) - (textWidth f tail : Int)) (tail.map fun code => (code, quoteColour q))) ∧
  (¬ TailFits f slot q tail → quoteGlyphs c f slot q =
    setRun f 0 (((symbolText q).map fun code => (code, 1)) ++ (0x20 :: tail).map fun code => (code, quoteColour q)))

theorem Form.text_eq (head tail : List Nat) : (Form.mk head tail).text = head ++ 0x20 :: tail := List.append_assoc ..

theorem drawsTail_of_drawnForm {c : BandConfig} {f : Face} {slot : Nat} {q : Quote} {tail : List Nat}
    (h : drawnForm (textWidth f) slot c q = ⟨symbolText q, tail⟩) : DrawsTail c f slot q tail := by
  unfold DrawsTail TailFits quoteGlyphs
  rw [h]
  dsimp only
  rw [Form.text_eq]
  exact ⟨fun fits => if_pos fits, fun wide => if_neg wide⟩

theorem drawnForm_overridden {width : List Nat → Nat} {slot : Nat} {c : BandConfig} {q : Quote}
    (replaced : q.dispSource = .overridden) :
    drawnForm width slot c q = ⟨symbolText q, (q.dispText.getD []).map fun b => b.toNat⟩ := if_pos replaced

/-- R36: the first form that fits is drawn, and the last one when none does. -/
theorem drawnForm_ladder {f : Face} {slot : Nat} {c : BandConfig} {q : Quote} (own : q.dispSource ≠ .overridden)
    {before after : List (List Nat)} {tail : List Nat} (place : formTails c q = before ++ tail :: after)
    (wide : ∀ t ∈ before, ¬ TailFits f slot q t) (last : TailFits f slot q tail ∨ after = []) :
    drawnForm (textWidth f) slot c q = ⟨symbolText q, tail⟩ := by
  unfold drawnForm formF0 formF1 formF2 formF3
  simp only [Form.text_eq, codeSpace, if_neg own]
  unfold formTails at place
  unfold TailFits at wide last
  match before with
  | [] =>
    obtain ⟨rfl, rfl⟩ := List.cons.inj place
    rw [if_pos (last.resolve_right (List.cons_ne_nil _ _))]
  | [_] =>
    simp only [List.cons_append, List.nil_append, List.cons.injEq] at place
    obtain ⟨rfl, rfl, rfl⟩ := place
    rw [if_neg (wide _ (by simp)), if_pos (last.resolve_right (List.cons_ne_nil _ _))]
  | [_, _] =>
    simp only [List.cons_append, List.nil_append, List.cons.injEq] at place
    obtain ⟨rfl, rfl, rfl, rfl⟩ := place
    rw [if_neg (wide _ (by simp)), if_neg (wide _ (by simp)), if_pos (last.resolve_right (List.cons_ne_nil _ _))]
  | [_, _, _] =>
    simp only [List.cons_append, List.nil_append, List.cons.injEq] at place
    obtain ⟨rfl, rfl, rfl, rfl, -⟩ := place
    rw [if_neg (wide _ (by simp)), if_neg (wide _ (by simp)), if_neg (wide _ (by simp))]
  | _ :: _ :: _ :: _ :: _ => simp at place

/-! ### Slots -/

/-- R41: the least multiple of the quantum that holds a width. -/
theorem ceilTo_least {quantum : Nat} (pos : 0 < quantum) (w : Nat) :
    quantum ∣ ceilTo quantum w ∧ w ≤ ceilTo quantum w ∧ ceilTo quantum w < w + quantum := by
  unfold ceilTo
  have above := Nat.div_mul_le_self (w + quantum - 1) quantum
  have below := Nat.lt_div_mul_add (a := w + quantum - 1) pos
  exact ⟨Dvd.intro_left _ rfl, by omega, by omega⟩

theorem sizingForm_text (c : BandConfig) (q : Quote) : (sizingForm c q).text = symbolText q ++ 0x20 ::
    (if q.dispSource = .overridden then (q.dispText.getD []).map (fun b => b.toNat) else
      priceText true q ++ [0x20, arrowCode c q, 0x20] ++ changeText c.changeStyle q) := by
  unfold sizingForm
  split <;> exact Form.text_eq ..

theorem slotOf_quote (s : State) (c : BandConfig) (i : Fin 1024) (g : Nat) :
    s.slotOf c (.quote ⟨i.val, g⟩) = ceilTo c.quantum (textWidth (s.face c.face) (sizingForm c (s.quote i)).text) := by
  simp only [State.slotOf, State.quoteAt_fin]

/-! ### What is drawn of a quote -/

/-- R31: the two variants of a present price share their rounded value, and the separated one groups the plain one's digits. -/
theorem priceText_writes {q : Quote} {l : Int} (h : q.dispLast = some l) : ∃ p whole point grouped,
    RoundsTo l (q.scale - q.decimals) p ∧ Writes q.decimals p.natAbs whole point ∧
    priceText false q = (if p < 0 then [0x2D] else []) ++ whole ++ point ∧
    priceText true q = (if p < 0 then [0x2D] else []) ++ grouped ++ point ∧
    grouped.filter (fun c => c != 0x2C) = whole ∧ grouped.head? ≠ some 0x2C ∧
    ∀ k, k < grouped.length → (grouped[k]? = some 0x2C ↔ (grouped.length - k) % 4 = 0) := by
  rw [priceText_present h, priceText_present h, magnitudeText_plain, magnitudeText_separated]
  have rounds := roundDiv_roundsTo l (q.scale - q.decimals)
  generalize roundDiv l (10 ^ (q.scale - q.decimals)) = p at rounds
  have digits := (decimalText_writes (p.natAbs / 10 ^ q.decimals)).digits
  refine ⟨p, _, _, _, rounds, writes_decimal .., (List.append_assoc ..).symm, (List.append_assoc ..).symm,
    separated_filter digits, fun comma => ?_, fun k => separated_comma digits⟩
  rw [separated_head] at comma
  have := digits _ (List.mem_of_head? comma)
  omega

/-- R32: a present change text. -/
theorem absText_writes {q : Quote} {c : Int} (h : q.change = some c) : ∃ z whole point,
    RoundsTo c (q.scale - q.decimals) z ∧ Writes q.decimals z.natAbs whole point ∧
    absText q = signText z ++ whole ++ point := by
  refine ⟨_, _, _, roundDiv_roundsTo c _, writes_decimal .., ?_⟩
  rw [absText_present h, magnitudeText_plain, ← List.append_assoc]

/-- R33: a present percent text. -/
theorem pctText_writes {q : Quote} {p : Int} (h : q.percent = some p) : ∃ whole point,
    Writes 2 p.natAbs whole point ∧ pctText q = signText p ++ whole ++ point ++ [0x25] := by
  refine ⟨_, _, writes_decimal .., ?_⟩
  rw [pctText_present h, magnitudeText_plain, ← List.append_assoc]

/-- Settles O16: the roundings and signs, the texts, the arrow and the colour of a quote, the placement of a run and of a
form, the glyph of a code, and the slots. -/
theorem quoteTexts : Obligations.QuoteTexts := by
  unfold Obligations.QuoteTexts
  refine ⟨fun scale d c => ⟨_, shownChange_some scale d c, roundDiv_roundsTo c _⟩, shownChange_none, signOf_some, signOf_none,
    fun q => ?quote, setRun_eq, fun c f slot q => ?form, fun f => ?glyph, fun s c => ?slot⟩
  case quote =>
    refine ⟨priceText_absent, fun l => priceText_writes, absText_absent, fun c => absText_writes, pctText_absent,
      fun p => pctText_writes, changeText_abs q, changeText_pct q, changeText_both q, fun c => ?arrow, quoteColour_overridden,
      quoteColour_halted, fun own moving => ?colour⟩
    case arrow =>
      refine ⟨arrowCode_halted, arrowCode_up, arrowCode_down, fun moving flash => ?_⟩
      rw [arrowCode_still moving flash]
      refine ⟨fun net => ?_, fun net => ?_, fun net => ?_⟩ <;> rw [net] <;> rfl
    case colour =>
      refine ⟨quoteColour_stale own moving, fun fresh flash => ⟨quoteColour_up own moving fresh flash,
        quoteColour_down own moving fresh flash⟩, fun fresh flash => ?_⟩
      rw [quoteColour_still own moving fresh flash]
      refine ⟨fun net => ?_, fun net => ?_, fun net => ?_⟩ <;> rw [net] <;> rfl
  case form =>
    exact ⟨fun replaced => drawsTail_of_drawnForm (drawnForm_overridden replaced),
      fun own before tail after place wide last => drawsTail_of_drawnForm (drawnForm_ladder own place wide last)⟩
  case glyph =>
    refine ⟨fun code g has => ?_, fun code missing => ⟨fun g has => ?_, fun bare => ?_⟩, fun codes => rfl⟩
    · have drawn := glyphOf_of_has has
      exact ⟨drawn, effectiveAdvance_of_glyph drawn⟩
    · have drawn := (glyphOf_of_missing missing).trans (presentGlyph_of_has has)
      exact ⟨drawn, effectiveAdvance_of_glyph drawn⟩
    · have drawn := (glyphOf_of_missing missing).trans (presentGlyph_of_missing bare)
      exact ⟨drawn, effectiveAdvance_of_none drawn⟩
  case slot =>
    refine ⟨fun i g pos => ?_, fun i g => rfl, fun code => rfl, fun w => rfl⟩
    dsimp only
    rw [slotOf_quote, sizingForm_text]
    exact ceilTo_least pos _

end Sys2Proof.Machine

/-! SUPPORT. The pixel port (R155 to R158): what is sent at one place of the raster, the coverage of a window and
of the images that meet, and the images of each kind of `Inst`. -/

namespace Sys2Proof.Machine

/-! ### The raster and the bands -/

/-- The band is in a drawing state with this configuration, and the raster line is one of its own (R102). -/
def State.draws (s : State) (y : Nat) (b : Fin 4) (c : BandConfig) : Prop :=
  (s.band b).prog.drawing = true ∧ (s.band b).config = some c ∧ c.yOrigin ≤ y ∧ y < c.yOrigin + c.height

theorem bandHasLine_iff {s : State} {y : Nat} {b : Fin 4} : s.bandHasLine y b = true ↔ ∃ c, s.draws y b c := by
  simp [State.bandHasLine, State.draws, Option.any_eq_true]

/-- The first index that passes a test is the one found. -/
theorem find?_finRange_first {n : Nat} {p : Fin n → Bool} {b : Fin n} (passes : p b = true)
    (first : ∀ k, k < b → ¬ p k = true) : (List.finRange n).find? p = some b := by
  refine List.find?_eq_some_iff_getElem.mpr ⟨passes, b.val, by simp, by simp, fun j lt => ?_⟩
  rw [List.getElem_finRange]
  simpa using first ⟨j, lt.trans b.isLt⟩ lt

section

variable {s : State} {x y : Nat}

theorem pixel_none (h : s.run = .held ∨ s.width ≤ x ∨ s.lines ≤ y) : s.pixel x y = none := if_pos h

variable (column : x < s.width) (line : y < s.lines)

include column line

theorem pixel_initialising (run : s.run = .initialising) : s.pixel x y = some ⟨⟨0, 0, 0⟩, 0⟩ := by
  unfold State.pixel
  rw [run, if_neg (by simp; omega), if_pos rfl]
  rfl

theorem pixel_of_no_band (run : s.run = .running) (none : ∀ b c, ¬ s.draws y b c) :
    s.pixel x y = some ⟨⟨0, 0, 0⟩, 0⟩ := by
  have unfound : (List.finRange 4).find? (s.bandHasLine y) = .none :=
    List.find?_eq_none.mpr fun b _ has => (bandHasLine_iff.mp has).elim (none b)
  simp only [State.pixel, run, unfound, Nat.not_le.mpr column, Nat.not_le.mpr line, reduceCtorEq, or_false, if_false,
    Pixel.clear]

theorem pixel_of_band (run : s.run = .running) {b : Fin 4} {c : BandConfig} (draws : s.draws y b c)
    (first : ∀ b' c', b' < b → ¬ s.draws y b' c') : s.pixel x y = some (bandPixel c (s.vis b)
      (s.windowCoverage c (s.band b).window (x : Int) ((y : Int) - (c.yOrigin : Int)))) := by
  have found : (List.finRange 4).find? (s.bandHasLine y) = some b :=
    find?_finRange_first (bandHasLine_iff.mpr ⟨c, draws⟩) fun b' lt has =>
      (bandHasLine_iff.mp has).elim fun c' => first b' c' lt
  obtain ⟨-, config, -, -⟩ := draws
  simp only [State.pixel, run, found, config, Nat.not_le.mpr column, Nat.not_le.mpr line, reduceCtorEq, or_false, if_false]

end

/-! ### Blend and key -/

theorem blend_zero (front back : Nat) : blend front back 0 = back := by
  unfold blend
  omega

theorem scaledKey_step_zero (fade key : Nat) : scaledKey fade 0 key = 0 := by simp [scaledKey]

/-- R158: without coverage the background stands. -/
theorem bandPixel_uncovered (c : BandConfig) (v : Visibility) (entry : Fin 10) :
    bandPixel c v (0, entry) = ⟨tget c.palette 0, scaledKey c.fade v.step c.backKey⟩ := by
  simp only [bandPixel, blend_zero]

theorem bandPixel_step_zero (c : BandConfig) {v : Visibility} (cover : Nat × Fin 10) (h : v.step = 0) :
    (bandPixel c v cover).key = 0 := by
  rw [bandPixel, h]
  exact scaledKey_step_zero ..

/-! ### Coverage of a window -/

/-- The raster column lies in the slot (R156). -/
def Inst.stands (i : Inst) (x : Int) : Prop := i.x / 256 ≤ x ∧ x < i.x / 256 + (i.slot : Int)

theorem coverage_outside {s : State} {c : BandConfig} {i : Inst} {j l : Int} (h : j < 0 ∨ (i.slot : Int) ≤ j) :
    s.coverage c i j l = (0, 0) := if_neg (by omega)

theorem drawnCoverage_unshifted {s : State} {c : BandConfig} {i : Inst} {j l : Int} (h : i.phase c.smooth = 0) :
    s.drawnCoverage c i j l = s.coverage c i j l := if_pos h

theorem drawnCoverage_outside {s : State} {c : BandConfig} {i : Inst} {j l : Int} (h : j < 0 ∨ (i.slot : Int) ≤ j) :
    s.drawnCoverage c i j l = (0, 0) := by
  by_cases still : i.phase c.smooth = 0
  · rw [drawnCoverage_unshifted still, coverage_outside h]
  · exact (if_neg still).trans (if_neg (by omega))

/-- R157: at a sub-pixel phase above 0 a column is mixed with the one before it. -/
theorem drawnCoverage_shifted {s : State} {c : BandConfig} {i : Inst} {j l : Int} (moved : i.phase c.smooth ≠ 0) (low : 0 ≤ j)
    (high : j < i.slot) : s.drawnCoverage c i j l =
      (((s.coverage c i j l).1 * (16 - i.phase c.smooth) + (s.coverage c i (j - 1) l).1 * i.phase c.smooth + 8) / 16,
        if (s.coverage c i (j - 1) l).1 * i.phase c.smooth ≤ (s.coverage c i j l).1 * (16 - i.phase c.smooth) then
          (s.coverage c i j l).2 else (s.coverage c i (j - 1) l).2) :=
  (if_neg moved).trans (if_pos ⟨low, high⟩)

theorem phase_eq (smooth : Bool) (i : Inst) : i.phase smooth = if smooth then ((i.x % 256) / 16).toNat else 0 := by
  rw [Inst.phase, Inst.origin, Int.emod_def, Int.mul_comm]

theorem drawnCoverage_apart {s : State} {c : BandConfig} {i : Inst} {x l : Int} (h : ¬ i.stands x) :
    s.drawnCoverage c i (x - i.origin) l = (0, 0) :=
  drawnCoverage_outside (by unfold Inst.stands at h; unfold Inst.origin; omega)

/-- Where at most one value is covered, and `a` is that one or nothing, the fold gives `a`. -/
theorem foldl_covered {a : Nat × Fin 10} {l : List (Nat × Fin 10)} (only : ∀ b ∈ l, b.1 ≠ 0 → b = a) :
    l.foldl (fun a b => if b.1 = 0 then a else b) a = a := by
  induction l with
  | nil => rfl
  | cons b l ih =>
    have step : (if b.1 = 0 then a else b) = a := by
      split
      · rfl
      · next covered => exact only b List.mem_cons_self covered
    rw [List.foldl_cons, step]
    exact ih fun b' h => only b' (List.mem_cons_of_mem _ h)

theorem foldl_covered_mem {own : Nat × Fin 10} {l : List (Nat × Fin 10)} (member : own ∈ l) (covers : own.1 ≠ 0)
    (only : ∀ b ∈ l, b.1 ≠ 0 → b = own) (a : Nat × Fin 10) : l.foldl (fun a b => if b.1 = 0 then a else b) a = own := by
  induction l generalizing a with
  | nil => exact absurd member List.not_mem_nil
  | cons b l ih =>
    have rest : ∀ b' ∈ l, b'.1 ≠ 0 → b' = own := fun b' h => only b' (List.mem_cons_of_mem _ h)
    rw [List.foldl_cons]
    rcases List.mem_cons.mp member with rfl | later
    · rw [if_neg covers]
      exact foldl_covered rest
    · exact ih later rest _

theorem windowCoverage_apart {s : State} {c : BandConfig} {w : List Inst} {x l : Int} (none : ∀ i ∈ w, ¬ i.stands x) :
    s.windowCoverage c w x l = (0, 0) :=
  foldl_covered fun b h => by
    obtain ⟨i, member, rfl⟩ := List.mem_map.mp h
    exact fun covers => absurd (congrArg Prod.fst (drawnCoverage_apart (none i member))) covers

/-- R156: where the slot of no other stands, the coverage of the window is this one's. -/
theorem windowCoverage_alone {s : State} {c : BandConfig} {w : List Inst} {x l : Int} {i : Inst} (member : i ∈ w)
    (alone : ∀ k ∈ w, k ≠ i → ¬ k.stands x) :
    (s.windowCoverage c w x l).1 = (s.drawnCoverage c i (x - i.origin) l).1 ∧
      ((s.drawnCoverage c i (x - i.origin) l).1 ≠ 0 → s.windowCoverage c w x l = s.drawnCoverage c i (x - i.origin) l) := by
  have only : ∀ b ∈ w.map (fun k => s.drawnCoverage c k (x - k.origin) l), b.1 ≠ 0 →
      b = s.drawnCoverage c i (x - i.origin) l := fun b h covers => by
    obtain ⟨k, inside, rfl⟩ := List.mem_map.mp h
    by_contra other
    have differs : k ≠ i := fun same => other (same ▸ rfl)
    exact covers (congrArg Prod.fst (drawnCoverage_apart (alone k inside differs)))
  by_cases covers : (s.drawnCoverage c i (x - i.origin) l).1 = 0
  · have none : s.windowCoverage c w x l = (0, 0) :=
      foldl_covered fun b h some => absurd (only b h some ▸ covers) some
    exact ⟨by rw [none, covers], fun some => absurd covers some⟩
  · have own : s.windowCoverage c w x l = s.drawnCoverage c i (x - i.origin) l :=
      foldl_covered_mem (List.mem_map.mpr ⟨i, member, rfl⟩) covers only _
    exact ⟨congrArg Prod.fst own, fun _ => own⟩

/-! ### Images that meet -/

/-- R157: the coverage so far with one more image laid over it. -/
def overlay (image : Placed → Option Nat) (acc : Nat × Fin 10) (p : Placed) : Nat × Fin 10 :=
  match image p with
  | some v => largerCoverage acc (v, p.entry)
  | none => acc

section

variable {image : Placed → Option Nat} {acc : Nat × Fin 10} {p : Placed} {v : Nat}

theorem overlay_none (h : image p = none) : overlay image acc p = acc := by rw [overlay, h]

theorem overlay_larger (h : image p = some v) (le : acc.1 ≤ v) : overlay image acc p = (v, p.entry) := by
  rw [overlay, h]
  exact if_pos le

theorem overlay_smaller (h : image p = some v) (lt : v < acc.1) : overlay image acc p = acc := by
  rw [overlay, h]
  exact if_neg (Nat.not_le.mpr lt)

theorem overlay_le (start : acc.1 ≤ v) (le : ∀ w, image p = some w → w ≤ v) : (overlay image acc p).1 ≤ v := by
  cases h : image p with
  | none => rwa [overlay_none h]
  | some w =>
    rcases Nat.lt_or_ge w acc.1 with lt | ge
    · rwa [overlay_smaller h lt]
    · rw [overlay_larger h ge]
      exact le w h

theorem foldl_overlay_le {l : List Placed} (start : acc.1 ≤ v) (le : ∀ q ∈ l, ∀ w, image q = some w → w ≤ v) :
    (l.foldl (overlay image) acc).1 ≤ v := by
  induction l generalizing acc with
  | nil => exact start
  | cons q l ih =>
    exact ih (overlay_le start (le q List.mem_cons_self)) fun q' h => le q' (List.mem_cons_of_mem _ h)

/-- Images of a smaller coverage leave it as it is. -/
theorem foldl_overlay_smaller {l : List Placed} (lt : ∀ q ∈ l, ∀ w, image q = some w → w < acc.1) :
    l.foldl (overlay image) acc = acc := by
  induction l with
  | nil => rfl
  | cons q l ih =>
    have step : overlay image acc q = acc := by
      cases h : image q with
      | none => exact overlay_none h
      | some w => exact overlay_smaller h (lt q List.mem_cons_self w h)
    rw [List.foldl_cons, step]
    exact ih fun q' h => lt q' (List.mem_cons_of_mem _ h)

/-- The largest coverage stands, of equal ones the later. -/
theorem foldl_overlay_largest {before after : List Placed} (start : acc.1 ≤ v) (h : image p = some v)
    (earlier : ∀ q ∈ before, ∀ w, image q = some w → w ≤ v) (later : ∀ q ∈ after, ∀ w, image q = some w → w < v) :
    (before ++ p :: after).foldl (overlay image) acc = (v, p.entry) := by
  rw [List.foldl_append, List.foldl_cons, overlay_larger h (foldl_overlay_le start earlier)]
  exact foldl_overlay_smaller later

end

section

variable {s : State} {c : BandConfig} {i : Inst} {j l : Int}

theorem coverage_inside (low : 0 ≤ j) (high : j < i.slot) : s.coverage c i j l =
    (s.instGlyphs c i).foldl (overlay fun p => s.imageAt c i.voffset p j l) (0, 0) := if_pos ⟨low, high⟩

theorem coverage_no_image (h : ∀ p ∈ s.instGlyphs c i, s.imageAt c i.voffset p j l = none) :
    s.coverage c i j l = (0, 0) := by
  by_cases inside : 0 ≤ j ∧ j < i.slot
  · rw [coverage_inside inside.1 inside.2]
    exact foldl_overlay_smaller fun q member w some => absurd (some.symm.trans (h q member)) nofun
  · exact if_neg inside

/-! ### The images of each kind -/

theorem instGlyphs_quote {n : Fin 1024} {gen : Nat} (kind : i.kind = .quote ⟨n.val, gen⟩) :
    s.instGlyphs c i = quoteGlyphs c (s.face c.face) i.slot (s.quote n) := by
  simp only [State.instGlyphs, kind, State.quoteAt_fin]

theorem storyColour_eq {entry : Fin 10} (h : (i.colour = none ∧ entry = 1) ∨ i.colour = some entry.val) :
    storyColour i = entry := by
  unfold storyColour
  rcases h with ⟨absent, rfl⟩ | present
  · rw [absent]
  · rw [present]
    exact dif_pos entry.isLt

theorem instGlyphs_story {n : Fin 256} {gen : Nat} (kind : i.kind = .story ⟨n.val, gen⟩) : s.instGlyphs c i =
    setRun (s.face c.face) 0 ((s.storyText n.val).map fun code => (code, storyColour i)) := by
  simp only [State.instGlyphs, kind, coloured]

theorem instGlyphs_glyph {code : Nat} (kind : i.kind = .glyph code) :
    s.instGlyphs c i = setRun (s.face c.face) 0 [(code, 1)] := by
  simp only [State.instGlyphs, kind, coloured, List.map_cons, List.map_nil]

theorem instGlyphs_spacer (kind : i.kind = .spacer) : s.instGlyphs c i = [] := by
  simp only [State.instGlyphs, kind]

/-- R80: a GLYPH has the image of the glyph that draws its code, when there is one. -/
theorem instGlyphs_glyph_eq {code : Nat} (kind : i.kind = .glyph code) :
    s.instGlyphs c i = (glyphOf (s.face c.face) code).toList.map fun g => ⟨0, g, 1⟩ := by
  rw [instGlyphs_glyph kind, setRun_cons]
  exact List.append_nil _

/-- R156: the image of a glyph whose pen stands at the left edge of the slot. -/
theorem imageAt_pen_zero (voffset : Int) (g : Glyph) (entry : Fin 10) : s.imageAt c voffset ⟨0, g, entry⟩ j l =
    let home := l - voffset
    let col := j - g.bearingX
    let row := home - ((c.baseline : Int) - g.bearingY)
    if 0 ≤ col ∧ col < g.width ∧ 0 ≤ row ∧ row < g.height ∧ 0 ≤ home ∧ home < c.height ∧ 0 ≤ l ∧ l < c.height then
      some (Memory.read s.gs.mem (g.offset + row.toNat * g.width + col.toNat)).toNat
    else none := by
  simp only [State.imageAt, zero_add]

theorem coverage_glyph_none {code : Nat} (kind : i.kind = .glyph code) (none : glyphOf (s.face c.face) code = none) :
    s.coverage c i j l = (0, 0) :=
  coverage_no_image (by simp [instGlyphs_glyph_eq kind, none])

variable {code : Nat} {g : Glyph} (kind : i.kind = .glyph code) (drawn : glyphOf (s.face c.face) code = some g)

include kind drawn

theorem coverage_glyph_some {v : Nat} (low : 0 ≤ j) (high : j < i.slot)
    (image : s.imageAt c i.voffset ⟨0, g, 1⟩ j l = some v) : s.coverage c i j l = (v, 1) := by
  rw [coverage_inside low high, instGlyphs_glyph_eq kind, drawn]
  exact foldl_overlay_largest (before := []) (after := []) (Nat.zero_le v) image nofun nofun

theorem coverage_glyph_outside (image : s.imageAt c i.voffset ⟨0, g, 1⟩ j l = none) : s.coverage c i j l = (0, 0) :=
  coverage_no_image (by simp [instGlyphs_glyph_eq kind, drawn, image])

end

/-- Settles O50: the raster and its bands, the window, the smoothing, the images of each kind, and where they meet. -/
theorem pixels : Obligations.Pixels := by
  unfold Obligations.Pixels
  refine ⟨fun s x y => pixel_none, fun s x y => pixel_initialising, fun s x y column line run => ?band,
    fun s c w x l => ?window, fun s c i j l => ?shift, fun s c i => ?kinds, fun s c i j l low high => ?meet,
    fun s c i code j l kind => ?glyph⟩
  case band =>
    refine ⟨pixel_of_no_band column line run, fun b c draws first => ?_⟩
    have sent := pixel_of_band column line run draws first
    refine ⟨sent, fun uncovered => ?_, fun hidden => ⟨_, sent, bandPixel_step_zero c _ hidden⟩⟩
    rw [sent, ← Prod.mk.eta (p := s.windowCoverage ..), uncovered, bandPixel_uncovered]
    rfl
  case window =>
    exact ⟨fun none => congrArg Prod.fst (windowCoverage_apart none), fun i member alone => windowCoverage_alone member alone⟩
  case shift =>
    dsimp only
    rw [← phase_eq]
    exact ⟨fun outside => ⟨congrArg Prod.fst (coverage_outside outside), congrArg Prod.fst (drawnCoverage_outside outside)⟩,
      drawnCoverage_unshifted, drawnCoverage_shifted⟩
  case kinds =>
    refine ⟨fun n gen => instGlyphs_quote, fun n gen entry kind colour => ?_, fun code => instGlyphs_glyph, instGlyphs_spacer⟩
    rw [instGlyphs_story kind, storyColour_eq colour]
  case meet =>
    refine ⟨fun none => congrArg Prod.fst (coverage_no_image none), fun before p after v split image earlier later => ?_⟩
    rw [coverage_inside low high, split]
    exact foldl_overlay_largest (Nat.zero_le v) image earlier later
  case glyph =>
    refine ⟨fun missing bare => ?_, fun g has => ?_⟩
    · have none := (glyphOf_of_missing missing).trans (presentGlyph_of_missing bare)
      exact congrArg Prod.fst (coverage_glyph_none kind none)
    · have drawn : glyphOf (s.face c.face) code = some g :=
        has.elim glyphOf_of_has fun ⟨missing, has⟩ => (glyphOf_of_missing missing).trans (presentGlyph_of_has has)
      have image := imageAt_pen_zero (s := s) (c := c) (j := j) (l := l) i.voffset g 1
      refine ⟨fun ⟨low, high, within⟩ => coverage_glyph_some kind drawn low high (image.trans (if_pos within)),
        fun apart => ?_⟩
      by_cases inside : 0 ≤ j ∧ j < i.slot
      · have off := image.trans (if_neg fun within => apart ⟨inside.1, inside.2, within⟩)
        exact congrArg Prod.fst (coverage_glyph_outside kind drawn off)
      · exact congrArg Prod.fst (coverage_outside (by omega))

end Sys2Proof.Machine

/-! SUPPORT. Every queue and bank stays within its size through each operation of the bands, the feed link, the editorial link and
the panel bus. `State.Fits s t` says that `t` is within the sizes when `s` is, and `fits_*` gives one lemma an operation. -/

namespace Sys2Proof.Machine

/-! ### Within the sizes -/

/-- R105, R126: a band's request queue and break queue are no longer than their rules allow. -/
def Band.fits (d : Band) : Prop :=
  d.queue.length ≤ Config.requestQueueSize ∧ d.breaks.length ≤ Config.breakQueueSize

/-- R84: neither bank is longer than its rule allows. -/
def RunLists.fits (r : RunLists) : Prop := r.bankA.length ≤ Config.bankSize ∧ r.bankB.length ≤ Config.bankSize

/-- R48: a lane's intake queue is no longer than its rule allows. -/
def Lane.fits (l : Lane) : Prop := l.queue.length ≤ Config.intakeSize

theorem State.queuesOk_iff {s : State} :
    s.queuesOk ↔ (∀ n, (s.lane n).fits) ∧ s.fli.bad ≤ 7 ∧ (∀ b, (s.band b).fits) ∧ ∀ b, (s.lists b).fits := by
  constructor
  · rintro ⟨lanes, bad, bands⟩
    exact ⟨lanes, bad, fun b => ⟨(bands b).1, (bands b).2.1⟩, fun b => (bands b).2.2⟩
  · rintro ⟨lanes, bad, bands, lists⟩
    exact ⟨lanes, bad, fun b => ⟨(bands b).1, (bands b).2, lists b⟩⟩

/-- The change from `s` to `t` keeps every queue and bank within its size. -/
structure State.Fits (s t : State) : Prop where
  keeps : s.queuesOk → t.queuesOk

theorem State.Fits.refl (s : State) : s.Fits s := ⟨id⟩

theorem State.Fits.trans {s t u : State} (h : s.Fits t) (k : t.Fits u) : s.Fits u := ⟨k.keeps ∘ h.keeps⟩

theorem State.Fits.ite {c : Prop} [Decidable c] {s t u : State} (h : c → s.Fits t) (k : ¬c → s.Fits u) :
    s.Fits (if c then t else u) := by
  split
  · exact h ‹_›
  · exact k ‹_›

/-- A change of neither the feed link, the bands nor the run lists. -/
theorem State.Fits.of_eq {s t : State} (fli : t.fli = s.fli) (bands : t.bands = s.bands) (rls : t.rls = s.rls) :
    s.Fits t := by
  refine ⟨fun ok => ?_⟩
  unfold State.queuesOk State.lane State.band State.lists
  rw [fli, bands, rls]
  exact ok

/-- A change of the feed link alone. -/
theorem fits_fli {s : State} {f : Fli} (lanes : f.lanes = s.fli.lanes) (bad : s.fli.bad ≤ 7 → f.bad ≤ 7) :
    s.Fits { s with fli := f } := by
  refine ⟨fun ⟨intake, count, rest⟩ => ⟨fun n => ?_, bad count, rest⟩⟩
  show (tget f.lanes n).queue.length ≤ _
  rw [lanes]
  exact intake n

theorem fits_raise (s : State) (k : EventKind) (src : EventSource) : s.Fits (s.raise k src) := .of_eq rfl rfl rfl

theorem fits_updMaster (s : State) (m : Master) (f : MasterSet → MasterSet) : s.Fits (s.updMaster m f) := .of_eq rfl rfl rfl

theorem fits_updQuote (s : State) (i : Fin 1024) (f : Quote → Quote) : s.Fits (s.updQuote i f) := .of_eq rfl rfl rfl

theorem fits_updStory (s : State) (i : Fin 256) (f : Story → Story) : s.Fits (s.updStory i f) := .of_eq rfl rfl rfl

theorem fits_setVis (s : State) (b : Fin 4) (v : Visibility) : s.Fits (s.setVis b v) := .of_eq rfl rfl rfl

theorem fits_bumpFree (s : State) : s.Fits s.bumpFree := .of_eq rfl rfl rfl

theorem fits_updEli (s : State) (f : Eli → Eli) : s.Fits (s.updEli f) := .of_eq rfl rfl rfl

theorem fits_updPbi (s : State) (f : Pbi → Pbi) : s.Fits (s.updPbi f) := .of_eq rfl rfl rfl

theorem fits_updQuoteAt (s : State) (i : Nat) (f : Quote → Quote) : s.Fits (s.updQuoteAt i f) := by
  unfold State.updQuoteAt
  split
  · exact fits_updQuote ..
  · exact .refl s

theorem fits_updLane (s : State) (n : Fin 4) (f : Lane → Lane) (h : (s.lane n).fits → (f (s.lane n)).fits := by exact id) :
    s.Fits (s.updLane n f) := by
  refine ⟨fun ok => ?_⟩
  obtain ⟨lanes, rest⟩ := State.queuesOk_iff.mp ok
  refine State.queuesOk_iff.mpr ⟨fun m => ?_, rest⟩
  rw [State.updLane_lane]
  split
  · exact h (lanes n)
  · exact lanes m

theorem fits_updBand (s : State) (b : Fin 4) (f : Band → Band) (h : (s.band b).fits → (f (s.band b)).fits := by exact id) :
    s.Fits (s.updBand b f) := by
  refine ⟨fun ok => ?_⟩
  obtain ⟨lanes, bad, bands, lists⟩ := State.queuesOk_iff.mp ok
  refine State.queuesOk_iff.mpr ⟨lanes, bad, fun c => ?_, lists⟩
  rw [State.updBand_band]
  split
  · exact h (bands b)
  · exact bands c

theorem fits_updLists (s : State) (b : Fin 4) (f : RunLists → RunLists)
    (h : (s.lists b).fits → (f (s.lists b)).fits := by exact id) : s.Fits (s.updLists b f) := by
  refine ⟨fun ok => ?_⟩
  obtain ⟨lanes, bad, bands, lists⟩ := State.queuesOk_iff.mp ok
  refine State.queuesOk_iff.mpr ⟨lanes, bad, bands, fun c => ?_⟩
  rw [State.updLists_lists]
  split
  · exact h (lists b)
  · exact lists c

/-- An empty break queue is within its size. -/
theorem Band.fits.no_breaks {d : Band} (h : d.fits) : ({ d with breaks := [] } : Band).fits := ⟨h.1, Nat.zero_le _⟩

/-! ### Banks, windows and program states -/

theorem fits_swapBanks (b : Fin 4) (s : State) : s.Fits (swapBanks b s) :=
  ((fits_updLists s b _).trans (fits_updBand _ b _)).trans (fits_raise ..)

theorem fits_swapIf (p : CommitMode → Bool) (b : Fin 4) (s : State) : s.Fits (swapIf p b s) :=
  .ite (fun _ => fits_swapBanks b s) (fun _ => .refl s)

theorem fits_freeStoryIfGone (i : Fin 256) (s : State) : s.Fits (freeStoryIfGone i s) :=
  .ite (fun _ => .of_eq rfl rfl rfl) (fun _ => .refl s)

theorem fits_reportRemoval (x : Inst) (s : State) : s.Fits (reportRemoval x s) := by
  unfold reportRemoval dropStory
  split
  · exact fits_updQuoteAt ..
  · split
    · exact (fits_updStory ..).trans (fits_freeStoryIfGone ..)
    · exact .refl s
  · exact .refl s
  · exact .refl s

theorem fits_reportRemovals (l : List Inst) : ∀ s : State, s.Fits (reportRemovals l s) := by
  induction l with
  | nil => exact State.Fits.refl
  | cons x t ih => exact fun s => (fits_reportRemoval x s).trans (ih _)

theorem fits_removeFront (b : Fin 4) (n : Nat) (s : State) : s.Fits (removeFront b n s) :=
  (fits_updBand s b _).trans (fits_reportRemovals ..)

theorem fits_reportCreation (x : Inst) (s : State) : s.Fits (reportCreation x s) := by
  unfold reportCreation
  split
  · exact fits_updQuoteAt ..
  · split
    · exact fits_updStory ..
    · exact .refl s
  · exact .refl s
  · exact .refl s

theorem fits_addInstance (b : Fin 4) (x : Inst) (s : State) : s.Fits (addInstance b x s) :=
  (fits_updBand s b _).trans (fits_reportCreation ..)

theorem fits_changeProg (b : Fin 4) (p : Prog) (s : State) : s.Fits (changeProg b p s) :=
  (fits_updBand s b _).trans (fits_raise ..)

theorem fits_enterReady (b : Fin 4) (s : State) : s.Fits (enterReady b s) :=
  (((fits_updBand s b _).trans (fits_setVis ..)).trans (fits_changeProg ..)).trans (fits_swapIf ..)

theorem fits_takeCommit (b : Fin 4) (m : CommitMode) (s : State) : s.Fits (takeCommit b m s) :=
  .ite (fun _ => fits_updLists s b _) (fun _ => fits_swapBanks b s)

theorem fits_advanceCursor (b : Fin 4) (s : State) : s.Fits (advanceCursor b s) :=
  .ite (fun _ => ((fits_updBand s b _).trans (fits_raise ..)).trans (fits_swapIf ..)) (fun _ => fits_updBand s b _)

/-! ### A CRAWL band -/

theorem fits_admitInst (b : Fin 4) (x : Inst) (s : State) : s.Fits (admitInst b x s) :=
  (fits_updBand s b _).trans (fits_addInstance ..)

theorem fits_deferAdmission (b : Fin 4) (s : State) : s.Fits (deferAdmission b s) :=
  .ite (fun _ => .refl s) (fun _ => (fits_updBand s b _).trans (fits_raise ..))

theorem fits_endBreaks (b : Fin 4) (s : State) : s.Fits (endBreaks b s) :=
  .ite (fun _ => (State.Fits.ite (fun _ => (fits_updBand s b _).trans (fits_changeProg ..)) (fun _ => .refl s)).trans
    (fits_raise ..)) (fun _ => .refl s)

/-- R132, R133: the head of the break queue is used up or dropped, or keeps its place with one repeat less. -/
theorem fits_considerBreak {c : BandConfig} {b : Fin 4} {e : BreakEntry} {rest : List BreakEntry} {s : State}
    (head : (s.band b).breaks = e :: rest) : s.Fits (considerBreak c b e rest s) := by
  refine State.Fits.trans ⟨fun ok => ?_⟩ (fits_endBreaks b _)
  have room : rest.length + 1 ≤ Config.breakQueueSize := by
    have := (ok.2.2 b).2.1
    rwa [head] at this
  refine (State.Fits.ite (fun _ => (fits_admitInst ..).trans (fits_updBand _ b _ (fun h => ⟨h.1, ?_⟩)))
    (fun _ => (fits_updBand s b _ (fun h => ⟨h.1, Nat.le_of_succ_le room⟩)).trans (fits_raise ..))).keeps ok
  show (if e.repeats ≤ 1 then rest else { e with repeats := e.repeats - 1 } :: rest).length ≤ _
  split
  · exact Nat.le_of_succ_le room
  · exact room

theorem fits_considerItem (c : BandConfig) (b : Fin 4) (i : Item) (s : State) : s.Fits (considerItem c b i s) :=
  State.Fits.trans (.ite (fun _ => fits_admitInst ..) (fun _ => fits_raise ..)) (fits_advanceCursor ..)

theorem fits_admitLoop (c : BandConfig) (b : Fin 4) (fuel : Nat) : ∀ (skips : Nat) (s : State),
    s.Fits (admitLoop c b fuel skips s) := by
  induction fuel with
  | zero => exact fun _ s => .refl s
  | succ fuel ih =>
    intro skips s
    unfold admitLoop
    refine .ite (fun _ => .refl s) (fun _ => .ite (fun _ => fits_deferAdmission b s) (fun _ => ?_))
    split
    · next head => exact (fits_considerBreak head).trans (ih ..)
    · refine .ite (fun _ => .ite (fun _ => (fits_swapBanks b s).trans (ih ..)) (fun _ => fits_raise ..))
        (fun _ => .ite (fun _ => fits_raise ..) (fun _ => ?_))
      split
      · exact .refl s
      · exact (fits_considerItem ..).trans (ih ..)

theorem fits_admissionStep (c : BandConfig) (b : Fin 4) (s : State) : s.Fits (admissionStep c b s) :=
  .ite (fun _ => (fits_swapIf ..).trans (fits_admitLoop ..)) (fun _ => fits_swapIf ..)

theorem fits_drainEndStep (b : Fin 4) (s : State) : s.Fits (drainEndStep b s) :=
  .ite (fun _ => (fits_updBand s b _).trans (fits_enterReady ..)) (fun _ => .refl s)

theorem fits_clearingEndStep (b : Fin 4) (s : State) : s.Fits (clearingEndStep b s) :=
  .ite (fun _ => fits_changeProg ..) (fun _ => .refl s)

theorem fits_moveStep (b : Fin 4) (s : State) : s.Fits (moveStep b s) :=
  (fits_updBand s b Band.shifted).trans (fits_removeFront ..)

theorem fits_crawlSteps (c : BandConfig) (b : Fin 4) (s : State) : s.Fits (crawlSteps c b s) :=
  ((((fits_updBand s b _).trans (fits_moveStep ..)).trans (fits_admissionStep ..)).trans (fits_drainEndStep ..)).trans
    (fits_clearingEndStep ..)

/-! ### A FLIP band -/

theorem fits_buildLoop (c : BandConfig) (b : Fin 4) (voffset : Int) (fuel : Nat) :
    ∀ (taken used lastGap skips : Nat) (s : State), s.Fits (buildLoop c b voffset fuel taken used lastGap skips s).2 := by
  induction fuel with
  | zero => exact fun _ _ _ _ s => .refl s
  | succ fuel ih =>
    intro taken used lastGap skips s
    have added : ∀ x, s.Fits (advanceCursor b (addInstance b x s)) := fun x =>
      (fits_addInstance b x s).trans (fits_advanceCursor ..)
    have skipped : s.Fits (advanceCursor b (s.raise .itemSkipped (.band b))) := (fits_raise ..).trans (fits_advanceCursor ..)
    unfold buildLoop
    split
    · exact .refl s
    · split
      · exact .refl s
      · split
        · split
          · exact .refl s
          · dsimp only
            split
            · exact added _
            · exact (added _).trans (ih ..)
        · dsimp only
          split
          · exact skipped
          · exact skipped.trans (ih ..)

theorem fits_pageBuild (c : BandConfig) (b : Fin 4) (voffset : Int) (s : State) : s.Fits (pageBuild c b voffset s).2 := by
  unfold pageBuild
  extract_lets s1 s2 r
  have first : s.Fits s1 := fits_swapIf ..
  have second : s.Fits s2 := first.trans (.ite (fun _ => fits_swapIf ..) (fun _ => .refl s1))
  have built : s.Fits r.2 := second.trans (fits_buildLoop ..)
  split
  · exact built.trans (fits_raise ..)
  · exact built

theorem fits_updPage (b : Fin 4) (f : Page → Page) (s : State) : s.Fits (updPage b f s) := fits_updBand s b _

theorem fits_setRoll (c : BandConfig) (b : Fin 4) (k : Nat) (s : State) : s.Fits (setRoll c b k s) := fits_updBand s b _

theorem fits_enterLeaving (c : BandConfig) (b : Fin 4) (s : State) : s.Fits (enterLeaving c b s) :=
  (fits_updPage ..).trans (fits_setRoll ..)

theorem fits_expirePage (c : BandConfig) (b : Fin 4) (s : State) : s.Fits (expirePage c b s) := by
  unfold expirePage
  dsimp only
  split
  · split
    · exact (fits_removeFront ..).trans (fits_updPage ..)
    · exact fits_enterLeaving ..
  · split
    · exact ((fits_pageBuild ..).trans (fits_removeFront ..)).trans (fits_updPage ..)
    · exact .ite (fun _ => (fits_pageBuild ..).trans (fits_enterLeaving ..))
        (fun _ => ((fits_pageBuild ..).trans (fits_updPage ..)).trans (fits_setRoll ..))

theorem fits_endRoll (c : BandConfig) (b : Fin 4) (s : State) : s.Fits (endRoll c b s) :=
  (((fits_removeFront ..).trans (fits_updBand _ b _)).trans (fits_updPage ..)).trans (fits_bumpFree _)

theorem fits_endLeaving (c : BandConfig) (b : Fin 4) (s : State) : s.Fits (endLeaving c b s) := by
  have left : ∀ f, s.Fits (updPage b f (removeFront b (s.band b).page.outgoing s)).bumpFree := fun f =>
    ((fits_removeFront ..).trans (fits_updPage ..)).trans (fits_bumpFree _)
  exact .ite (fun _ => ((left _).trans (fits_pageBuild ..)).trans (fits_updPage ..)) (fun _ => left _)

theorem fits_pageStep (c : BandConfig) (b : Fin 4) (s : State) : s.Fits (pageStep c b s) := by
  unfold pageStep
  split
  · exact .ite (fun _ => (fits_pageBuild ..).trans (fits_updPage ..)) (fun _ => .refl s)
  · exact .ite (fun _ => .refl s) (fun _ => .ite (fun _ => fits_expirePage ..) (fun _ => fits_updPage ..))
  · exact .ite (fun _ => .refl s) (fun _ => .ite (fun _ => fits_setRoll ..) (fun _ => fits_endRoll ..))
  · exact .ite (fun _ => .refl s) (fun _ => .ite (fun _ => fits_setRoll ..) (fun _ => fits_endLeaving ..))

theorem fits_flipAlone (b : Fin 4) (due : BandConfig → Band → Bool) (f : BandConfig → Fin 4 → State → State) (s : State)
    (h : ∀ c, s.Fits (f c b s)) : s.Fits (flipAlone b due f s) := by
  unfold flipAlone
  split
  · exact .refl s
  · exact .ite (fun _ => h _) (fun _ => .refl s)

/-! ### Requests -/

/-- R126: an entry that takes its place in the queue makes it one longer. -/
theorem placeBreak_length (e : BreakEntry) (l : List BreakEntry) : (placeBreak e l).length = l.length + 1 := by
  unfold placeBreak
  split
  · simp
  · have split := congrArg List.length (List.takeWhile_append_dropWhile (p := fun x => decide (x.urgency = .now)) (l := l))
    rw [List.length_append] at split
    simp only [List.length_append, List.length_cons]
    omega

theorem fits_takeBreak (b : Fin 4) (e : BreakEntry) (s : State) : s.Fits (takeBreak b e s).2 := by
  unfold takeBreak
  split
  · exact .refl s
  · split
    · exact .refl s
    · split
      · exact .refl s
      · next room =>
        refine State.Fits.trans (fits_updBand s b _ (fun h => ⟨h.1, ?_⟩))
          (.ite (fun _ => (fits_updBand _ b _).trans (fits_changeProg ..)) (fun _ => .refl _))
        show (placeBreak e (s.band b).breaks).length ≤ _
        rw [placeBreak_length]
        omega

theorem fits_takeConfigure (b : Fin 4) (c : ConfigRecord) (s : State) : s.Fits (takeConfigure b c s).2 := by
  unfold takeConfigure
  split
  · exact .refl s
  · split
    · exact .refl s
    · split
      · exact .refl s
      · exact State.Fits.trans (fits_updBand s b _) (.ite (fun _ => fits_enterReady ..) (fun _ => .refl _))

theorem fits_takeRelease (b : Fin 4) (s : State) : s.Fits (takeRelease b s).2 := by
  unfold takeRelease
  split
  · exact (fits_updBand s b _).trans (fits_changeProg ..)
  · exact .refl s

theorem fits_takeTakeOn (sampled : Bool) (b : Fin 4) (fromTop : Bool) (s : State) :
    s.Fits (takeTakeOn sampled b fromTop s).2 := by
  unfold takeTakeOn
  extract_lets top
  split
  case h_1 =>
    split
    · exact .refl s
    · exact ((fits_updBand s b _).trans (fits_setVis ..)).trans (fits_changeProg ..)
  case h_2 => exact (fits_updBand s b _).trans (fits_changeProg ..)
  all_goals exact .refl s

/-- A band whose break queue is emptied enters another program state. -/
theorem fits_dropBreaks (b : Fin 4) (f : Band → Band) (p : Prog) (s : State)
    (h : (s.band b).fits → (f (s.band b)).fits := by exact id) :
    s.Fits (changeProg b p (s.updBand b (fun d => { f d with breaks := [] }))) :=
  (fits_updBand s b _ (fun ok => (h ok).no_breaks)).trans (fits_changeProg ..)

theorem fits_takeTakeOffDrain (b : Fin 4) (s : State) : s.Fits (takeTakeOffDrain b s).2 := by
  unfold takeTakeOffDrain
  split
  case h_1 => exact fits_dropBreaks b id _ s
  case h_2 => exact fits_dropBreaks b Band.restoreContext _ s
  case h_3 => exact fits_dropBreaks b Band.restoreContext _ s
  all_goals exact .refl s

theorem fits_takeTakeOffCut (b : Fin 4) (s : State) : s.Fits (takeTakeOffCut b s).2 := by
  unfold takeTakeOffCut
  split
  · exact ((fits_removeFront ..).trans (fits_updBand _ b _ (fun ok => ok.no_breaks))).trans (fits_enterReady ..)
  · exact .refl s

theorem fits_takeBreakClear (b : Fin 4) (s : State) : s.Fits (takeBreakClear b s).2 := by
  unfold takeBreakClear
  split
  · exact .refl s
  · split
    case h_1 => exact fits_dropBreaks b Band.restoreContext _ s
    case h_2 => exact fits_dropBreaks b Band.restoreContext _ s
    case h_3 => exact fits_updBand s b _ Band.fits.no_breaks
    all_goals exact .refl s

theorem fits_takeHalted (b : Fin 4) (halted : Bool) (s : State) : s.Fits (takeHalted b halted s).2 := by
  unfold takeHalted
  split
  · exact .refl s
  · exact fits_updBand s b _

theorem fits_takeTarget (b : Fin 4) (f : Nat → Nat) (s : State) : s.Fits (takeTarget b f s).2 := by
  unfold takeTarget
  split
  · exact .refl s
  · exact fits_updBand s b _

theorem fits_judgeRequest (sampled : Bool) (b : Fin 4) (r : BandRequest) (s : State) :
    s.Fits (judgeRequest sampled b r s).2 := by
  cases r with
  | configure c => exact fits_takeConfigure ..
  | release => exact fits_takeRelease ..
  | takeOn fromTop => exact fits_takeTakeOn ..
  | takeOffDrain => exact fits_takeTakeOffDrain ..
  | takeOffCut => exact fits_takeTakeOffCut ..
  | halt => exact fits_takeHalted ..
  | resume => exact fits_takeHalted ..
  | setSpeed v => exact fits_takeTarget ..
  | nudge up => exact fits_takeTarget ..
  | commit m => exact fits_takeCommit ..
  | brk story repeats urgency => exact fits_takeBreak ..
  | breakClear => exact fits_takeBreakClear ..

theorem fits_deliver (o : Origin) (b : Fin 4) (r : Result) (v : List Byte) (s : State) : s.Fits (deliver o b r v s) := by
  unfold deliver
  split
  · exact .ite (fun _ => .refl s) (fun _ => fits_raise ..)
  · exact .ite (fun _ => .of_eq rfl rfl rfl) (fun _ => .refl s)

theorem fits_takeRequest (sampled : Bool) (o : Origin) (b : Fin 4) (r : BandRequest) (s : State) :
    s.Fits (takeRequest sampled o b r s) := (fits_judgeRequest ..).trans (fits_deliver ..)

theorem fits_takeRequests (sampled : Bool) (b : Fin 4) (l : List QueuedRequest) :
    ∀ s : State, s.Fits (takeRequests sampled b l s) := by
  induction l with
  | nil => exact State.Fits.refl
  | cons q t ih => exact fun s => (fits_takeRequest ..).trans (ih _)

theorem fits_takeQueue (sampled : Bool) (b : Fin 4) (s : State) : s.Fits (takeQueue sampled b s) :=
  (fits_updBand s b _ (fun h => ⟨Nat.zero_le _, h.2⟩)).trans (fits_takeRequests ..)

theorem fits_bandFrameStart (sampled : Bool) (b : Fin 4) (s : State) : s.Fits (bandFrameStart sampled b s) := by
  refine (fits_takeQueue sampled b s).trans (.ite (fun _ => ?_) (fun _ => .refl _))
  split
  · exact .refl _
  · split
    · exact fits_crawlSteps ..
    · exact (fits_pageStep ..).trans (fits_drainEndStep ..)

theorem fits_takeAlone (o : Origin) (b : Fin 4) (r : BandRequest) (s : State) : s.Fits (takeAlone o b r s) :=
  .ite (fun _ => fits_takeRequest ..) (fun _ => .refl s)

/-- R105: a request joins a queue that holds fewer than 8. -/
theorem fits_joinQueue (b : Fin 4) (q : QueuedRequest) (s : State) : s.Fits (joinQueue b q s).2 := by
  unfold joinQueue
  split
  · next room => exact fits_updBand s b _ (fun h => ⟨by simpa using room, h.2⟩)
  · exact .refl s

theorem fits_panelRequest (b : Fin 4) (r : BandRequest) (s : State) : s.Fits (panelRequest b r s) :=
  .ite (fun _ => fits_joinQueue ..) (fun _ => (fits_joinQueue ..).trans (fits_raise ..))

theorem fits_panelBroadcast (r : BandRequest) (s : State) : s.Fits (panelBroadcast r s) :=
  (((fits_panelRequest ..).trans (fits_panelRequest ..)).trans (fits_panelRequest ..)).trans (fits_panelRequest ..)

theorem fits_editorialJoin (b : Fin 4) (r : BandRequest) (s : State) : s.Fits (editorialJoin b r s).2 := by
  unfold editorialJoin
  dsimp only
  split
  · exact (fits_joinQueue ..).trans (.of_eq rfl rfl rfl)
  · exact fits_joinQueue ..

end Sys2Proof.Machine

/-! SUPPORT. Every queue and bank stays within its size through the feed link, a frame start, the editorial link, the panel bus, and
so through every row. -/

namespace Sys2Proof.Machine

/-! ### The feed link and the update engine -/

theorem fits_hearLane (n : Fin 4) (s : State) : s.Fits (hearLane n s) :=
  .ite (fun _ => fits_updLane s n _) (fun _ => (fits_updLane s n _).trans (fits_raise ..))

theorem fits_releaseLink (s : State) : s.Fits (releaseLink s) :=
  .ite (fun _ => fits_fli rfl (fun _ => Nat.zero_le 7)) (fun _ => .refl s)

theorem fits_countSilence (n : Fin 4) (s : State) : s.Fits (countSilence n s) :=
  .ite (fun _ => .ite (fun _ => (fits_updLane s n _).trans (fits_raise ..)) (fun _ => fits_updLane s n _)) (fun _ => .refl s)

theorem fits_silenceLane (n : Fin 4) (s : State) : s.Fits (silenceLane n s) :=
  .ite (fun _ => fits_countSilence ..) (fun _ => .refl s)

theorem fits_queueTx (items : List TxItem) (s : State) : s.Fits (queueTx items s) := fits_fli rfl id

/-- R44: the consecutive-bad count goes back to 0 where it would reach 8. -/
theorem fits_badVerdict (s : State) : s.Fits (badVerdict s) := by
  refine State.Fits.trans (.ite (fun _ => .refl s) (fun _ => .ite (fun _ => ?_) (fun below => ?_))) (fits_queueTx ..)
  · exact (fits_fli (f := { s.fli with fault := true, bad := 0 }) rfl (fun _ => Nat.zero_le 7)).trans (fits_raise ..)
  · refine fits_fli rfl (fun _ => ?_)
    show s.fli.bad + 1 ≤ 7
    omega

theorem fits_otherVerdict (items : List TxItem) (s : State) : s.Fits (otherVerdict items s) :=
  (fits_fli (f := { s.fli with bad := 0 }) rfl (fun _ => Nat.zero_le 7)).trans (fits_queueTx ..)

theorem fits_refusePacket (code : Byte) (n : Fin 4) (s : State) : s.Fits (refusePacket code n s) :=
  (fits_raise ..).trans (fits_otherVerdict ..)

/-- R46, R48: a packet joins a queue that has room for all its records. -/
theorem fits_takePacket {n : Fin 4} {us : List Update} {s : State}
    (room : (s.lane n).queue.length + us.length ≤ Config.intakeSize) : s.Fits (takePacket n us s) := by
  refine ((fits_updLane s n _ (fun _ => ?_)).trans (fits_hearLane ..)).trans (fits_otherVerdict ..)
  show ((s.lane n).queue ++ us).length ≤ _
  rw [List.length_append]
  exact room

theorem fits_heartbeat (mask : Byte) (s : State) : s.Fits (heartbeat mask s) := by
  unfold heartbeat
  generalize List.finRange 4 = l
  induction l generalizing s with
  | nil => exact .refl s
  | cons n t ih => exact State.Fits.trans (.ite (fun _ => fits_hearLane ..) (fun _ => .refl s)) (ih _)

theorem fits_statusQuery (s : State) : s.Fits (statusQuery s).2 := by
  unfold statusQuery
  split
  · exact .refl s
  · exact fits_updMaster ..

theorem fits_serveControls (rs : List (List Byte)) : ∀ s : State, s.Fits (serveControls rs s).2 := by
  induction rs with
  | nil => exact State.Fits.refl
  | cons r t ih =>
    intro s
    unfold serveControls
    split
    · exact (fits_heartbeat ..).trans (ih _)
    · split
      · exact (fits_updMaster ..).trans (ih _)
      · exact (fits_statusQuery s).trans (ih _)

theorem fits_judgeData (n : Fin 4) (rs : List (List Byte)) (s : State) : s.Fits (judgeData n rs s) :=
  .ite (fun _ => fits_refusePacket ..) (fun _ => .ite (fun _ => fits_refusePacket ..)
    (fun _ => .ite (fun _ => fits_refusePacket ..) (fun room => fits_takePacket (by rw [List.length_map]; omega))))

theorem fits_judgePacket (bs : List Byte) (s : State) : s.Fits (judgePacket bs s) := by
  unfold judgePacket
  dsimp only
  split
  · exact .refl s
  · exact fits_otherVerdict ..
  · refine .ite (fun _ => fits_badVerdict s) (fun _ => ?_)
    split
    · exact .ite (fun _ => (fits_serveControls _ s).trans (fits_otherVerdict ..)) (fun _ => fits_badVerdict s)
    · exact fits_judgeData ..

theorem fits_feedByte (b : Byte) (s : State) : s.Fits (feedByte b s) := by
  unfold feedByte
  split
  · exact .ite (fun _ => fits_fli rfl id) (fun _ => .refl s)
  · exact .ite (fun _ => (fits_fli (f := { s.fli with rx := none }) rfl id).trans (fits_judgePacket ..))
      (fun _ => fits_fli rfl id)

theorem fits_feedBytes (bs : List Byte) : ∀ s : State, s.Fits (feedBytes bs s) := by
  induction bs with
  | nil => exact State.Fits.refl
  | cons b t ih => exact fun s => (fits_feedByte b s).trans (ih _)

/-- FEED TX sends what waits, and the read that it ends is settled. -/
theorem fits_sent (own : Bool) (tx : List TxItem) (out : List Byte) (s : State) :
    s.Fits (endRecord own { s with fli := { s.fli with tx := tx, txOut := out } }) :=
  State.Fits.trans (fits_fli (f := { s.fli with tx := tx, txOut := out }) rfl id)
    (.ite (fun _ => fits_updMaster ..) (fun _ => .refl _))

theorem fits_sendFeedByte (s : State) : s.Fits (sendFeedByte s) := by
  unfold sendFeedByte
  split
  · exact .refl s
  · exact fits_fli rfl id
  · exact fits_sent ..
  · exact fits_sent ..
  · exact fits_fli rfl id

theorem fits_applyUpdate (n : Fin 4) (u : Update) (s : State) : s.Fits (applyUpdate n u s) := by
  unfold applyUpdate
  dsimp only
  refine .ite (fun _ => fits_raise ..) (fun _ => .ite (fun _ => fits_raise ..) (fun _ => ?_))
  split
  · exact fits_raise ..
  · refine .ite (fun _ => fits_raise ..) (fun _ => .ite (fun _ => ?_) (fun _ => .ite (fun _ => ?_) (fun _ => ?_)))
    · split
      · exact fits_raise ..
      · exact fits_updQuoteAt ..
    · split
      · exact fits_raise ..
      · exact fits_updQuoteAt ..
    · exact .ite (fun _ => fits_updQuoteAt ..) (fun _ => .ite (fun _ => fits_updQuoteAt ..) (fun _ => fits_updQuoteAt ..))

theorem fits_engineTurn (s : State) : s.Fits (engineTurn s) := by
  unfold engineTurn
  split
  · exact .refl s
  · next n _ =>
    split
    · exact .refl s
    · next u rest head =>
      have shorter : s.Fits (s.updLane n (fun l => { l with queue := rest })) := fits_updLane s n _ (fun h => by
        unfold Lane.fits at h ⊢
        rw [head] at h
        exact Nat.le_of_succ_le h)
      have turned : ∀ t : State, t.Fits { t with uePointer := n } := fun t => .of_eq rfl rfl rfl
      exact (shorter.trans (turned _)).trans (fits_applyUpdate ..)

theorem fits_laneCommand (lane : Nat) (f : Fin 4 → State → State) (s : State) (h : ∀ n, s.Fits (f n s)) :
    s.Fits (laneCommand lane f s).2 := by
  unfold laneCommand
  split
  · exact .refl s
  · exact h _

theorem fits_panelLaneCommand (lane : Nat) (f : Fin 4 → State → State) (s : State) (h : ∀ n, s.Fits (f n s)) :
    s.Fits (panelLaneCommand lane f s) := by
  unfold panelLaneCommand
  split
  · exact fits_raise ..
  · exact h _

theorem fits_holdLane (n : Fin 4) (s : State) : s.Fits (holdLane n s) := fits_updLane s n _

theorem fits_releaseLane (n : Fin 4) (s : State) : s.Fits (releaseLane n s) := fits_updLane s n _

theorem fits_flushLane (n : Fin 4) (s : State) : s.Fits (flushLane n s) := fits_updLane s n _ (fun _ => Nat.zero_le _)

theorem fits_setSilenceLimit (lane limit : Nat) (s : State) : s.Fits (setSilenceLimit lane limit s).2 := by
  unfold setSilenceLimit
  split
  · exact fits_laneCommand _ _ _ (fun n => fits_updLane s n _)
  · exact .refl s

/-! ### The compositor, frame starts and resets -/

theorem fits_moveBand (clean : Bool) (b : Fin 4) (s : State) : s.Fits (moveBand clean b s) := by
  unfold moveBand
  split
  · exact .refl s
  · exact .ite (fun _ => fits_setVis ..) (fun _ => .refl s)

theorem fits_cmp (s : State) (c : Compositor) : s.Fits { s with cmp := c } := .of_eq rfl rfl rfl

theorem fits_judgeAck (clean : Bool) (s : State) : s.Fits (judgeAck clean s) :=
  .ite (fun _ => fits_cmp ..) (fun _ => .ite (fun _ => fits_cmp ..) (fun _ => .refl s))

theorem fits_compositorFrameStart (s : State) : s.Fits (compositorFrameStart s) :=
  (((((fits_cmp s _).trans (fits_moveBand ..)).trans (fits_moveBand ..)).trans (fits_moveBand ..)).trans
    (fits_moveBand ..)).trans (fits_judgeAck ..)

theorem fits_writeSoftClean (panel v : Bool) (s : State) : s.Fits (writeSoftClean panel v s) :=
  .ite (fun _ => fits_cmp ..) (fun _ => fits_cmp ..)

theorem fits_panelSoftClean (value : Nat) (s : State) : s.Fits (panelSoftClean value s) := by
  unfold panelSoftClean
  split
  · exact fits_raise ..
  · exact fits_writeSoftClean ..

theorem fits_panelThreshold (v : Nat) (s : State) : s.Fits (panelThreshold v s) :=
  .ite (fun _ => fits_updMaster ..) (fun _ => fits_raise ..)

theorem fits_frameBlocks (order : List Block) : ∀ (sampled : Bool) (s : State), s.Fits (frameBlocks order sampled s) := by
  induction order with
  | nil => exact fun _ s => .refl s
  | cons k t ih =>
    intro sampled s
    cases k with
    | quotes =>
      have latched : s.Fits (quoteFrameStart s) := .of_eq rfl rfl rfl
      exact latched.trans (ih ..)
    | feed =>
      exact ((((fits_countSilence ..).trans (fits_countSilence ..)).trans (fits_countSilence ..)).trans
        (fits_countSilence ..)).trans (ih ..)
    | band b => exact (fits_bandFrameStart sampled b s).trans (ih ..)
    | compositor => exact (fits_compositorFrameStart s).trans (ih ..)

theorem fits_frameStart (s : State) : s.Fits (frameStart s) := by
  unfold frameStart
  split
  · exact .refl s
  · exact .of_eq rfl rfl rfl
  · have begun : s.Fits { s with frames := s.frames + 1 } := .of_eq rfl rfl rfl
    exact (begun.trans (fits_bumpFree _)).trans (fits_frameBlocks ..)

theorem fits_raiseTiming (s : State) : s.Fits (raiseTiming s) := .ite (fun _ => fits_raise ..) (fun _ => .refl s)

theorem fits_tu (s : State) (u : Tu) : s.Fits { s with tu := u } := .of_eq rfl rfl rfl

/-- A reset leaves every queue and bank empty. -/
theorem State.Fits.of_reset (s : State) {t : State} (lanes : t.fli.lanes = Fli.reset.lanes) (bad : t.fli.bad = 0)
    (bands : t.bands = Vector.replicate 4 Band.reset) (rls : t.rls = Vector.replicate 4 RunLists.reset) : s.Fits t := by
  refine ⟨fun _ => State.queuesOk_iff.mpr ⟨fun n => ?_, by rw [bad]; exact Nat.zero_le 7, fun b => ?_, fun b => ?_⟩⟩
  · have : t.lane n = Lane.reset := by rw [State.lane, lanes]; exact tget_replicate ..
    rw [this]
    exact Nat.zero_le _
  · have : t.band b = Band.reset := by rw [State.band, bands]; exact tget_replicate ..
    rw [this]
    exact ⟨Nat.zero_le _, Nat.zero_le _⟩
  · have : t.lists b = RunLists.reset := by rw [State.lists, rls]; exact tget_replicate ..
    rw [this]
    exact ⟨Nat.zero_le _, Nat.zero_le _⟩

theorem fits_deviceReset (s : State) : s.Fits (deviceReset s) := .of_reset s rfl rfl rfl rfl

/-! ### The run lists -/

theorem RunLists.fits.shadow {r : RunLists} (h : r.fits) : r.shadow.length ≤ Config.bankSize := by
  unfold RunLists.shadow
  split
  · exact h.1
  · exact h.2

theorem RunLists.fits.onAir {r : RunLists} (h : r.fits) : r.onAir.length ≤ Config.bankSize := by
  unfold RunLists.onAir
  split
  · exact h.2
  · exact h.1

theorem RunLists.fits.setShadow {r : RunLists} {l : List Item} (h : r.fits) (k : l.length ≤ Config.bankSize) :
    (r.setShadow l).fits := by
  unfold RunLists.setShadow
  split
  · exact ⟨k, h.2⟩
  · exact ⟨h.1, k⟩

/-- R87, R89: an edit that passes the checks makes a bank within its size, with at most `count` items given for INSERT and
REPLACE. -/
theorem editedBank_length {op pos count : Nat} {items bank : List Item} (given : items.length ≤ count)
    (fit : editFit op pos count bank.length = none) (room : bank.length ≤ Config.bankSize) :
    (editedBank op pos count items bank).length ≤ Config.bankSize := by
  unfold editFit at fit
  unfold editedBank
  split at fit
  · next insert =>
    rw [if_pos insert]
    split at fit
    · cases fit
    · split at fit
      · cases fit
      · simp only [List.length_append, List.length_take, List.length_drop]
        omega
  · next insert =>
    rw [if_neg insert]
    split at fit
    · split at fit
      · cases fit
      · split
        · simp only [List.length_append, List.length_take, List.length_drop]
          omega
        · split
          · simp only [List.length_append, List.length_take, List.length_drop]
            omega
          · exact Nat.zero_le _
    · next other =>
      rw [if_neg (fun e => other (.inl e)), if_neg (fun e => other (.inr e))]
      exact Nat.zero_le _

theorem fits_applyEdit {b : Fin 4} {op pos count : Nat} {items : List Item} {s : State} (given : items.length ≤ count)
    (fit : editFit op pos count (s.lists b).shadow.length = none) : s.Fits (applyEdit b op pos count items s).2 :=
  fits_updLists s b _ (fun ok => ok.setShadow (editedBank_length given fit ok.shadow))

theorem fits_editRunList (band op pos count n : Nat) (s : State) : s.Fits (editRunList band op pos count n s).2 := by
  unfold editRunList
  split
  · exact .refl s
  · split
    · exact .refl s
    · split
      · exact .refl s
      · split
        · exact .refl s
        · next fit =>
          split
          · exact .refl s
          · exact fits_applyEdit (Nat.zero_le _) fit

theorem entriesOf_length (k : Nat) : ∀ (n : Nat) (bs : List Byte), (entriesOf k n bs).length = n
  | 0, _ => rfl
  | n + 1, _ => congrArg (· + 1) (entriesOf_length k n _)

theorem fits_staged (s : State) (l : List Byte) : s.Fits { s with editStaging := l } := .of_eq rfl rfl rfl

theorem fits_completeEdit (band op pos count : Nat) (s : State) : s.Fits (completeEdit band op pos count s).2 := by
  unfold completeEdit
  dsimp only
  split
  · exact fits_staged ..
  · split
    · exact fits_staged ..
    · split
      · exact fits_staged ..
      · next fit =>
        split
        · exact fits_staged ..
        · split
          · exact fits_staged ..
          · refine (fits_staged s []).trans (fits_applyEdit ?_ fit)
            exact (List.length_filterMap_le _ _).trans (entriesOf_length ..).le

theorem fits_copyBank (band : Nat) (s : State) : s.Fits (copyBank band s).2 := by
  unfold copyBank
  split
  · exact .refl s
  · split
    · exact .refl s
    · exact fits_updLists s _ _ (fun ok => ok.setShadow ok.onAir)

/-! ### The editorial link -/

theorem fits_gs (s : State) (g : GlyphStore) : s.Fits { s with gs := g } := .of_eq rfl rfl rfl

theorem fits_ts (s : State) (t : TextStore) : s.Fits { s with ts := t } := .of_eq rfl rfl rfl

theorem fits_abandon (s : State) : s.Fits (abandon s) := by
  unfold abandon
  split
  · exact .of_eq rfl rfl rfl
  · exact .ite (fun _ => fits_updMaster ..) (fun _ => .refl s)
  all_goals exact .refl s

theorem fits_phaseError (s : State) : s.Fits (phaseError s) :=
  .ite (fun _ => .refl s) (fun _ => (fits_abandon s).trans (fits_updEli ..))

theorem fits_defineQuote (a : DefineArgs) (s : State) : s.Fits (defineQuote a s).2 := by
  unfold defineQuote
  split
  · exact .refl s
  · split
    · exact .refl s
    · split
      · exact .refl s
      · split
        · exact .refl s
        · exact fits_updQuote ..

theorem fits_retireQuote (r : Ref) (s : State) : s.Fits (retireQuote r s).2 := by
  unfold retireQuote
  split
  · exact fits_updQuoteAt ..
  · exact .refl s

theorem fits_applySource (r : Ref) (src : Source) (text : List Byte) (s : State) : s.Fits (applySource r src text s).2 := by
  unfold applySource
  split
  · exact fits_updQuoteAt ..
  · exact .refl s

theorem fits_setSource (r : Ref) (code n : Nat) (s : State) : s.Fits (setSource r code n s).2 := by
  unfold setSource
  split
  · exact .refl s
  · split
    · exact .refl s
    · split
      · exact .refl s
      · split
        · exact fits_applySource ..
        · exact .refl s

theorem fits_setReference (r : Ref) (remove : Bool) (u : Nat) (m : Int) (s : State) :
    s.Fits (setReference r remove u m s).2 := by
  unfold setReference
  split
  · exact .refl s
  · split
    · exact .refl s
    · split
      · exact .refl s
      · split
        · exact fits_updQuoteAt ..
        · split
          · exact .refl s
          · exact fits_updQuoteAt ..

theorem fits_loadStory (n : Nat) (s : State) : s.Fits (loadStory n s).2 := by
  unfold loadStory
  split
  · exact .refl s
  · split
    · exact .refl s
    · split
      · exact .refl s
      · exact fits_ts ..

theorem fits_deleteStory (r : Ref) (s : State) : s.Fits (deleteStory r s).2 := by
  unfold deleteStory
  split
  · split
    · exact (fits_updStory ..).trans (fits_freeStoryIfGone ..)
    · exact .refl s
  · exact .refl s

theorem fits_completeStory (n : Nat) (s : State) : s.Fits (completeStory n s).2 := by
  unfold completeStory
  split
  · exact .refl s
  · exact (fits_updStory ..).trans (fits_ts ..)

theorem fits_unloadFace (face : Nat) (s : State) : s.Fits (unloadFace face s).2 := by
  unfold unloadFace
  split
  · exact .refl s
  · split
    · exact .refl s
    · exact fits_gs ..

theorem fits_completeFace (a : FaceArgs) (s : State) : s.Fits (completeFace a s).2 := by
  unfold completeFace
  dsimp only
  split
  · exact fits_gs ..
  · split
    · exact fits_gs ..
    · split
      · exact fits_gs ..
      · split
        · exact fits_gs ..
        · exact (fits_gs s _).trans (fits_gs ..)

theorem fits_editorialRequest (band : Nat) (r : EdRequest) (n : Nat) (s : State) :
    s.Fits (editorialRequest band r n s).2 := by
  unfold editorialRequest
  split
  · exact .refl s
  · split
    · split
      · exact .refl s
      · split <;> exact .refl s
    · split
      · exact .refl s
      · dsimp only
        split <;> exact fits_editorialJoin ..

theorem fits_editorialSoftClean (value : Nat) (s : State) : s.Fits (editorialSoftClean value s).2 := by
  unfold editorialSoftClean
  split
  · exact .refl s
  · exact fits_writeSoftClean false _ s

theorem fits_setPin (pin mode select level : Nat) (s : State) : s.Fits (setPin pin mode select level s).2 := by
  unfold setPin
  split
  · exact .of_eq rfl rfl rfl
  · exact .refl s

theorem fits_setLevels (master : Nat) (levels : List Nat) (s : State) : s.Fits (setLevels master levels s).2 := by
  unfold setLevels
  split
  · exact .refl s
  · split
    · split
      · exact fits_updMaster ..
      · exact .refl s
    · exact .refl s

theorem fits_editorialThreshold (v : Nat) (s : State) : s.Fits (editorialThreshold v s).2 := by
  unfold editorialThreshold
  split
  · exact fits_updMaster ..
  · exact .refl s

theorem fits_commandPhase (c : EdCommand) (n : Nat) (s : State) : s.Fits (commandPhase c n s).2 := by
  cases c with
  | defineQuote a => exact fits_defineQuote ..
  | retireQuote r => exact fits_retireQuote ..
  | setSource r source => exact fits_setSource ..
  | setReference r remove scale mantissa => exact fits_setReference ..
  | setFlash v => exact .of_eq rfl rfl rfl
  | laneHold lane => exact fits_laneCommand _ _ _ (fun n => fits_holdLane n s)
  | laneRelease lane => exact fits_laneCommand _ _ _ (fun n => fits_releaseLane n s)
  | laneFlush lane => exact fits_laneCommand _ _ _ (fun n => fits_flushLane n s)
  | linkRelease => exact fits_releaseLink s
  | setSilenceLimit lane limit => exact fits_setSilenceLimit ..
  | loadStory => exact fits_loadStory ..
  | deleteStory r => exact fits_deleteStory ..
  | loadFace a =>
    show s.Fits (loadFace a n s).2
    rw [loadFace_state]
    exact .refl s
  | unloadFace face => exact fits_unloadFace ..
  | loadImages offset =>
    show s.Fits (loadImages offset n s).2
    rw [loadImages_state]
    exact .refl s
  | edit band op pos count => exact fits_editRunList ..
  | copyBank band => exact fits_copyBank ..
  | request band r => exact fits_editorialRequest ..
  | softClean v => exact fits_editorialSoftClean ..
  | setPin pin mode select level => exact fits_setPin ..
  | setLevels master levels => exact fits_setLevels ..
  | setThreshold v => exact fits_editorialThreshold ..
  | _ => exact .refl s

theorem fits_finish (st : Status) (s : State) : s.Fits (finish st s) := .of_eq rfl rfl rfl

theorem fits_enterPhase (p : EdPhase) (s : State) : s.Fits (enterPhase p s) := .of_eq rfl rfl rfl

theorem fits_takeBlock (tag : Byte) (c : Option EdCommand) (n : Nat) (s : State) : s.Fits (takeBlock tag c n s) :=
  .of_eq rfl rfl rfl

theorem fits_drive (bytes : List Byte) (s : State) : s.Fits (drive bytes s) := .of_eq rfl rfl rfl

theorem fits_driveZeros (n : Nat) (s : State) : s.Fits (driveZeros n s) := fits_drive ..

theorem fits_driveBlock (block : List Byte) (n : Nat) (s : State) : s.Fits (driveBlock block n s) := fits_drive ..

theorem fits_completeConfigure (band : Nat) (s : State) : s.Fits (completeConfigure band s) := by
  unfold completeConfigure
  split
  · exact fits_finish ..
  · dsimp only
    split
    · exact (fits_editorialJoin ..).trans (fits_enterPhase ..)
    · exact (fits_editorialJoin ..).trans (fits_finish ..)

theorem fits_completeData (c : EdCommand) (s : State) : s.Fits (completeData c s) := by
  cases c with
  | setSource r source => exact (fits_applySource ..).trans (fits_finish ..)
  | loadStory => exact (fits_completeStory ..).trans (fits_finish ..)
  | loadFace a => exact (fits_completeFace ..).trans (fits_finish ..)
  | edit band op pos count => exact (fits_completeEdit ..).trans (fits_finish ..)
  | request band r => exact fits_completeConfigure ..
  | _ => exact fits_finish ..

theorem fits_settle (c : EdCommand) (n : Nat) (t : Reply × State) : t.2.Fits (settle c n t) := by
  unfold settle
  split
  · exact fits_finish ..
  · exact .ite (fun _ => fits_completeData ..) (fun _ => fits_enterPhase ..)
  · exact fits_enterPhase ..
  · exact fits_enterPhase ..

theorem fits_runCommand (h : EdHeader) (c : EdCommand) (s : State) : s.Fits (runCommand h c s) :=
  .ite (fun _ => ((fits_takeBlock ..).trans (fits_commandPhase ..)).trans (fits_settle ..))
    (fun _ => (fits_takeBlock ..).trans (fits_finish ..))

theorem fits_inFrame (n : Nat) {f : State → State} (s : State) (h : ∀ t, State.Fits t (f t)) : s.Fits (inFrame n f s) :=
  .ite (fun _ => .refl s) (fun _ => .ite (fun _ => .of_eq rfl rfl rfl) (fun _ => h s))

theorem fits_inPhase (p : EdPhase) (n : Nat) {f : State → State} (s : State) (h : ∀ t, State.Fits t (f t)) :
    s.Fits (inPhase p n f s) :=
  fits_inFrame n s (fun t => .ite (fun _ => fits_driveZeros ..) (fun _ => .ite (fun _ => (fits_driveZeros n t).trans (h _))
    (fun _ => (fits_driveZeros n t).trans (fits_phaseError _))))

theorem fits_edCommand (h : EdHeader) (c : EdCommand) (s : State) : s.Fits (edCommand h c s) :=
  fits_inPhase _ _ s (fits_runCommand h c)

theorem fits_commandFrame (bytes : List Byte) (s : State) : s.Fits (commandFrame bytes s) :=
  fits_inPhase _ _ s (fun t => by
    unfold judgeBlock
    split
    · split
      · exact fits_runCommand ..
      · exact (fits_takeBlock ..).trans (fits_finish ..)
    · exact (fits_takeBlock ..).trans (fits_finish ..))

theorem fits_storeByte (c : EdCommand) (k : Nat) (b : Byte) (s : State) : s.Fits (storeByte c k b s) := by
  cases c with
  | loadStory =>
    show s.Fits (writeStoryByte k b s)
    unfold writeStoryByte
    split
    · exact .refl s
    · exact fits_ts ..
  | loadFace a => exact fits_gs ..
  | loadImages offset => exact fits_gs ..
  | edit band op pos count => exact fits_staged ..
  | _ => exact .of_eq rfl rfl rfl

theorem fits_countByte (c : EdCommand) (s : State) : s.Fits (countByte c s) :=
  (fits_updEli s _).trans (.ite (fun _ => fits_completeData ..) (fun _ => .refl _))

theorem fits_receiveByte (b : Byte) (s : State) : s.Fits (receiveByte b s) := by
  unfold receiveByte
  split
  · exact (fits_storeByte ..).trans (fits_countByte ..)
  · exact fits_phaseError s

theorem fits_receiveBytes (bytes : List Byte) : ∀ s : State, s.Fits (receiveBytes bytes s) := by
  induction bytes with
  | nil => exact State.Fits.refl
  | cons b t ih => exact fun s => (fits_receiveByte b s).trans (ih _)

theorem fits_dataOut (bytes : List Byte) (s : State) : s.Fits (dataOut bytes s) :=
  fits_inPhase _ _ s (fits_receiveBytes bytes)

theorem fits_latchReport (c : EdCommand) (s : State) : s.Fits (latchReport c s) := by
  have begun : s.Fits (beginEvents c s) := .ite (fun _ => fits_updMaster ..) (fun _ => .refl s)
  have freed : ∀ t : State, t.Fits (takeFree c t) := fun t => by
    unfold takeFree
    split
    · exact fits_bumpFree t
    · exact .refl t
  exact (begun.trans (fits_updEli ..)).trans (freed _)

theorem fits_completeRead (c : EdCommand) (s : State) : s.Fits (completeRead c s) :=
  State.Fits.trans (.ite (fun _ => fits_updMaster ..) (fun _ => .refl s)) (fits_finish ..)

theorem fits_sendByte (s : State) : s.Fits (sendByte s).2 := by
  unfold sendByte
  split
  · next c _ _ =>
    have begun : s.Fits (if s.eli.latch = [] then latchReport c s else s) :=
      .ite (fun _ => fits_latchReport ..) (fun _ => .refl s)
    exact (begun.trans (fits_updEli ..)).trans (.ite (fun _ => fits_completeRead ..) (fun _ => .refl _))
  · exact .refl s

theorem fits_sendBytes (n : Nat) : ∀ s : State, s.Fits (sendBytes n s).2 := by
  induction n with
  | zero => exact State.Fits.refl
  | succ n ih => exact fun s => (fits_sendByte s).trans (ih _)

theorem fits_dataIn (n : Nat) (s : State) : s.Fits (dataIn n s) :=
  fits_inPhase _ _ s (fun t => (fits_sendBytes n t).trans (fits_drive ..))

theorem fits_consumeStatus (s : State) : s.Fits (consumeStatus s) :=
  (fits_updEli s _).trans (.ite (fun _ => fits_deviceReset _) (fun _ => .refl _))

theorem fits_strayStatus (n : Nat) (s : State) : s.Fits (strayStatus n s) := (fits_phaseError s).trans (fits_driveBlock ..)

theorem fits_statusFrame (n : Nat) (s : State) : s.Fits (statusFrame n s) :=
  fits_inFrame n s (fun t => by
    refine .ite (fun _ => fits_driveBlock ..) (fun _ => ?_)
    split
    case h_1 =>
      exact .ite (fun _ => (fits_driveBlock _ n t).trans (fits_consumeStatus _)) (fun _ => fits_driveBlock ..)
    case h_2 => exact fits_driveBlock ..
    all_goals exact fits_strayStatus n t)

theorem fits_linkReset (s : State) : s.Fits (linkReset s) :=
  fits_inFrame 0 s (fun t => ((fits_abandon t).trans (fits_updEli ..)).trans (fits_driveZeros ..))

theorem fits_unknownFrame (n : Nat) (s : State) : s.Fits (unknownFrame n s) :=
  fits_inFrame n s (fun t => .ite (fun _ => fits_driveZeros ..) (fun _ => (fits_driveZeros n t).trans (fits_phaseError _)))

theorem fits_edFrame (bytes : List Byte) (s : State) : s.Fits (edFrame bytes s) := by
  unfold edFrame
  split
  · exact fits_updEli ..
  · split
    · exact fits_commandFrame ..
    · exact fits_dataOut ..
    · exact fits_dataIn ..
    · exact fits_statusFrame ..
    · exact fits_linkReset s
    · exact fits_unknownFrame ..

theorem fits_lastByte (p : EdCommand → Bool) (b : Byte) (s : State) : s.Fits (lastByte p b s) :=
  .ite (fun _ => fits_dataOut ..) (fun _ => .refl s)

/-! ### The panel bus -/

theorem fits_panelBand (band : Nat) (r : BandRequest) (s : State) : s.Fits (panelBand band r s) := by
  unfold panelBand
  split
  · exact fits_raise ..
  · exact fits_panelRequest ..

theorem fits_handOver (c a0 a1 : Byte) (s : State) : s.Fits (handOver c a0 a1 s) := by
  unfold handOver
  split
  case h_6 =>
    split
    · exact fits_raise ..
    · exact fits_panelBand ..
  case h_7 => exact fits_panelLaneCommand _ _ _ (fun n => fits_holdLane n s)
  case h_8 => exact fits_panelLaneCommand _ _ _ (fun n => fits_releaseLane n s)
  case h_9 => exact fits_releaseLink s
  case h_10 => exact fits_panelSoftClean ..
  case h_11 => exact fits_panelThreshold ..
  case h_12 =>
    split
    · exact fits_raise ..
    · exact fits_panelBroadcast ..
  case h_13 => exact fits_panelBroadcast ..
  case h_14 => exact fits_panelBroadcast ..
  case h_15 => exact .refl s
  all_goals exact fits_panelBand ..

theorem fits_takeWrite (bytes : List Byte) (discard : Bool) (s : State) : s.Fits (takeWrite bytes discard s) := by
  unfold takeWrite
  split
  · exact .refl s
  · exact .ite (fun _ => .refl s) (fun _ => .ite (fun _ => fits_handOver ..) (fun _ => fits_raise ..))

theorem fits_panelByte (b : Byte) (s : State) : s.Fits (panelByte b s).2 := by
  have moved : ∀ t, s.Fits (setTransfer t s) := fun t => fits_updPbi ..
  unfold panelByte
  split
  · exact .refl s
  · split
    · exact moved _
    · split
      · exact moved _
      · split
        · exact .of_eq rfl rfl rfl
        · split <;> exact moved _
  · split <;> exact moved _
  · split <;> exact moved _
  · exact .refl s

theorem fits_panelBytes (bytes : List Byte) : ∀ s : State, s.Fits (panelBytes bytes s).2 := by
  induction bytes with
  | nil => exact State.Fits.refl
  | cons b t ih => exact fun s => (fits_panelByte b s).trans (ih _)

theorem fits_writeBytes (bytes : List Byte) (s : State) : s.Fits (writeBytes bytes s) := by
  unfold writeBytes
  exact (fits_panelBytes bytes s).trans (fits_updPbi ..)

theorem fits_readByte (s : State) : s.Fits (readByte s).2 := by
  unfold readByte
  split
  · exact State.Fits.ite (fun _ => (fits_updPbi ..).trans (fits_updMaster ..)) (fun _ => fits_updPbi ..)
  · exact .refl s

theorem fits_readBytes (n : Nat) : ∀ s : State, s.Fits (readBytes n s).2 := by
  induction n with
  | zero => exact State.Fits.refl
  | succ n ih => exact fun s => (fits_readByte s).trans (ih _)

theorem fits_clockRead (n : Nat) (s : State) : s.Fits (clockRead n s) := by
  unfold clockRead
  exact (fits_readBytes n s).trans (fits_updPbi ..)

theorem fits_restart (t : Transfer) (s : State) : s.Fits (restart t s) := by
  have ended : s.Fits (endTransfer s) := by
    unfold endTransfer
    split
    · exact .refl s
    · exact .refl s
    · exact fits_takeWrite ..
    · exact fits_takeWrite ..
    · exact .ite (fun _ => fits_updMaster ..) (fun _ => .refl s)
  exact ended.trans (fits_updPbi ..)

theorem fits_onBus {f : State → State} (s : State) (h : s.Fits (f s)) : s.Fits (onBus f s) :=
  .ite (fun _ => .refl s) (fun _ => h)

theorem fits_whenRunning {f : State → State} (s : State) (h : s.Fits (f s)) : s.Fits (whenRunning f s) :=
  .ite (fun _ => h) (fun _ => .refl s)

/-! ### Every row -/

/-- The next state, when there is one, keeps every queue and bank within its size. -/
def Fitting (s : State) (o : Host.Outcome State Fault Refusal) : Prop := ∀ t, o = .next t → s.Fits t

theorem Fitting.next {s t : State} (h : s.Fits t) : Fitting s (.next t) := fun _ e => by
  cases e
  exact h

/-- A command of both masters. -/
theorem fitting_via {s : State} (via : Via) (c : EdCommand) (f : State → State) (h : ∀ t : State, t.Fits (f t)) :
    Fitting s (match via with
      | .editorial h => .next (edCommand h c s)
      | .panel => .next (whenRunning f s)) := by
  split
  · exact .next (fits_edCommand ..)
  · exact .next (fits_whenRunning s (h s))

/-- Data bytes, unless they would reach outside glyph memory. -/
theorem fitting_images {s t : State} (h : s.Fits t) :
    Fitting s (if imagesOutside s then .fault .glyphAddress else .next t) := by
  by_cases outside : imagesOutside s = true
  · rw [if_pos outside]
    exact fun _ e => nomatch e
  · rw [if_neg outside]
    exact .next h

theorem fitting_exec (i : Instr) (s : State) : Fitting s (exec i s) := by
  cases i with
  | powerOn levels time => exact .next (.of_reset s rfl rfl rfl rfl)
  | resetAsserted => exact .next (.of_reset s rfl rfl rfl rfl)
  | initDone => exact .next (.ite (fun _ => .of_eq rfl rfl rfl) (fun _ => .refl s))
  | deviceResetStart => exact .next (.ite (fun _ => fits_deviceReset s) (fun _ => .refl s))
  | referencePulse time =>
    exact .next (.ite (fun _ => .ite (fun _ => .refl s) (fun _ => (fits_tu s _).trans (fits_frameStart _)))
      (fun _ => ((fits_tu s _).trans (fits_raiseTiming _)).trans (fits_frameStart _)))
  | lossLimit =>
    exact .next (.ite (fun _ => ((fits_tu s _).trans (fits_raiseTiming _)).trans (fits_frameStart _)) (fun _ => .refl s))
  | freeRunPeriod => exact .next (.ite (fun _ => .refl s) (fun _ => (fits_tu s _).trans (fits_frameStart _)))
  | flashExpired index => exact .next (fits_updQuote ..)
  | laneSilent lane => exact .next (fits_silenceLane ..)
  | drainEnd band => exact .next (fits_drainEndStep ..)
  | clearingEnd band => exact .next (fits_clearingEndStep ..)
  | holdExpired band => exact .next (fits_flipAlone _ _ _ s (fun c => fits_expirePage ..))
  | rollEnd band => exact .next (fits_flipAlone _ _ _ s (fun c => fits_endRoll ..))
  | leavingEnd band => exact .next (fits_flipAlone _ _ _ s (fun c => fits_endLeaving ..))
  | fadeOutComplete band => exact .next (.ite (fun _ => fits_moveBand ..) (fun _ => .refl s))
  | fadeInComplete band =>
    refine .next ?_
    split
    · exact .refl s
    · exact .ite (fun _ => fits_moveBand ..) (fun _ => .refl s)
  | bankSwap band => exact .next (fits_whenRunning s (fits_swapBanks ..))
  | retiringRecordFreed index => exact .next (fits_updQuote ..)
  | deletingStoryFreed id => exact .next (fits_freeStoryIfGone ..)
  | cleanRequest level => exact .next (.of_eq rfl rfl rfl)
  | feedPacket bytes => exact .next (.ite (fun _ => .refl s) (fun _ => fits_feedBytes ..))
  | feedStatusRecordSent =>
    refine .next ?_
    split
    · exact .refl s
    · exact fits_sent ..
  | updateEngineTurn => exact .next (fits_engineTurn s)
  | commandFrame bytes => exact .next (fits_commandFrame ..)
  | dataOutFrame bytes => exact fitting_images (fits_dataOut ..)
  | dataInFrame count => exact .next (fits_dataIn ..)
  | statusFrame count => exact .next (fits_statusFrame ..)
  | linkReset => exact .next (fits_linkReset s)
  | setSourceDataComplete last => exact .next (fits_lastByte ..)
  | laneHold via lane => exact fitting_via via _ _ (fun t => fits_panelLaneCommand _ _ t (fun n => fits_holdLane n t))
  | laneRelease via lane => exact fitting_via via _ _ (fun t => fits_panelLaneCommand _ _ t (fun n => fits_releaseLane n t))
  | linkRelease via => exact fitting_via via _ _ fits_releaseLink
  | loadStoryComplete last => exact .next (fits_lastByte ..)
  | loadFaceComplete last => exact .next (fits_lastByte ..)
  | loadGlyphImagesComplete last => exact fitting_images (fits_lastByte ..)
  | editDataComplete last => exact .next (fits_lastByte ..)
  | softClean via value => exact fitting_via via _ _ (fits_panelSoftClean value)
  | setThreshold via value => exact fitting_via via _ _ (fits_panelThreshold value)
  | readEventsComplete => exact .next (.ite (fun _ => fits_dataIn ..) (fun _ => .refl s))
  | bandRequestQueued a =>
    cases a with
    | editorial h band r => exact .next (fits_edCommand ..)
    | panel band r => exact .next (fits_whenRunning s (fits_panelRequest ..))
  | allTakeOff cut => exact .next (fits_whenRunning s (fits_panelBroadcast ..))
  | allHalt => exact .next (fits_whenRunning s (fits_panelBroadcast ..))
  | allResume => exact .next (fits_whenRunning s (fits_panelBroadcast ..))
  | panelWrite bytes => exact .next (fits_onBus s (fits_writeBytes ..))
  | startCondition => exact .next (fits_onBus s (fits_restart ..))
  | stopCondition => exact .next (fits_onBus s (fits_restart ..))
  | panelStatusRead clocked => exact .next (fits_onBus s ((fits_writeBytes ..).trans (fits_clockRead ..)))
  | panelStatusReadComplete => exact .next (.ite (fun _ => .refl s) (fun _ => fits_clockRead ..))
  | frameOfUnknownKind kind => exact .next (fits_edFrame ..)
  | configure ticket band record => exact .next (fits_takeAlone ..)
  | release ticket band => exact .next (fits_takeAlone ..)
  | takeOn origin band fromTop => exact .next (fits_takeAlone ..)
  | takeOffDrain origin band => exact .next (fits_takeAlone ..)
  | takeOffCut origin band => exact .next (fits_takeAlone ..)
  | halt origin band => exact .next (fits_takeAlone ..)
  | resume origin band => exact .next (fits_takeAlone ..)
  | setSpeed ticket band value => exact .next (fits_takeAlone ..)
  | nudge band up => exact .next (fits_takeAlone ..)
  | commit ticket band mode => exact .next (fits_takeAlone ..)
  | breakNext ticket band story repeats => exact .next (fits_takeAlone ..)
  | breakNow ticket band story repeats => exact .next (fits_takeAlone ..)
  | breakClear ticket band => exact .next (fits_takeAlone ..)
  | _ => exact .next (fits_edCommand ..)

theorem fits_of_step {s t : State} (h : step s = .next t) : s.Fits t := by
  unfold step at h
  split at h
  · cases h
    exact fits_sendFeedByte s
  · next i rest _ =>
    have waiting : s.Fits (s.withPending rest) := .of_eq rfl rfl rfl
    exact waiting.trans (fitting_exec i _ t h)

/-- Settles O55: every operation keeps the sizes, and so does the chain of operations that a step is. -/
theorem everyStepKeepsQueues : Obligations.EveryStepKeepsQueues := by
  unfold Obligations.EveryStepKeepsQueues
  exact fun s t ok h => (fits_of_step h).keeps ok

end Sys2Proof.Machine

/-! SUPPORT. The lanes: what one action on a lane and a run of actions on distinct lanes do, the silence count of a frame start,
the lane commands, the update engine's turn, and the sending of a feed status record. -/

namespace Sys2Proof.Machine

/-! ### Updates of one lane -/

theorem State.updLane_updLane (s : State) (n : Fin 4) (f g : Lane → Lane) :
    (s.updLane n f).updLane n g = s.updLane n (fun l => g (f l)) := by
  have lanes : tupd (tupd s.fli.lanes n f) n g = tupd s.fli.lanes n (fun l => g (f l)) := by
    refine table_ext fun m => ?_
    by_cases h : n = m
    · subst h
      simp
    · simp [tget_tupd_ne _ h]
  unfold State.updLane
  rw [lanes]

/-- Two updates that agree on the lane they change agree. -/
theorem State.updLane_congr {s : State} {n : Fin 4} {f g : Lane → Lane} (h : f (s.lane n) = g (s.lane n)) :
    s.updLane n f = s.updLane n g := by
  unfold State.updLane tupd
  rw [show f (tget s.fli.lanes n) = g (tget s.fli.lanes n) from h]

/-- An update that leaves its lane as it is changes nothing. -/
theorem State.updLane_same {s : State} {n : Fin 4} {f : Lane → Lane} (h : f (s.lane n) = s.lane n) : s.updLane n f = s := by
  have lanes : tupd s.fli.lanes n f = s.fli.lanes := by
    refine table_ext fun m => ?_
    rw [tget_tupd]
    split
    · next e => rw [← e]; exact h
    · rfl
  unfold State.updLane
  rw [lanes]

/-! ### Events raised -/

/-- R186: outside a read, a raised pair joins the pending set of a master that gives its kind a level above 0. -/
theorem MasterSet.mem_record_pending {m : MasterSet} {e f : Event} (latch : m.latch = none) :
    e ∈ (m.record f).pending ↔ e ∈ m.pending ∨ (e = f ∧ 0 < m.level f.kind) := by
  unfold MasterSet.record
  split
  · next zero => simp [zero]
  · next above =>
    rw [latch]
    simp [mem_addEvent, Nat.pos_of_ne_zero above]

theorem MasterSet.record_level (m : MasterSet) (e : Event) (k : EventKind) : (m.record e).level k = m.level k := by
  unfold MasterSet.level
  rw [(m.record_kept e).1]

/-! ### Actions on lanes -/

/-- The change from `s` to `t` is one of the lanes and of the attention unit alone. -/
def State.LaneChange (s t : State) : Prop := ∃ lanes au, t = { s with fli := { s.fli with lanes := lanes }, au := au }

theorem State.LaneChange.trans {s t u : State} (h : s.LaneChange t) (k : t.LaneChange u) : s.LaneChange u := by
  obtain ⟨_, _, rfl⟩ := h
  obtain ⟨_, _, rfl⟩ := k
  exact ⟨_, _, rfl⟩

/-- An action on a lane: the lane takes its new value, and when `due` the action raises `k` for it. -/
def actLane (new : Fin 4 → Lane → Lane) (due : Fin 4 → Lane → Bool) (k : EventKind) (n : Fin 4) (s : State) : State :=
  if due n (s.lane n) then (s.updLane n (new n)).raise k (.lane n) else s.updLane n (new n)

/-- Actions on several lanes, one after another. -/
def actLanes (new : Fin 4 → Lane → Lane) (due : Fin 4 → Lane → Bool) (k : EventKind) (l : List (Fin 4))
    (s : State) : State :=
  l.foldl (fun s n => actLane new due k n s) s

section

variable (new : Fin 4 → Lane → Lane) (due : Fin 4 → Lane → Bool) (k : EventKind)

theorem actLane_lane (n m : Fin 4) (s : State) :
    (actLane new due k n s).lane m = if n = m then new n (s.lane n) else s.lane m := by
  unfold actLane
  split
  · exact State.updLane_lane ..
  · exact State.updLane_lane ..

/-- An action changes its lane and the sets of the attention unit alone. -/
theorem actLane_frame (n : Fin 4) (s : State) : s.LaneChange (actLane new due k n s) := by
  unfold actLane
  split <;> exact ⟨_, _, rfl⟩

theorem actLane_latch (n : Fin 4) (s : State) (m : Master) : ((actLane new due k n s).au.get m).latch = (s.au.get m).latch := by
  unfold actLane
  split
  · rw [State.raise_get]
    exact (MasterSet.record_kept ..).2.2
  · rfl

theorem actLane_level (n : Fin 4) (s : State) (m : Master) (j : EventKind) :
    ((actLane new due k n s).au.get m).level j = (s.au.get m).level j := by
  unfold actLane
  split
  · rw [State.raise_get]
    exact MasterSet.record_level ..
  · rfl

theorem mem_actLane_pending {n : Fin 4} {s : State} {m : Master} {e : Event} (latch : (s.au.get m).latch = none) :
    e ∈ ((actLane new due k n s).au.get m).pending ↔ e ∈ (s.au.get m).pending ∨
      (e = ⟨k, .lane n⟩ ∧ due n (s.lane n) = true ∧ 0 < (s.au.get m).level k) := by
  unfold actLane
  split
  · next yes =>
    rw [State.raise_get]
    refine (MasterSet.mem_record_pending latch).trans ?_
    simp [yes]
  · next no => simp [no]

theorem actLanes_frame (l : List (Fin 4)) : ∀ s : State, s.LaneChange (actLanes new due k l s) := by
  induction l with
  | nil => exact fun s => ⟨_, _, rfl⟩
  | cons n t ih => exact fun s => (actLane_frame new due k n s).trans (ih _)

/-- Each lane of the list takes its new value, and every other lane stays as it was. -/
theorem actLanes_lane {l : List (Fin 4)} (distinct : l.Nodup) (m : Fin 4) : ∀ s : State,
    (actLanes new due k l s).lane m = if m ∈ l then new m (s.lane m) else s.lane m := by
  induction l with
  | nil => exact fun s => rfl
  | cons n t ih =>
    intro s
    obtain ⟨apart, distinct⟩ := List.nodup_cons.mp distinct
    show (actLanes new due k t (actLane new due k n s)).lane m = _
    rw [ih distinct, actLane_lane]
    obtain rfl | other := eq_or_ne n m
    · simp [apart]
    · simp [other, other.symm]

/-- Outside a read, a master's pending set gains the pairs of the lanes whose action was due, at a level above 0. -/
theorem mem_actLanes_pending {l : List (Fin 4)} (distinct : l.Nodup) {m : Master} {e : Event} : ∀ s : State,
    (s.au.get m).latch = none → (e ∈ ((actLanes new due k l s).au.get m).pending ↔ e ∈ (s.au.get m).pending ∨
      ∃ n ∈ l, e = ⟨k, .lane n⟩ ∧ due n (s.lane n) = true ∧ 0 < (s.au.get m).level k) := by
  induction l with
  | nil => simp [actLanes]
  | cons n t ih =>
    intro s latch
    obtain ⟨apart, distinct⟩ := List.nodup_cons.mp distinct
    have kept : ∀ j ∈ t, (actLane new due k n s).lane j = s.lane j := fun j mem => by
      rw [actLane_lane, if_neg (ne_of_mem_of_not_mem mem apart).symm]
    show e ∈ ((actLanes new due k t (actLane new due k n s)).au.get m).pending ↔ _
    rw [ih distinct _ ((actLane_latch ..).trans latch), mem_actLane_pending new due k latch, or_assoc]
    simp only [List.mem_cons, exists_eq_or_imp, actLane_level]
    refine or_congr_right (or_congr_right (exists_congr fun j => and_congr_right fun mem => ?_))
    rw [kept j mem]

end

/-! ### The silence count (R50) -/

/-- R50: a lane that is counted at a frame start. -/
def Lane.counts (l : Lane) : Bool := l.active && !l.held

/-- R50: a lane whose counter reaches its silence limit at this frame start. -/
def Lane.falls (l : Lane) : Bool := l.counts && decide (l.limit ≤ l.counter + 1)

/-- R50: a lane after a frame start. -/
def Lane.counted (l : Lane) : Lane :=
  if l.counts then { l with counter := l.counter + 1, active := !l.falls } else l

theorem Lane.counts_iff {l : Lane} : l.counts = true ↔ l.active = true ∧ l.held = false := by simp [Lane.counts]

theorem Lane.falls_iff {l : Lane} :
    l.falls = true ↔ l.active = true ∧ l.held = false ∧ l.limit ≤ l.counter + 1 := by
  simp [Lane.falls, Lane.counts_iff, and_assoc]

theorem countSilence_of_falls {n : Fin 4} {s : State} (h : (s.lane n).falls = true) : countSilence n s =
    (s.updLane n (fun l => { l with counter := l.counter + 1, active := false })).raise .laneSilent (.lane n) := by
  obtain ⟨active, unheld, reached⟩ := Lane.falls_iff.mp h
  exact (if_pos (Lane.counts_iff.mpr ⟨active, unheld⟩)).trans (if_pos reached)

theorem countSilence_of_counts {n : Fin 4} {s : State} (h : (s.lane n).counts = true) (below : (s.lane n).falls = false) :
    countSilence n s = s.updLane n (fun l => { l with counter := l.counter + 1 }) :=
  (if_pos h).trans (if_neg (by simpa [Lane.falls, h] using below))

theorem countSilence_of_idle {n : Fin 4} {s : State} (h : (s.lane n).counts = false) : countSilence n s = s :=
  if_neg (by rw [show ((s.lane n).active && !(s.lane n).held) = false from h]; exact Bool.false_ne_true)

theorem countSilence_eq (n : Fin 4) (s : State) :
    countSilence n s = actLane (fun _ => Lane.counted) (fun _ => Lane.falls) .laneSilent n s := by
  unfold actLane
  by_cases counts : (s.lane n).counts = true
  · by_cases falls : (s.lane n).falls = true
    · rw [countSilence_of_falls falls, if_pos falls]
      congr 1
      exact State.updLane_congr (by simp [Lane.counted, counts, falls])
    · rw [countSilence_of_counts counts (by simpa using falls), if_neg falls]
      exact State.updLane_congr (by simp [Lane.counted, counts, falls, Lane.counts_iff.mp counts])
  · rw [countSilence_of_idle (by simpa using counts), if_neg (by simp [Lane.falls, counts])]
    exact (State.updLane_same (by simp [Lane.counted, counts])).symm

/-- R50: the frame start of the feed link counts the four lanes in order. -/
theorem feedFrameStart_eq (s : State) : feedFrameStart s =
    actLanes (fun _ => Lane.counted) (fun _ => Lane.falls) .laneSilent (List.finRange 4) s := by
  unfold feedFrameStart
  simp only [countSilence_eq]
  rfl

/-- Settles O23: the four lanes are counted one after another, and the row counts one lane when it falls silent. -/
theorem silenceCount : Obligations.SilenceCount := by
  unfold Obligations.SilenceCount
  have lanes : ∀ (s : State) (n : Fin 4), (feedFrameStart s).lane n = (s.lane n).counted := fun s n => by
    rw [feedFrameStart_eq, actLanes_lane _ _ _ (List.nodup_finRange 4), if_pos (List.mem_finRange n)]
  refine ⟨fun s n => ⟨fun active unheld => ?_, fun still => ?_⟩, fun s m e latch => ?_,
    fun s n => ⟨fun due => ?_, fun idle => ?_⟩⟩
  · have counts : (s.lane n).counts = true := Lane.counts_iff.mpr ⟨active, unheld⟩
    rw [lanes, Lane.counted, if_pos counts]
    simp only [Lane.falls, counts, Bool.true_and, ← decide_not, not_le]
  · rw [lanes, Lane.counted, if_neg (fun counts => ?_)]
    obtain ⟨active, unheld⟩ := Lane.counts_iff.mp counts
    simp [active, unheld] at still
  · rw [feedFrameStart_eq, mem_actLanes_pending _ _ _ (List.nodup_finRange 4) s latch]
    simp only [List.mem_finRange, true_and, Lane.falls_iff, and_assoc]
  · have falls := Lane.falls_iff.mpr due
    have row : silenceLane n s = countSilence n s := if_pos falls
    exact congrArg Host.Outcome.next (row.trans (countSilence_of_falls falls))
  · exact congrArg Host.Outcome.next (if_neg (fun falls => idle (Lane.falls_iff.mp falls)))

/-! ### Lane commands -/

theorem laneCommand_fin (n : Fin 4) (f : Fin 4 → State → State) (s : State) :
    laneCommand (n.val + 1) f s = (good, f n s) := by rw [laneCommand, laneOf_fin]

theorem laneOf_outside {lane : Nat} (h : lane = 0 ∨ 4 < lane) : laneOf lane = none := by
  have none : ¬ (laneOf lane).isSome = true := fun some => by
    have := laneOf_isSome.mp some
    omega
  simpa using none

theorem laneCommand_outside {lane : Nat} (h : lane = 0 ∨ 4 < lane) (f : Fin 4 → State → State) (s : State) :
    laneCommand lane f s = (badParam, s) := by rw [laneCommand, laneOf_outside h]

theorem panelLaneCommand_fin (n : Fin 4) (f : Fin 4 → State → State) (s : State) :
    panelLaneCommand (n.val + 1) f s = f n s := by rw [panelLaneCommand, laneOf_fin]

theorem panelLaneCommand_outside {lane : Nat} (h : lane = 0 ∨ 4 < lane) (f : Fin 4 → State → State) (s : State) :
    panelLaneCommand lane f s = s.raise .commandRefused (.master .panel) := by rw [panelLaneCommand, laneOf_outside h]

theorem releaseLink_fault {s : State} (h : s.fli.fault = true) :
    releaseLink s = { s with fli := { s.fli with fault := false, bad := 0 } } := if_pos h

theorem releaseLink_no_fault {s : State} (h : s.fli.fault = false) : releaseLink s = s := if_neg (by simp [h])

theorem setSilenceLimit_inside {limit : Nat} (low : 1 ≤ limit) (high : limit ≤ 65535) (lane : Nat) (s : State) :
    setSilenceLimit lane limit s = laneCommand lane (fun n s => s.updLane n (fun l => { l with limit := limit })) s :=
  if_pos ⟨low, high⟩

theorem setSilenceLimit_outside {limit : Nat} (h : limit = 0 ∨ 65535 < limit) (lane : Nat) (s : State) :
    setSilenceLimit lane limit s = (badParam, s) := if_neg (by omega)

theorem whenRunning_running {s : State} (h : s.run = .running) (f : State → State) : whenRunning f s = f s := if_pos h

/-- Settles O22: each command through the owner's answer (R170), and each panel command while the device runs (R177). -/
theorem laneCommands : Obligations.LaneCommands := by
  unfold Obligations.LaneCommands
  refine ⟨fun s n h k zero => ?_, fun s n run => ?_, fun s lane h outside k zero => ?_⟩
  · have ends : ∀ {c v w} {t : State}, dataUse c = .none →
        commandPhase c h.dataLength (s.takes .idle h c) = (.answer v w, t.takes .idle h c) →
        Host.Outcome.next (ρ := Refusal) (φ := Fault) (edCommand h c s) = .next (t.answers h c v w) :=
      fun use phase => congrArg Host.Outcome.next (edCommand_answer k use zero phase)
    refine ⟨ends rfl (laneCommand_fin ..), ends rfl (laneCommand_fin ..), ends rfl (laneCommand_fin ..), fun fault => ?_,
      fun none => ?_, fun limit low high => ?_, fun limit out => ?_⟩
    · exact ends rfl (congrArg (Prod.mk good) (releaseLink_fault fault))
    · exact ends rfl (congrArg (Prod.mk good) (releaseLink_no_fault none))
    · exact ends rfl ((setSilenceLimit_inside low high ..).trans (laneCommand_fin ..))
    · exact ends rfl (setSilenceLimit_outside out ..)
  · have runs : ∀ {f : State → State} {t : State}, f s = t →
        Host.Outcome.next (ρ := Refusal) (φ := Fault) (whenRunning f s) = .next t :=
      fun e => congrArg Host.Outcome.next ((whenRunning_running run _).trans e)
    exact ⟨runs (panelLaneCommand_fin ..), runs (panelLaneCommand_fin ..), fun fault => runs (releaseLink_fault fault),
      fun none => runs (releaseLink_no_fault none)⟩
  · have ends : ∀ {c}, dataUse c = .none →
        commandPhase c h.dataLength (s.takes .idle h c) = (badParam, s.takes .idle h c) →
        Host.Outcome.next (ρ := Refusal) (φ := Fault) (edCommand h c s) = .next (s.answers h c .badParam noValues) :=
      fun use phase => congrArg Host.Outcome.next (edCommand_answer k use zero phase)
    have runs : ∀ f, Host.Outcome.next (ρ := Refusal) (φ := Fault) (whenRunning (panelLaneCommand lane f) s) =
        .next (s.raise .commandRefused (.master .panel)) :=
      fun f => congrArg Host.Outcome.next ((whenRunning_running k.1.1 _).trans (panelLaneCommand_outside outside f s))
    refine ⟨ends rfl (laneCommand_outside outside ..), ends rfl (laneCommand_outside outside ..),
      ends rfl (laneCommand_outside outside ..), fun limit => ends rfl ?_, runs holdLane, runs releaseLane⟩
    by_cases inside : 1 ≤ limit ∧ limit ≤ 65535
    · exact (setSilenceLimit_inside inside.1 inside.2 ..).trans (laneCommand_outside outside ..)
    · exact setSilenceLimit_outside (by omega) ..

/-! ### The update engine (R58 to R61) -/

/-- R58: a lane's place in the rotation is its distance from the pointer, and those before it are nearer. -/
theorem rotation_split : ∀ p n : Fin 4,
    rotation p = (rotation p).take (n - p - 1).val ++ n :: (rotation p).drop ((n - p - 1).val + 1) ∧
      ∀ m ∈ (rotation p).take (n - p - 1).val, (m - p - 1).val < (n - p - 1).val := by
  decide

/-- R58: the lane found is the nearest behind the pointer of those that pass. -/
theorem find_rotation {p n : Fin 4} {f : Fin 4 → Bool} (passes : f n = true)
    (nearest : ∀ m, f m = true → (n - p - 1).val ≤ (m - p - 1).val) : (rotation p).find? f = some n := by
  obtain ⟨split, before⟩ := rotation_split p n
  refine List.find?_eq_some_iff_append.mpr ⟨passes, _, _, split, fun m mem => ?_⟩
  by_contra passed
  have := nearest m (by simpa using passed)
  have := before m mem
  omega

/-- R58: the state whose turn it is to apply the head record of lane `n`. -/
def State.turned (s : State) (n : Fin 4) (rest : List Update) : State :=
  { s.updLane n (fun l => { l with queue := rest }) with uePointer := n }

theorem engineTurn_head {s : State} {n : Fin 4} {u : Update} {rest : List Update} (head : (s.lane n).queue = u :: rest)
    (nearest : ∀ m : Fin 4, (s.lane m).queue ≠ [] → (n - s.uePointer - 1).val ≤ (m - s.uePointer - 1).val) :
    engineTurn s = applyUpdate n u (s.turned n rest) := by
  have found : (rotation s.uePointer).find? (fun n => !(s.lane n).queue.isEmpty) = some n :=
    find_rotation (by simp [head]) (fun m passes => nearest m (by simpa using passes))
  unfold engineTurn
  simp only [found, head]
  rfl

theorem engineTurn_empty {s : State} (h : ∀ n, (s.lane n).queue = []) : engineTurn s = s := by
  have none : (rotation s.uePointer).find? (fun n => !(s.lane n).queue.isEmpty) = none := by simp [h]
  unfold engineTurn
  rw [none]

/-- R59: the five kinds of update records. -/
theorem kind_known_iff (k : Byte) :
    (k = kindTrade ∨ k = kindReference ∨ k = kindHalt ∨ k = kindResume ∨ k = kindNoTrade) ↔
      ¬ (k = 0 ∨ 5 < k.toNat) := by
  unfold kindTrade kindReference kindHalt kindResume kindNoTrade
  bv_omega

theorem applyUpdate_unknown {n : Fin 4} {u : Update} {s : State} (h : u.kind = 0 ∨ 5 < u.kind.toNat) :
    applyUpdate n u s = s.raise .updateDiscarded (.lane n) := if_pos (by rw [kind_known_iff]; exact not_not_intro h)

theorem applyUpdate_unresolved {n : Fin 4} {u : Update} {s : State} (h : s.resolvesQuote ⟨u.index, u.gen⟩ = false) :
    applyUpdate n u s = s.raise .updateDiscarded (.lane n) := by
  unfold applyUpdate
  simp [h]

section

variable {n : Fin 4} {u : Update} {s : State} {i : Fin 1024} (index : u.index = i.val)
  (resolves : s.resolvesQuote ⟨u.index, u.gen⟩ = true)

include index resolves

theorem applyUpdate_other_lane (lane : (s.quote i).lane ≠ some n) :
    applyUpdate n u s = s.raise .updateDiscarded (.lane n) := by
  unfold applyUpdate
  simp [resolves, index ▸ s.quoteAt_fin i, lane]

variable (lane : (s.quote i).lane = some n)

include lane

theorem applyUpdate_bad_price (kind : u.kind = 1 ∨ u.kind = 2)
    (price : normalise u.scale (s.quote i).scale u.mantissa = none) : applyUpdate n u s = s.raise .badPrice (.lane n) := by
  unfold applyUpdate
  obtain kind | kind := kind <;>
    simp [resolves, index ▸ s.quoteAt_fin i, lane, kind, price, kindTrade, kindReference]

theorem applyUpdate_trade {v : Int} (kind : u.kind = 1)
    (price : normalise u.scale (s.quote i).scale u.mantissa = some v) :
    applyUpdate n u s = s.updQuote i (fun q => { q with pendLast := some v, dirty := true }) := by
  unfold applyUpdate
  simp [resolves, index ▸ s.quoteAt_fin i, index ▸ s.updQuoteAt_fin i, lane, kind, price, kindTrade]

theorem applyUpdate_reference {v : Int} (kind : u.kind = 2)
    (price : normalise u.scale (s.quote i).scale u.mantissa = some v) :
    applyUpdate n u s = s.updQuote i (fun q => { q with pendRef := some v, dirty := true }) := by
  unfold applyUpdate
  simp [resolves, index ▸ s.quoteAt_fin i, index ▸ s.updQuoteAt_fin i, lane, kind, price, kindTrade, kindReference]

theorem applyUpdate_halt (kind : u.kind = 3) :
    applyUpdate n u s = s.updQuote i (fun q => { q with pendHalted := true, dirty := true }) := by
  unfold applyUpdate
  simp [resolves, index ▸ s.quoteAt_fin i, index ▸ s.updQuoteAt_fin i, lane, kind, kindTrade, kindReference, kindHalt]

theorem applyUpdate_resume (kind : u.kind = 4) :
    applyUpdate n u s = s.updQuote i (fun q => { q with pendHalted := false, dirty := true }) := by
  unfold applyUpdate
  simp [resolves, index ▸ s.quoteAt_fin i, index ▸ s.updQuoteAt_fin i, lane, kind, kindTrade, kindReference, kindHalt,
    kindResume]

theorem applyUpdate_no_trade (kind : u.kind = 5) :
    applyUpdate n u s = s.updQuote i (fun q => { q with pendLast := none, dirty := true }) := by
  unfold applyUpdate
  simp [resolves, index ▸ s.quoteAt_fin i, index ▸ s.updQuoteAt_fin i, lane, kind, kindTrade, kindReference, kindHalt,
    kindResume, kindNoTrade]

end

/-- Settles O21: the head record of the lane found is applied or discarded by the checks of R59 in their order. -/
theorem updateEngineTurn : Obligations.UpdateEngineTurn := by
  unfold Obligations.UpdateEngineTurn
  refine ⟨fun s empty => congrArg Host.Outcome.next (engineTurn_empty empty), fun s n u rest head nearest => ?_⟩
  intro t turn
  have applied : ∀ {t' : State}, applyUpdate n u t = t' → turn = .next t' := fun e =>
    congrArg Host.Outcome.next ((engineTurn_head head nearest).trans e)
  refine ⟨fun kind => applied (applyUpdate_unknown kind), fun unresolved => applied (applyUpdate_unresolved unresolved),
    fun i index resolves => ⟨fun other => applied (applyUpdate_other_lane index resolves other), fun lane => ?_⟩⟩
  exact ⟨fun kind bad => applied (applyUpdate_bad_price index resolves lane kind bad),
    fun v kind price => applied (applyUpdate_trade (s := t) index resolves lane kind price),
    fun v kind price => applied (applyUpdate_reference (s := t) index resolves lane kind price),
    fun kind => applied (applyUpdate_halt index resolves lane kind),
    fun kind => applied (applyUpdate_resume index resolves lane kind),
    fun kind => applied (applyUpdate_no_trade index resolves lane kind)⟩

/-! ### FEED TX (R56, R168, R189) -/

/-- R168: the replies that stand before a record are sent with it. -/
theorem throughRecord_replies (codes record : List Byte) (own : Bool) (rest : List TxItem) :
    throughRecord (codes.map TxItem.reply ++ .record record own :: rest) = some (codes ++ record, own, rest) := by
  induction codes with
  | nil => rfl
  | cons c codes ih =>
    show (throughRecord (codes.map TxItem.reply ++ .record record own :: rest)).map _ = _
    rw [ih]
    rfl

theorem throughRecord_none (codes : List Byte) : throughRecord (codes.map TxItem.reply) = none := by
  induction codes with
  | nil => rfl
  | cons c codes ih =>
    show (throughRecord (codes.map TxItem.reply)).map _ = _
    rw [ih]
    rfl

theorem exec_feedStatusRecordSent {s : State} {sent : List Byte} {own : Bool} {rest : List TxItem}
    (h : throughRecord s.fli.tx = some (sent, own, rest)) : exec .feedStatusRecordSent s =
      .next (endRecord own { s with fli := { s.fli with tx := rest, txOut := sent } }) := by
  show execFeedStatusRecordSent s = _
  unfold execFeedStatusRecordSent
  rw [h]

theorem exec_feedStatusRecordSent_none {s : State} (h : throughRecord s.fli.tx = none) :
    exec .feedStatusRecordSent s = .next s := by
  show execFeedStatusRecordSent s = _
  unfold execFeedStatusRecordSent
  rw [h]

/-- R168: the idle step sends the next waiting byte. -/
theorem step_idle {s : State} (h : s.pending = []) : step s = .next (sendFeedByte s) := by
  unfold step
  rw [h]

/-- Settles O20: FEED TX sends through the first record, whose end completes the read it began, at once or byte by byte. -/
theorem statusRecordSent : Obligations.StatusRecordSent := by
  unfold Obligations.StatusRecordSent
  refine ⟨fun s codes record rest latched tx latch => ?_, fun s codes record rest tx => ?_, fun s codes tx => ?_,
    fun s c own rest idle => ⟨fun tx => ?_, fun d bytes tx => ?_, fun tx => ?_⟩⟩
  · refine ⟨_, exec_feedStatusRecordSent (tx ▸ throughRecord_replies ..), rfl, rfl, fun e => ?_⟩
    exact mem_completeRead_pending latch e
  · exact exec_feedStatusRecordSent (tx ▸ throughRecord_replies ..)
  · exact exec_feedStatusRecordSent_none (tx ▸ throughRecord_none codes)
  · rw [step_idle idle, sendFeedByte, tx]
  · rw [step_idle idle, sendFeedByte, tx]
  · rw [step_idle idle, sendFeedByte, tx, exec_feedStatusRecordSent (tx ▸ throughRecord_replies [] [c] own rest)]
    rfl

end Sys2Proof.Machine

/-! SUPPORT. The feed link's packets: framing from row to row, the checks of a framed packet, its CRC and its records, the verdicts,
and the control records of lane 0 (R43 to R47, R51, R54 to R57, R167, R182, R190). -/

namespace Sys2Proof.Machine

/-! ### Framing (R167) -/

theorem exec_feedPacket {s : State} (bytes : List Byte) (h : s.run ≠ .held) :
    exec (.feedPacket bytes) s = .next (feedBytes bytes s) := congrArg Host.Outcome.next (if_neg h)

theorem exec_feedPacket_held {s : State} (bytes : List Byte) (h : s.run = .held) : exec (.feedPacket bytes) s = .next s :=
  congrArg Host.Outcome.next (if_pos h)

theorem feedBytes_append (first second : List Byte) : ∀ s : State,
    feedBytes (first ++ second) s = feedBytes second (feedBytes first s) := by
  induction first with
  | nil => exact fun s => rfl
  | cons b t ih => exact fun s => ih (feedByte b s)

/-- The state with the framing of FEED RX in `rx`. -/
def State.framing (s : State) (rx : Option (List Byte)) : State := { s with fli := { s.fli with rx := rx } }

theorem State.framing_same {s : State} {rx : Option (List Byte)} (h : s.fli.rx = rx) : s.framing rx = s := by
  subst h
  rfl

/-- In HUNT the delimiter begins a packet. -/
theorem feedByte_delimiter {s : State} (h : s.fli.rx = none) : feedByte 0x7E s = s.framing (some []) := by
  unfold feedByte
  rw [h]
  rfl

/-- In HUNT every other byte is discarded. -/
theorem feedByte_noise {s : State} {b : Byte} (h : s.fli.rx = none) (other : b ≠ 0x7E) : feedByte b s = s := by
  unfold feedByte
  rw [h]
  exact if_neg other

theorem feedBytes_noise {bytes : List Byte} {s : State} (h : s.fli.rx = none) (other : (0x7E : Byte) ∉ bytes) :
    feedBytes bytes s = s := by
  induction bytes with
  | nil => rfl
  | cons b t ih =>
    show feedBytes t (feedByte b s) = s
    rw [feedByte_noise h (fun e => other (e ▸ List.mem_cons_self)), ih (fun mem => other (List.mem_cons_of_mem b mem))]

theorem feedByte_within (pre : List Byte) (b : Byte) (s : State) : feedByte b (s.framing (some pre)) =
    if packetComplete (pre ++ [b]) = true then judgePacket (pre ++ [b]) (s.framing none)
    else s.framing (some (pre ++ [b])) := rfl

theorem countOk_iff {n : Nat} : countOk n = true ↔ 1 ≤ n ∧ n ≤ 32 := by simp [countOk]

/-- The bytes after a delimiter do not make a whole packet yet. -/
def unfinished (bs : List Byte) : Prop :=
  bs.length < 2 ∨
    (1 ≤ (byteAt bs 1).toNat ∧ (byteAt bs 1).toNat ≤ 32 ∧ bs.length < 4 + 12 * (byteAt bs 1).toNat)

theorem packetComplete_of_unfinished {bs : List Byte} (h : unfinished bs) : packetComplete bs = false := by
  unfold packetComplete
  obtain short | ⟨low, high, within⟩ := h
  · simp [short]
  · simp [countOk_iff.mpr ⟨low, high⟩, within.ne]

theorem byteAt_append {bs : List Byte} {i : Nat} (h : i < bs.length) (cs : List Byte) :
    byteAt (bs ++ cs) i = byteAt bs i := List.getD_append _ _ _ _ h

/-- A packet that is not whole was not whole one byte before. -/
theorem unfinished_init {bs : List Byte} {b : Byte} (h : unfinished (bs ++ [b])) : unfinished bs := by
  by_cases two : bs.length < 2
  · exact .inl two
  · unfold unfinished at h
    rw [byteAt_append (by omega), List.length_append, List.length_singleton] at h
    exact .inr ⟨by omega, by omega, by omega⟩

/-- Bytes that do not make a whole packet are kept. -/
theorem feedBytes_unfinished (s : State) {bs : List Byte} (h : unfinished bs) :
    feedBytes bs (s.framing (some [])) = s.framing (some bs) := by
  induction bs using List.reverseRecOn with
  | nil => rfl
  | append_singleton bs b ih =>
    rw [feedBytes_append, ih (unfinished_init h)]
    show feedByte b (s.framing (some bs)) = _
    rw [feedByte_within, packetComplete_of_unfinished h]
    rfl

/-- The byte that makes a packet whole hands it to the verdict. -/
theorem feedBytes_whole (s : State) {bs : List Byte} {b : Byte} (before : unfinished bs)
    (whole : packetComplete (bs ++ [b]) = true) :
    feedBytes (bs ++ [b]) (s.framing (some [])) = judgePacket (bs ++ [b]) (s.framing none) := by
  rw [feedBytes_append, feedBytes_unfinished s before]
  show feedByte b (s.framing (some bs)) = _
  rw [feedByte_within, if_pos whole]

theorem exec_feedPacket_unfinished {s : State} {bytes : List Byte} (run : s.run ≠ .held) (rx : s.fli.rx = none)
    (h : unfinished bytes) : exec (.feedPacket (0x7E :: bytes)) s = .next (s.framing (some bytes)) := by
  rw [exec_feedPacket _ run]
  show Host.Outcome.next (feedBytes bytes (feedByte 0x7E s)) = _
  rw [feedByte_delimiter rx, feedBytes_unfinished s h]

section

variable {s : State} {lane count : Byte} {rest : List Byte}

/-- A packet with a count of 1 to 32 is whole with its records and its CRC; with another count it is whole at once. -/
theorem exec_feedPacket_framed (run : s.run ≠ .held) (rx : s.fli.rx = none)
    (counted : 1 ≤ count.toNat ∧ count.toNat ≤ 32 → rest.length = 12 * count.toNat + 2)
    (uncounted : ¬ (1 ≤ count.toNat ∧ count.toNat ≤ 32) → rest = []) :
    exec (.feedPacket (0x7E :: lane :: count :: rest)) s = .next (judgePacket (lane :: count :: rest) s) := by
  have whole : packetComplete (lane :: count :: rest) = true := by
    unfold packetComplete
    by_cases ok : 1 ≤ count.toNat ∧ count.toNat ≤ 32
    · have := counted ok
      simp [byteAt]
      omega
    · have := mt countOk_iff.mp ok
      simp [byteAt, this]
  obtain ⟨bs, b, split⟩ : ∃ bs b, lane :: count :: rest = bs ++ [b] :=
    ⟨_, _, (List.dropLast_append_getLast (List.cons_ne_nil _ _)).symm⟩
  have length : bs.length = rest.length + 1 := by simpa using (congrArg List.length split).symm
  have before : unfinished bs := by
    by_cases ok : 1 ≤ count.toNat ∧ count.toNat ≤ 32
    · have size := counted ok
      have second : byteAt bs 1 = count := by
        rw [← byteAt_append (by omega) [b], ← split]
        rfl
      refine .inr ?_
      rw [second]
      exact ⟨ok.1, ok.2, by omega⟩
    · exact .inl (by rw [length, uncounted ok]; decide)
  rw [exec_feedPacket _ run]
  show Host.Outcome.next (feedBytes (lane :: count :: rest) (feedByte 0x7E s)) = _
  rw [feedByte_delimiter rx, split, feedBytes_whole s before (split ▸ whole), State.framing_same rx]

end

/-! ### What the feed link changes -/

theorem State.LaneChange.refl (s : State) : s.LaneChange s := ⟨_, _, rfl⟩

theorem State.LaneChange.run {s t : State} (h : s.LaneChange t) : t.run = s.run := by
  obtain ⟨_, _, rfl⟩ := h
  rfl

theorem State.LaneChange.rx {s t : State} (h : s.LaneChange t) : t.fli.rx = s.fli.rx := by
  obtain ⟨_, _, rfl⟩ := h
  rfl

theorem State.LaneChange.tx {s t : State} (h : s.LaneChange t) : t.fli.tx = s.fli.tx := by
  obtain ⟨_, _, rfl⟩ := h
  rfl

/-- R51: a lane that is heard from. -/
def Lane.heard (l : Lane) : Lane := { l with active := true, counter := 0 }

theorem hearLane_of_active {n : Fin 4} {s : State} (h : (s.lane n).active = true) : hearLane n s = s.updLane n Lane.heard := by
  refine (if_pos h).trans (State.updLane_congr ?_)
  rw [Lane.heard, ← h]

theorem hearLane_of_silent {n : Fin 4} {s : State} (h : (s.lane n).active = false) :
    hearLane n s = (s.updLane n Lane.heard).raise .laneActive (.lane n) := if_neg (by simp [h])

theorem hearLane_eq (n : Fin 4) (s : State) :
    hearLane n s = actLane (fun _ => Lane.heard) (fun _ l => !l.active) .laneActive n s := by
  unfold actLane
  cases h : (s.lane n).active
  · exact (hearLane_of_silent h).trans (if_pos (by simp [h])).symm
  · exact (hearLane_of_active h).trans (if_neg (by simp [h])).symm

/-- R55: a HEARTBEAT hears the lanes that its mask names. -/
theorem heartbeat_eq (mask : Byte) (s : State) : heartbeat mask s =
    actLanes (fun _ => Lane.heard) (fun _ l => !l.active) .laneActive
      ((List.finRange 4).filter (fun n => mask.getLsbD n.val)) s := by
  unfold heartbeat actLanes
  rw [List.foldl_filter]
  simp only [← hearLane_eq]
  rfl

theorem laneChange_serveControls (rs : List (List Byte)) : ∀ s : State, s.LaneChange (serveControls rs s).2 := by
  induction rs with
  | nil => exact State.LaneChange.refl
  | cons r t ih =>
    intro s
    unfold serveControls
    split
    · rw [heartbeat_eq]
      exact (actLanes_frame _ _ _ _ s).trans (ih _)
    · split
      · exact State.LaneChange.trans ⟨_, _, rfl⟩ (ih _)
      · refine State.LaneChange.trans ?_ (ih _)
        unfold statusQuery
        split
        · exact .refl s
        · exact ⟨_, _, rfl⟩

theorem judgePacket_run (bs : List Byte) (s : State) : (judgePacket bs s).run = s.run := by
  have bad : (badVerdict s).run = s.run := by
    unfold badVerdict
    split
    · rfl
    · split <;> rfl
  unfold judgePacket
  dsimp only
  split
  · rfl
  · rfl
  · split
    · exact bad
    · split
      · split
        · exact (laneChange_serveControls _ s).run
        · exact bad
      · next n _ =>
        unfold judgeData
        split
        · rfl
        · split
          · rfl
          · split
            · rfl
            · show (hearLane n _).run = _
              rw [hearLane_eq]
              exact (actLane_frame ..).run

theorem feedBytes_run (bs : List Byte) : ∀ s : State, (feedBytes bs s).run = s.run := by
  induction bs with
  | nil => exact fun s => rfl
  | cons b t ih =>
    intro s
    refine (ih (feedByte b s)).trans ?_
    unfold feedByte
    split
    · split <;> rfl
    · split
      · exact judgePacket_run ..
      · rfl

/-! ### The CRC and the records -/

/-- R181: two bytes spell a number exactly when they are its bytes. -/
theorem natOf_eq_iff {l : List Byte} {v : Nat} (two : l.length = 2) (h : v < 65536) : natOf l = v ↔ l = bytesOf 2 v := by
  obtain ⟨a, b, rfl⟩ := List.length_eq_two.mp two
  refine ⟨fun spelled => ?_, fun same => same ▸ natOf_bytesOf_two h⟩
  have number : a.toNat * 256 + b.toNat = v := by simpa [natOf] using spelled
  have high : a = BitVec.ofNat 8 (v / 256 ^ 1) := by
    apply BitVec.eq_of_toNat_eq
    rw [BitVec.toNat_ofNat]
    omega
  have low : b = BitVec.ofNat 8 (v / 256 ^ 0) := by
    apply BitVec.eq_of_toNat_eq
    rw [BitVec.toNat_ofNat]
    omega
  rw [high, low]
  rfl

/-- R182: `n` records and the two bytes of a CRC. -/
theorem recordsOf_flatten {records : List (List Byte)} (h : ∀ r ∈ records, r.length = 12) (tail : List Byte) :
    recordsOf records.length (records.flatten ++ tail) = records := by
  induction records with
  | nil => rfl
  | cons r t ih =>
    have twelve : r.length = 12 := h r List.mem_cons_self
    show (((r :: t).flatten ++ tail).take 12) :: recordsOf t.length (((r :: t).flatten ++ tail).drop 12) = _
    rw [List.flatten_cons, List.append_assoc, List.take_left' twelve, List.drop_left' twelve,
      ih (fun x mem => h x (List.mem_cons_of_mem r mem))]

theorem recordsOf_length : ∀ (n : Nat) (bs : List Byte), (recordsOf n bs).length = n
  | 0, _ => rfl
  | n + 1, _ => congrArg (· + 1) (recordsOf_length n _)

/-- The kind byte of a record stands at its place in the packet. -/
theorem recordsOf_kind : ∀ (n i : Nat) (bs : List Byte) (h : i < (recordsOf n bs).length),
    byteAt ((recordsOf n bs)[i]) 0 = byteAt bs (12 * i)
  | n + 1, 0, bs, _ => by simp [recordsOf, byteAt, List.getD_eq_getElem?_getD]
  | n + 1, i + 1, bs, h => by
    have inner : i < (recordsOf n (bs.drop 12)).length := Nat.lt_of_succ_lt_succ h
    refine (recordsOf_kind n i (bs.drop 12) inner).trans ?_
    simp only [byteAt, List.getD_eq_getElem?_getD, List.getElem?_drop]
    congr 2
    omega

/-- Two elements that pass make the filtered list at least two long. -/
theorem two_le_length_filter {α : Type} {l : List α} {p : α → Bool} {i j : Nat} (lt : i < j) (h : j < l.length)
    (first : p l[i] = true) (second : p l[j] = true) : 2 ≤ (l.filter p).length := by
  have low : 0 < (l.take j).countP p :=
    List.countP_pos_iff.mpr ⟨l[i], List.mem_take_iff_getElem.mpr ⟨i, by omega, rfl⟩, first⟩
  have high : 0 < (l.drop j).countP p :=
    List.countP_pos_iff.mpr ⟨l[j], List.mem_drop_iff_getElem.mpr ⟨0, by omega, by simp⟩, second⟩
  rw [← List.countP_eq_length_filter, ← List.take_append_drop j l, List.countP_append]
  omega

theorem controlsOk_iff {rs : List (List Byte)} : controlsOk rs = true ↔
    (∀ r ∈ rs, byteAt r 0 = 0x81 ∨ byteAt r 0 = 0x82 ∨ byteAt r 0 = 0x83) ∧
      (rs.filter (fun r => byteAt r 0 == 0x82)).length ≤ 1 := by
  unfold controlsOk kindHeartbeat kindStatusQuery kindSetThreshold
  rw [Bool.and_eq_true, decide_eq_true_iff]
  simp [or_assoc]

/-- R54: a record of another kind, or two STATUS QUERY records. -/
theorem controlsOk_recordsOf {n : Nat} {bs : List Byte}
    (h : (∃ i, i < n ∧ byteAt bs (12 * i) ≠ 0x81 ∧ byteAt bs (12 * i) ≠ 0x82 ∧ byteAt bs (12 * i) ≠ 0x83) ∨
      ∃ i j, i < j ∧ j < n ∧ byteAt bs (12 * i) = 0x82 ∧ byteAt bs (12 * j) = 0x82) :
    controlsOk (recordsOf n bs) = false := by
  rw [Bool.eq_false_iff]
  intro ok
  obtain ⟨kinds, queries⟩ := controlsOk_iff.mp ok
  obtain ⟨i, lt, other⟩ | ⟨i, j, lt, last, first, second⟩ := h
  · have inside : i < (recordsOf n bs).length := by rwa [recordsOf_length]
    have kind := kinds _ (List.getElem_mem inside)
    rw [recordsOf_kind n i bs inside] at kind
    obtain ⟨no1, no2, no3⟩ := other
    exact kind.elim no1 (fun k => k.elim no2 no3)
  · have inside : j < (recordsOf n bs).length := by rwa [recordsOf_length]
    have := two_le_length_filter (p := fun r => byteAt r 0 == 0x82) lt inside
      (by simpa [recordsOf_kind n i bs (by omega)] using first) (by simpa [recordsOf_kind n j bs inside] using second)
    omega

/-! ### Verdicts -/

/-- The state with this consecutive-bad count and these items on FEED TX. -/
def State.withReplies (s : State) (bad : Nat) (tx : List TxItem) : State :=
  { s with fli := { s.fli with bad := bad, tx := tx } }

theorem otherVerdict_eq (items : List TxItem) (s : State) : otherVerdict items s = s.withReplies 0 (s.fli.tx ++ items) := rfl

theorem badVerdict_fault {s : State} (h : s.fli.fault = true) : badVerdict s = queueTx [.reply replyBad] s :=
  congrArg (queueTx _) (if_pos h)

theorem badVerdict_below {s : State} (h : s.fli.fault = false) (below : s.fli.bad + 1 < 8) :
    badVerdict s = s.withReplies (s.fli.bad + 1) (s.fli.tx ++ [.reply replyBad]) :=
  congrArg (queueTx _) ((if_neg (by simp [h])).trans (if_neg (by omega)))

theorem badVerdict_eighth {s : State} (h : s.fli.fault = false) (eighth : 8 ≤ s.fli.bad + 1) :
    badVerdict s = queueTx [.reply replyBad] (({ s with fli := { s.fli with fault := true, bad := 0 } } : State).raise
      .linkFault .none) :=
  congrArg (queueTx _) ((if_neg (by simp [h])).trans (if_pos eighth))

theorem judgePacket_initialising {s : State} (bs : List Byte) (h : s.run = .initialising) :
    judgePacket bs s = otherVerdict [.reply replyNotReady] s := by
  unfold judgePacket
  rw [h]

/-- R43: the first checks of a framed packet. -/
def packetBad (lane count : Byte) (rest : List Byte) : Bool :=
  !countOk count.toNat || decide (4 < lane.toNat) ||
    decide ((crcOf ((lane :: count :: rest).take (2 + 12 * count.toNat))).toNat ≠
      field (lane :: count :: rest) (2 + 12 * count.toNat) 2)

section

variable {s : State} {lane count : Byte} {rest : List Byte}

theorem judgePacket_of_bad (run : s.run = .running) (bad : packetBad lane count rest = true) :
    judgePacket (lane :: count :: rest) s = badVerdict s := by
  unfold judgePacket
  rw [run]
  exact if_pos bad

theorem judgePacket_of_lane {n : Fin 4} (run : s.run = .running) (good : packetBad lane count rest = false)
    (data : laneOf lane.toNat = some n) :
    judgePacket (lane :: count :: rest) s = judgeData n (recordsOf count.toNat rest) s := by
  unfold judgePacket
  rw [run]
  refine (if_neg (fun bad => Bool.false_ne_true (good.symm.trans bad))).trans ?_
  simp only [show laneOf (byteAt (lane :: count :: rest) 0).toNat = some n from data]
  rfl

theorem judgePacket_of_controls (run : s.run = .running) (good : packetBad 0 count rest = false) :
    judgePacket (0 :: count :: rest) s =
      if controlsOk (recordsOf count.toNat rest) = true then
        otherVerdict (.reply replyTaken :: (serveControls (recordsOf count.toNat rest) s).1)
          (serveControls (recordsOf count.toNat rest) s).2
      else badVerdict s := by
  unfold judgePacket
  rw [run]
  exact if_neg (fun bad => Bool.false_ne_true (good.symm.trans bad))

variable (counted : 1 ≤ count.toNat ∧ count.toNat ≤ 32) (length : rest.length = 12 * count.toNat + 2)

include length in
/-- R167: the CRC is judged by its two bytes. -/
theorem crc_matches_iff : (crcOf ((lane :: count :: rest).take (2 + 12 * count.toNat))).toNat =
    field (lane :: count :: rest) (2 + 12 * count.toNat) 2 ↔
      rest.drop (12 * count.toNat) = bytesOf 2 (crcOf (lane :: count :: rest.take (12 * count.toNat))).toNat := by
  have covered : (lane :: count :: rest).take (2 + 12 * count.toNat) = lane :: count :: rest.take (12 * count.toNat) := by
    rw [Nat.add_comm]
    rfl
  have two : (rest.drop (12 * count.toNat)).length = 2 := by
    rw [List.length_drop]
    omega
  have sent : field (lane :: count :: rest) (2 + 12 * count.toNat) 2 = natOf (rest.drop (12 * count.toNat)) := by
    unfold field slice
    rw [Nat.add_comm]
    exact congrArg natOf (List.take_of_length_le two.le)
  rw [covered, sent, eq_comm, natOf_eq_iff two (crcOf _).isLt]

include counted length in
theorem packetBad_iff : packetBad lane count rest = true ↔ 4 < lane.toNat ∨
    rest.drop (12 * count.toNat) ≠ bytesOf 2 (crcOf (lane :: count :: rest.take (12 * count.toNat))).toNat := by
  unfold packetBad
  rw [countOk_iff.mpr counted, Bool.or_eq_true, decide_eq_true_iff, ne_eq, crc_matches_iff length]
  simp

end

/-! ### Good packets -/

theorem recordsOk_singleton {r : List Byte} (h : r.length = 12) : recordsOk [r] :=
  ⟨le_rfl, Nat.le_add_left 1 31, fun x mem => by rw [List.mem_singleton.mp mem, h]⟩

section

variable {s : State} {lane : Byte} {records : List (List Byte)} (run : s.run = .running) (rx : s.fli.rx = none)
  (ok : recordsOk records)

include ok

theorem count_of_recordsOk : (byteOf records.length).toNat = records.length := by
  have := ok.2.1
  simp only [byteOf, BitVec.toNat_ofNat]
  omega

theorem flatten_of_recordsOk : records.flatten.length = 12 * records.length := by
  rw [List.length_flatten, List.map_congr_left ok.2.2]
  simp [Nat.mul_comm]

/-- A packet with a matching CRC passes the first checks when its lane is at most 4. -/
theorem packetBad_goodPacket (low : lane.toNat ≤ 4) : packetBad lane (byteOf records.length)
    (records.flatten ++ bytesOf 2 (crcOf (lane :: byteOf records.length :: records.flatten)).toNat) = false := by
  have count := count_of_recordsOk ok
  have size := flatten_of_recordsOk ok
  rw [Bool.eq_false_iff, ne_eq, packetBad_iff (by rw [count]; exact ⟨ok.1, ok.2.1⟩) (by simp [count, size]), count, ← size]
  simp [low]

include run rx

theorem exec_goodPacket (low : lane.toNat ≤ 4) : ∃ rest, packetBad lane (byteOf records.length) rest = false ∧
    recordsOf (byteOf records.length).toNat rest = records ∧
    exec (.feedPacket (goodPacket lane records)) s = .next (judgePacket (lane :: byteOf records.length :: rest) s) := by
  have count := count_of_recordsOk ok
  refine ⟨_, packetBad_goodPacket ok low, by rw [count]; exact recordsOf_flatten ok.2.2 _, ?_⟩
  exact exec_feedPacket_framed (by simp [run]) rx (fun _ => by simp [count, flatten_of_recordsOk ok])
    (fun no => absurd (count.symm ▸ ⟨ok.1, ok.2.1⟩) no)

theorem exec_dataPacket (n : Fin 4) :
    exec (.feedPacket (goodPacket (byteOf (n.val + 1)) records)) s = .next (judgeData n records s) := by
  have lane : (byteOf (n.val + 1)).toNat = n.val + 1 := by
    simp only [byteOf, BitVec.toNat_ofNat]
    omega
  obtain ⟨rest, good, held, taken⟩ := exec_goodPacket run rx ok (lane := byteOf (n.val + 1)) (by omega)
  rw [taken, judgePacket_of_lane run good (lane ▸ laneOf_fin n), held]

theorem exec_controlPacket (kinds : ∀ r ∈ records, byteAt r 0 = 0x81 ∨ byteAt r 0 = 0x82 ∨ byteAt r 0 = 0x83)
    (queries : (records.filter (fun r => byteAt r 0 == 0x82)).length ≤ 1) :
    exec (.feedPacket (goodPacket 0 records)) s =
      .next (otherVerdict (.reply replyTaken :: (serveControls records s).1) (serveControls records s).2) := by
  obtain ⟨rest, good, held, taken⟩ := exec_goodPacket run rx ok (lane := 0) (by decide)
  rw [taken, judgePacket_of_controls run good, held, if_pos (controlsOk_iff.mpr ⟨kinds, queries⟩)]

end

/-! ### Data packets -/

theorem judgeData_refused {n : Fin 4} {rs : List (List Byte)} {s : State}
    (h : s.fli.fault = true ∨ (s.lane n).held = true) : judgeData n rs s = refusePacket replyHeld n s := by
  unfold judgeData
  split
  · rfl
  · next no => exact if_pos (h.resolve_left no)

section

variable {n : Fin 4} {rs : List (List Byte)} {s : State} (link : s.fli.fault = false) (free : (s.lane n).held = false)

include link free

theorem judgeData_full (full : 512 < (s.lane n).queue.length + rs.length) :
    judgeData n rs s = refusePacket replyFull n s :=
  (if_neg (by simp [link])).trans ((if_neg (by simp [free])).trans (if_pos full))

theorem judgeData_taken (room : (s.lane n).queue.length + rs.length ≤ 512) :
    judgeData n rs s = takePacket n (rs.map updateOf) s :=
  (if_neg (by simp [link])).trans ((if_neg (by simp [free])).trans (if_neg (not_lt.mpr room)))

end

/-- R46, R51: the packet joins the queue, and its lane is heard from. -/
theorem takePacket_eq (n : Fin 4) (us : List Update) (s : State) : takePacket n us s =
    otherVerdict [.reply replyTaken] (if (s.lane n).active then
      s.updLane n (fun l => { l with active := true, counter := 0, queue := l.queue ++ us })
    else (s.updLane n (fun l => { l with active := true, counter := 0, queue := l.queue ++ us })).raise .laneActive
      (.lane n)) := by
  have joined : (s.updLane n (fun l => { l with queue := l.queue ++ us })).lane n =
      { s.lane n with queue := (s.lane n).queue ++ us } := by rw [State.updLane_lane, if_pos rfl]
  unfold takePacket
  congr 1
  cases active : (s.lane n).active
  · rw [hearLane_of_silent (by rw [joined]; exact active), State.updLane_updLane]
    rfl
  · rw [hearLane_of_active (by rw [joined]; exact active), State.updLane_updLane]
    rfl

/-- Settles O17: a good packet passes every check and is taken; framing goes on from row to row. -/
theorem feedPacketTaken : Obligations.FeedPacketTaken := by
  unfold Obligations.FeedPacketTaken
  refine ⟨fun s n records run rx ok link free room => ?_, fun s first second => ?_,
    fun s bytes run rx => ⟨fun noise => ?_, fun h => ?_⟩⟩
  · intro t u
    rw [exec_dataPacket run rx ok, judgeData_taken link free room, takePacket_eq]
    split <;> rfl
  · by_cases run : s.run = .held
    · exact ⟨s, s, exec_feedPacket_held _ run, exec_feedPacket_held _ run, exec_feedPacket_held _ run⟩
    · refine ⟨_, _, exec_feedPacket _ run, exec_feedPacket _ (by rwa [feedBytes_run]), ?_⟩
      rw [exec_feedPacket _ run, feedBytes_append]
  · rw [exec_feedPacket _ run, feedBytes_noise rx noise]
  · exact exec_feedPacket_unfinished run rx h

/-- Settles O18: what a packet is refused for, by the checks of R43 in their order. -/
theorem feedPacketRefused : Obligations.FeedPacketRefused := by
  unfold Obligations.FeedPacketRefused
  refine ⟨fun s n records rx ok run => ⟨fun h => ?_, fun link free full => ?_⟩, fun s lane count rest rx => ?_⟩
  · rw [exec_dataPacket run rx ok, judgeData_refused h]
    rfl
  · rw [exec_dataPacket run rx ok, judgeData_full link free full]
    rfl
  · intro counted size kind packet whole bare
    have framed : s.run ≠ .held → exec packet s = .next (judgePacket (lane :: count :: rest) s) :=
      fun run => exec_feedPacket_framed run rx whole bare
    refine ⟨fun run => ?_, fun run reason => ?_⟩
    · rw [framed (by simp [run]), judgePacket_initialising _ run]
      rfl
    · have bad : judgePacket (lane :: count :: rest) s = badVerdict s := by
        by_cases good : packetBad lane count rest = true
        · exact judgePacket_of_bad run good
        · have ok : counted := by
            by_contra no
            exact good (by simp [packetBad, Bool.eq_false_iff.mpr (mt countOk_iff.mp no)])
          have passed := mt (packetBad_iff (lane := lane) ok (whole ok)).mpr good
          obtain ⟨rfl, controls⟩ :=
            ((reason.resolve_left (not_not_intro ok)).resolve_left (fun h => passed (.inl h))).resolve_left
            (fun h => passed (.inr h))
          rw [judgePacket_of_controls run (by simpa using good), controlsOk_recordsOf controls]
          rfl
      have answer : ∀ {t : State}, badVerdict s = t → exec packet s = .next t := fun e => by
        rw [framed (by simp [run]), bad, e]
      exact ⟨fun fault => answer (badVerdict_fault fault), fun link below => answer (badVerdict_below link below),
        fun link eighth => answer (badVerdict_eighth link eighth)⟩

/-! ### The control records of lane 0 -/

theorem serveControls_heartbeat {r : List Byte} (h : byteAt r 0 = 0x81) (t : List (List Byte)) (s : State) :
    serveControls (r :: t) s = serveControls t (heartbeat (byteAt r 1) s) := if_pos h

theorem serveControls_threshold {r : List Byte} (h : byteAt r 0 = 0x83) (t : List (List Byte)) (s : State) :
    serveControls (r :: t) s = serveControls t (feedThreshold (byteAt r 1).toNat s) :=
  (if_neg (by rw [h]; decide)).trans (if_pos h)

theorem serveControls_query {r : List Byte} (beat : byteAt r 0 ≠ 0x81) (threshold : byteAt r 0 ≠ 0x83)
    (t : List (List Byte)) (s : State) : serveControls (r :: t) s =
      ((statusQuery s).1 :: (serveControls t (statusQuery s).2).1, (serveControls t (statusQuery s).2).2) :=
  (if_neg beat).trans (if_neg threshold)

/-- R54: the records are served in order. -/
theorem serveControls_cons (r : List Byte) (t : List (List Byte)) (s : State) : serveControls (r :: t) s =
    ((serveControls [r] s).1 ++ (serveControls t (serveControls [r] s).2).1,
      (serveControls t (serveControls [r] s).2).2) := by
  by_cases beat : byteAt r 0 = 0x81
  · rw [serveControls_heartbeat beat, serveControls_heartbeat beat]
    rfl
  · by_cases threshold : byteAt r 0 = 0x83
    · rw [serveControls_threshold threshold, serveControls_threshold threshold]
      rfl
    · rw [serveControls_query beat threshold, serveControls_query beat threshold]
      rfl

theorem statusQuery_idle {s : State} (h : s.au.feed.latch = none) : statusQuery s =
    (.record (feedStatusRecord s s.au.feed.pending) true, s.updMaster .feed MasterSet.beginRead) := if_neg (by simp [h])

theorem statusQuery_reading {s : State} (h : s.au.feed.latch ≠ none) : statusQuery s =
    (.record (feedStatusRecord s (s.au.feed.pending ++ s.au.feed.hold)) false, s) :=
  if_pos (Option.isSome_iff_ne_none.mpr h)

theorem hearLane_withReplies (n : Fin 4) (s : State) (bad : Nat) (tx : List TxItem) :
    hearLane n (s.withReplies bad tx) = (hearLane n s).withReplies bad tx := by
  cases h : (s.lane n).active
  · rw [hearLane_of_silent h, hearLane_of_silent (s := s.withReplies bad tx) h]
    rfl
  · rw [hearLane_of_active h, hearLane_of_active (s := s.withReplies bad tx) h]
    rfl

theorem heartbeat_withReplies (mask : Byte) (s : State) (bad : Nat) (tx : List TxItem) :
    heartbeat mask (s.withReplies bad tx) = (heartbeat mask s).withReplies bad tx := by
  unfold heartbeat
  generalize List.finRange 4 = l
  induction l generalizing s with
  | nil => rfl
  | cons n t ih =>
    rw [List.foldl_cons, List.foldl_cons, ← ih]
    split
    · rw [hearLane_withReplies]
    · rfl

theorem statusQuery_withReplies (s : State) (bad : Nat) (tx : List TxItem) :
    statusQuery (s.withReplies bad tx) = ((statusQuery s).1, (statusQuery s).2.withReplies bad tx) := by
  by_cases h : s.au.feed.latch = none
  · rw [statusQuery_idle h, statusQuery_idle (s := s.withReplies bad tx) h]
    rfl
  · rw [statusQuery_reading h, statusQuery_reading (s := s.withReplies bad tx) h]
    rfl

/-- What the control records do hangs neither on the consecutive-bad count nor on what waits on FEED TX. -/
theorem serveControls_withReplies (rs : List (List Byte)) (bad : Nat) (tx : List TxItem) : ∀ s : State,
    serveControls rs (s.withReplies bad tx) = ((serveControls rs s).1, (serveControls rs s).2.withReplies bad tx) := by
  induction rs with
  | nil => exact fun s => rfl
  | cons r t ih =>
    intro s
    by_cases beat : byteAt r 0 = 0x81
    · rw [serveControls_heartbeat beat, serveControls_heartbeat beat, heartbeat_withReplies, ih]
    · by_cases threshold : byteAt r 0 = 0x83
      · rw [serveControls_threshold threshold, serveControls_threshold threshold]
        exact ih (feedThreshold _ s)
      · rw [serveControls_query beat threshold, serveControls_query beat threshold, statusQuery_withReplies, ih]

/-- R55: what a HEARTBEAT does to the lanes and the pending sets. -/
theorem heartbeat_lane (mask : Byte) (s : State) (n : Fin 4) :
    (heartbeat mask s).lane n = if mask.getLsbD n.val then (s.lane n).heard else s.lane n := by
  rw [heartbeat_eq, actLanes_lane _ _ _ ((List.nodup_finRange 4).filter _)]
  simp

theorem mem_heartbeat_pending {mask : Byte} {s : State} {m : Master} {e : Event} (latch : (s.au.get m).latch = none) :
    e ∈ ((heartbeat mask s).au.get m).pending ↔ e ∈ (s.au.get m).pending ∨
      ∃ n : Fin 4, e = ⟨.laneActive, .lane n⟩ ∧ mask.getLsbD n.val = true ∧ (s.lane n).active = false ∧
        0 < (s.au.get m).level .laneActive := by
  rw [heartbeat_eq, mem_actLanes_pending _ _ _ ((List.nodup_finRange 4).filter _) s latch]
  simp only [List.mem_filter, List.mem_finRange, true_and, Bool.not_eq_true']
  exact or_congr_right (exists_congr fun n => and_left_comm)

/-- Settles O19: one record, and then several as packets of one record each. -/
theorem controlPackets : Obligations.ControlPackets := by
  unfold Obligations.ControlPackets
  refine ⟨fun s a b rest run rx length => ?_, fun s r records run rx some ok kinds queries => ?_⟩
  · intro packet taken record
    have kindByte : byteAt (a :: b :: rest) 0 = a := rfl
    have served : a = 0x81 ∨ a = 0x82 ∨ a = 0x83 → exec packet s =
        .next (otherVerdict (.reply replyTaken :: (serveControls [a :: b :: rest] s).1)
          (serveControls [a :: b :: rest] s).2) :=
      fun kind => exec_controlPacket run rx (recordsOk_singleton (by simp [length]))
        (fun x mem => by rw [List.mem_singleton.mp mem]; exact kind) (List.length_filter_le ..)
    have asked (kind : a = 0x82) : serveControls [a :: b :: rest] s = ([(statusQuery s).1], (statusQuery s).2) :=
      serveControls_query (by rw [kindByte, kind]; decide) (by rw [kindByte, kind]; decide) [] s
    refine ⟨fun kind => ?_, fun kind => ?_, fun kind latch => ?_, fun kind latch => ?_⟩
    · have beaten : exec packet s = .next (otherVerdict [.reply replyTaken] (heartbeat b s)) := by
        rw [served (.inl kind), serveControls_heartbeat (kindByte.trans kind)]
        rfl
      obtain ⟨lanes, au, frame⟩ := actLanes_frame (fun _ => Lane.heard) (fun _ l => !l.active) .laneActive
        ((List.finRange 4).filter (fun n => b.getLsbD n.val)) s
      rw [← heartbeat_eq] at frame
      refine ⟨_, beaten, ?_, ?_, fun n => heartbeat_lane b s n, fun m e latch => mem_heartbeat_pending latch⟩
      · rw [frame]
        rfl
      · rw [frame]
        rfl
    · rw [served (.inr (.inr kind)), serveControls_threshold (kindByte.trans kind)]
      rfl
    · rw [served (.inr (.inl kind)), asked kind, statusQuery_idle latch]
      rfl
    · rw [served (.inr (.inl kind)), asked kind, statusQuery_reading latch]
      rfl
  · have others : recordsOk records :=
      ⟨List.length_pos_iff.mpr some, Nat.le_of_succ_le ok.2.1, fun x mem => ok.2.2 x (List.mem_cons_of_mem r mem)⟩
    have fewer : (records.filter (fun x => byteAt x 0 == 0x82)).length ≤ 1 :=
      ((List.sublist_cons_self r records).filter _).length_le.trans queries
    have whole := exec_controlPacket run rx ok kinds queries
    rw [serveControls_cons] at whole
    have first := laneChange_serveControls [r] s
    have head := exec_controlPacket run rx (recordsOk_singleton (ok.2.2 r List.mem_cons_self))
      (fun x mem => List.mem_singleton.mp mem ▸ kinds r List.mem_cons_self) (List.length_filter_le ..)
    generalize serveControls [r] s = served at *
    obtain ⟨a, t⟩ := served
    have second := laneChange_serveControls records t
    have tail := exec_controlPacket (s := otherVerdict (.reply replyTaken :: a) t) (first.run.trans run)
      (first.rx.trans rx) others (fun x mem => kinds x (List.mem_cons_of_mem r mem)) fewer
    rw [otherVerdict_eq, serveControls_withReplies] at tail
    generalize serveControls records t = served at *
    obtain ⟨b, u⟩ := served
    refine ⟨_, _, a, b, head, ?_, tail, rfl, ?_⟩
    · show t.fli.tx ++ _ = _
      rw [first.tx]
      rfl
    · rw [whole, otherVerdict_eq, second.tx, first.tx]
      rfl

end Sys2Proof.Machine

/-! SUPPORT. What leaves the run mode and the editorial link as they are. `State.link` reads both; `link_*` gives one lemma an
operation of the bands, the feed link, the panel bus and the owners of the editorial commands. -/

namespace Sys2Proof.Machine

/-! ### The run mode and the link -/

/-- The run mode and the editorial link. -/
def State.link (s : State) : RunMode × Eli := (s.run, s.eli)

theorem State.link_eq {s t : State} (h : t.link = s.link) : t.run = s.run ∧ t.eli = s.eli := Prod.ext_iff.mp h

/-- The two ways in which a chain of operations leaves the link. -/
theorem link_ite {c : Prop} [Decidable c] {s t u : State} (h : t.link = s.link) (k : u.link = s.link) :
    (if c then t else u).link = s.link := by
  split
  · exact h
  · exact k

/-! ### Swaps, counts and program states -/

theorem link_swapIf (p : CommitMode → Bool) (b : Fin 4) (s : State) : (swapIf p b s).link = s.link := link_ite rfl rfl

theorem link_updQuoteAt (s : State) (i : Nat) (f : Quote → Quote) : (s.updQuoteAt i f).link = s.link := by
  unfold State.updQuoteAt
  split <;> rfl

theorem link_freeStoryIfGone (i : Fin 256) (s : State) : (freeStoryIfGone i s).link = s.link := link_ite rfl rfl

theorem link_reportRemoval (x : Inst) (s : State) : (reportRemoval x s).link = s.link := by
  unfold reportRemoval dropStory
  split
  · exact link_updQuoteAt ..
  · split
    · exact link_freeStoryIfGone ..
    · rfl
  · rfl
  · rfl

theorem link_reportRemovals (l : List Inst) : ∀ s : State, (reportRemovals l s).link = s.link := by
  induction l with
  | nil => exact fun s => rfl
  | cons x t ih => exact fun s => (ih _).trans (link_reportRemoval x s)

theorem link_removeFront (b : Fin 4) (n : Nat) (s : State) : (removeFront b n s).link = s.link := link_reportRemovals ..

theorem link_addInstance (b : Fin 4) (x : Inst) (s : State) : (addInstance b x s).link = s.link := by
  unfold addInstance reportCreation
  split
  · exact link_updQuoteAt ..
  · split <;> rfl
  · rfl
  · rfl

theorem link_enterReady (b : Fin 4) (s : State) : (enterReady b s).link = s.link := link_swapIf ..

theorem link_takeCommit (b : Fin 4) (m : CommitMode) (s : State) : (takeCommit b m s).link = s.link := link_ite rfl rfl

theorem link_advanceCursor (b : Fin 4) (s : State) : (advanceCursor b s).link = s.link := link_ite (link_swapIf ..) rfl

/-! ### A CRAWL band -/

theorem link_admitInst (b : Fin 4) (x : Inst) (s : State) : (admitInst b x s).link = s.link := link_addInstance ..

theorem link_considerBreak (c : BandConfig) (b : Fin 4) (e : BreakEntry) (rest : List BreakEntry) (s : State) :
    (considerBreak c b e rest s).link = s.link := by
  have ended : ∀ t : State, (endBreaks b t).link = t.link := fun t => link_ite (link_ite (s := t) rfl rfl) rfl
  exact (ended _).trans (link_ite (link_admitInst ..) rfl)

theorem link_considerItem (c : BandConfig) (b : Fin 4) (i : Item) (s : State) : (considerItem c b i s).link = s.link :=
  (link_advanceCursor ..).trans (link_ite (link_admitInst ..) rfl)

theorem link_admitLoop (c : BandConfig) (b : Fin 4) (fuel : Nat) : ∀ (skips : Nat) (s : State),
    (admitLoop c b fuel skips s).link = s.link := by
  induction fuel with
  | zero => exact fun _ _ => rfl
  | succ fuel ih =>
    intro skips s
    have deferred : (deferAdmission b s).link = s.link := link_ite rfl rfl
    unfold admitLoop
    refine link_ite rfl (link_ite deferred ?_)
    split
    · exact (ih ..).trans (link_considerBreak ..)
    · refine link_ite (link_ite (ih ..) rfl) (link_ite rfl ?_)
      split
      · rfl
      · exact (ih ..).trans (link_considerItem ..)

theorem link_admissionStep (c : BandConfig) (b : Fin 4) (s : State) : (admissionStep c b s).link = s.link :=
  link_ite ((link_admitLoop ..).trans (link_swapIf ..)) (link_swapIf ..)

theorem link_drainEndStep (b : Fin 4) (s : State) : (drainEndStep b s).link = s.link := link_ite (link_enterReady ..) rfl

theorem link_clearingEndStep (b : Fin 4) (s : State) : (clearingEndStep b s).link = s.link := link_ite rfl rfl

theorem link_crawlSteps (c : BandConfig) (b : Fin 4) (s : State) : (crawlSteps c b s).link = s.link :=
  (link_clearingEndStep ..).trans ((link_drainEndStep ..).trans ((link_admissionStep ..).trans (link_removeFront ..)))

/-! ### A FLIP band -/

theorem link_buildLoop (c : BandConfig) (b : Fin 4) (voffset : Int) (fuel : Nat) :
    ∀ (taken used lastGap skips : Nat) (s : State), (buildLoop c b voffset fuel taken used lastGap skips s).2.link = s.link := by
  induction fuel with
  | zero => exact fun _ _ _ _ _ => rfl
  | succ fuel ih =>
    intro taken used lastGap skips s
    have added : ∀ x, (advanceCursor b (addInstance b x s)).link = s.link := fun x =>
      (link_advanceCursor ..).trans (link_addInstance ..)
    have skipped : (advanceCursor b (s.raise .itemSkipped (.band b))).link = s.link := link_advanceCursor ..
    unfold buildLoop
    split
    · rfl
    · split
      · rfl
      · split
        · split
          · rfl
          · dsimp only
            split
            · exact added _
            · exact (ih ..).trans (added _)
        · dsimp only
          split
          · exact skipped
          · exact (ih ..).trans skipped

theorem link_pageBuild (c : BandConfig) (b : Fin 4) (voffset : Int) (s : State) : (pageBuild c b voffset s).2.link = s.link := by
  unfold pageBuild
  extract_lets s1 s2 r
  have first : s1.link = s.link := link_swapIf ..
  have second : s2.link = s.link := (link_ite (link_swapIf ..) rfl : s2.link = s1.link).trans first
  have built : r.2.link = s.link := (link_buildLoop ..).trans second
  split <;> exact built

theorem link_updPage (b : Fin 4) (f : Page → Page) (s : State) : (updPage b f s).link = s.link := rfl

theorem link_settlePage (c : BandConfig) (b : Fin 4) (n : Nat) (s : State) : (settlePage c b n s).link = s.link := rfl

theorem link_setRoll (c : BandConfig) (b : Fin 4) (k : Nat) (s : State) : (setRoll c b k s).link = s.link := rfl

theorem link_enterLeaving (c : BandConfig) (b : Fin 4) (s : State) : (enterLeaving c b s).link = s.link := rfl

theorem link_expirePage (c : BandConfig) (b : Fin 4) (s : State) : (expirePage c b s).link = s.link := by
  unfold expirePage
  dsimp only
  split
  · split
    · exact (link_updPage ..).trans (link_removeFront ..)
    · exact link_enterLeaving ..
  · split
    · exact (link_settlePage ..).trans ((link_removeFront ..).trans (link_pageBuild ..))
    · exact link_ite ((link_enterLeaving ..).trans (link_pageBuild ..))
        ((link_setRoll ..).trans ((link_updPage ..).trans (link_pageBuild ..)))

theorem link_endRoll (c : BandConfig) (b : Fin 4) (s : State) : (endRoll c b s).link = s.link := by
  have settled : ∀ (t : State) f g, (updPage b f (t.updBand b g)).bumpFree.link = t.link := fun _ _ _ => rfl
  exact (settled ..).trans (link_removeFront ..)

theorem link_endLeaving (c : BandConfig) (b : Fin 4) (s : State) : (endLeaving c b s).link = s.link := by
  have left : ∀ f, (updPage b f (removeFront b (s.band b).page.outgoing s)).bumpFree.link = s.link := fun f =>
    (link_updPage b f _).trans (link_removeFront ..)
  exact link_ite ((link_settlePage ..).trans ((link_pageBuild ..).trans (left _))) (left _)

theorem link_pageStep (c : BandConfig) (b : Fin 4) (s : State) : (pageStep c b s).link = s.link := by
  unfold pageStep
  split
  · exact link_ite ((link_settlePage ..).trans (link_pageBuild ..)) rfl
  · exact link_ite rfl (link_ite (link_expirePage ..) (link_updPage ..))
  · exact link_ite rfl (link_ite (link_setRoll ..) (link_endRoll ..))
  · exact link_ite rfl (link_ite (link_setRoll ..) (link_endLeaving ..))

theorem link_flipSteps (c : BandConfig) (b : Fin 4) (s : State) : (flipSteps c b s).link = s.link :=
  (link_drainEndStep ..).trans (link_pageStep ..)

theorem link_flipAlone (b : Fin 4) (due : BandConfig → Band → Bool) (f : BandConfig → Fin 4 → State → State) (s : State)
    (h : ∀ c, (f c b s).link = s.link) : (flipAlone b due f s).link = s.link := by
  unfold flipAlone
  split
  · rfl
  · exact link_ite (h _) rfl

/-! ### Requests -/

theorem link_takeConfigure (b : Fin 4) (c : ConfigRecord) (s : State) : (takeConfigure b c s).2.link = s.link := by
  unfold takeConfigure
  split
  · rfl
  · split
    · rfl
    · split
      · rfl
      · exact link_ite (link_enterReady ..) rfl

theorem link_takeBreak (b : Fin 4) (e : BreakEntry) (s : State) : (takeBreak b e s).2.link = s.link := by
  unfold takeBreak
  split
  · rfl
  · split
    · rfl
    · split
      · rfl
      · exact link_ite rfl rfl

theorem link_judgeRequest (sampled : Bool) (b : Fin 4) (r : BandRequest) (s : State) :
    (judgeRequest sampled b r s).2.link = s.link := by
  cases r with
  | configure c => exact link_takeConfigure ..
  | brk story repeats urgency => exact link_takeBreak ..
  | commit m => exact link_takeCommit ..
  | release =>
    show (takeRelease b s).2.link = _
    unfold takeRelease
    split <;> rfl
  | takeOn fromTop =>
    show (takeTakeOn sampled b fromTop s).2.link = _
    unfold takeTakeOn
    extract_lets top
    split
    · split <;> rfl
    all_goals rfl
  | takeOffDrain =>
    show (takeTakeOffDrain b s).2.link = _
    unfold takeTakeOffDrain
    split <;> rfl
  | takeOffCut =>
    show (takeTakeOffCut b s).2.link = _
    unfold takeTakeOffCut
    split
    · exact (link_enterReady ..).trans (link_removeFront ..)
    · rfl
  | halt =>
    show (takeHalted b true s).2.link = _
    unfold takeHalted
    split <;> rfl
  | resume =>
    show (takeHalted b false s).2.link = _
    unfold takeHalted
    split <;> rfl
  | setSpeed v =>
    show (takeTarget b _ s).2.link = _
    unfold takeTarget
    split <;> rfl
  | nudge up =>
    show (takeTarget b _ s).2.link = _
    unfold takeTarget
    split <;> rfl
  | breakClear =>
    show (takeBreakClear b s).2.link = _
    unfold takeBreakClear
    split
    · rfl
    · split <;> rfl

theorem link_joinQueue (b : Fin 4) (q : QueuedRequest) (s : State) : (joinQueue b q s).2.link = s.link := by
  unfold joinQueue
  split <;> rfl

theorem link_panelRequest (b : Fin 4) (r : BandRequest) (s : State) : (panelRequest b r s).link = s.link :=
  link_ite (link_joinQueue ..) (link_joinQueue ..)

theorem link_panelBroadcast (r : BandRequest) (s : State) : (panelBroadcast r s).link = s.link :=
  (link_panelRequest ..).trans ((link_panelRequest ..).trans ((link_panelRequest ..).trans (link_panelRequest ..)))

/-! ### The feed link and the update engine -/

theorem State.LaneChange.link {s t : State} (h : s.LaneChange t) : t.link = s.link := by
  obtain ⟨_, _, rfl⟩ := h
  rfl

theorem link_countSilence (n : Fin 4) (s : State) : (countSilence n s).link = s.link := link_ite (link_ite rfl rfl) rfl

theorem link_feedFrameStart (s : State) : (feedFrameStart s).link = s.link :=
  (link_countSilence ..).trans ((link_countSilence ..).trans ((link_countSilence ..).trans (link_countSilence ..)))

theorem link_releaseLink (s : State) : (releaseLink s).link = s.link := link_ite rfl rfl

theorem link_judgeData (n : Fin 4) (rs : List (List Byte)) (s : State) : (judgeData n rs s).link = s.link := by
  have heard : ∀ t : State, (hearLane n t).link = t.link := fun t => link_ite rfl rfl
  exact link_ite rfl (link_ite rfl (link_ite rfl (heard _)))

theorem link_judgePacket (bs : List Byte) (s : State) : (judgePacket bs s).link = s.link := by
  have bad : (badVerdict s).link = s.link := by
    unfold badVerdict
    split
    · rfl
    · split <;> rfl
  unfold judgePacket
  dsimp only
  split
  · rfl
  · rfl
  · refine link_ite bad ?_
    split
    · exact link_ite (laneChange_serveControls _ s).link bad
    · exact link_judgeData ..

theorem link_feedBytes (bs : List Byte) : ∀ s : State, (feedBytes bs s).link = s.link := by
  induction bs with
  | nil => exact fun _ => rfl
  | cons b t ih =>
    intro s
    refine (ih (feedByte b s)).trans ?_
    unfold feedByte
    split
    · exact link_ite rfl rfl
    · exact link_ite (link_judgePacket ..) rfl

theorem link_endRecord (own : Bool) (s : State) : (endRecord own s).link = s.link := link_ite rfl rfl

theorem link_sendFeedByte (s : State) : (sendFeedByte s).link = s.link := by
  unfold sendFeedByte
  split
  · rfl
  · rfl
  · exact link_endRecord ..
  · exact link_endRecord ..
  · rfl

theorem link_applyUpdate (n : Fin 4) (u : Update) (s : State) : (applyUpdate n u s).link = s.link := by
  unfold applyUpdate
  dsimp only
  refine link_ite rfl (link_ite rfl ?_)
  split
  · rfl
  · refine link_ite rfl (link_ite ?_ (link_ite ?_
      (link_ite (link_updQuoteAt ..) (link_ite (link_updQuoteAt ..) (link_updQuoteAt ..)))))
    all_goals
      split
      · rfl
      · exact link_updQuoteAt ..

theorem link_engineTurn (s : State) : (engineTurn s).link = s.link := by
  unfold engineTurn
  split
  · rfl
  · split
    · rfl
    · exact link_applyUpdate ..

/-! ### The compositor and the timing unit -/

theorem link_moveBand (clean : Bool) (b : Fin 4) (s : State) : (moveBand clean b s).link = s.link := by
  unfold moveBand
  split
  · rfl
  · exact link_ite rfl rfl

theorem link_compositorFrameStart (s : State) : (compositorFrameStart s).link = s.link := by
  have judged : ∀ (clean : Bool) (t : State), (judgeAck clean t).link = t.link := fun clean t =>
    link_ite rfl (link_ite rfl rfl)
  exact (judged ..).trans
    ((link_moveBand ..).trans ((link_moveBand ..).trans ((link_moveBand ..).trans (link_moveBand ..))))

theorem link_raiseTiming (s : State) : (raiseTiming s).link = s.link := link_ite rfl rfl

theorem link_panelSoftClean (value : Nat) (s : State) : (panelSoftClean value s).link = s.link := by
  unfold panelSoftClean
  split <;> rfl

theorem link_panelThreshold (v : Nat) (s : State) : (panelThreshold v s).link = s.link := link_ite rfl rfl

theorem link_panelLaneCommand (lane : Nat) (f : Fin 4 → State → State) (s : State) (h : ∀ n, (f n s).link = s.link) :
    (panelLaneCommand lane f s).link = s.link := by
  unfold panelLaneCommand
  split
  · rfl
  · exact h _

/-! ### The panel bus -/

theorem link_panelBand (band : Nat) (r : BandRequest) (s : State) : (panelBand band r s).link = s.link := by
  unfold panelBand
  split
  · rfl
  · exact link_panelRequest ..

theorem link_handOver (c a0 a1 : Byte) (s : State) : (handOver c a0 a1 s).link = s.link := by
  unfold handOver
  split
  case h_6 =>
    split
    · rfl
    · exact link_panelBand ..
  case h_7 => exact link_panelLaneCommand _ _ _ (fun _ => rfl)
  case h_8 => exact link_panelLaneCommand _ _ _ (fun _ => rfl)
  case h_9 => exact link_releaseLink s
  case h_10 => exact link_panelSoftClean ..
  case h_11 => exact link_panelThreshold ..
  case h_12 =>
    split
    · rfl
    · exact link_panelBroadcast ..
  case h_13 => exact link_panelBroadcast ..
  case h_14 => exact link_panelBroadcast ..
  case h_15 => rfl
  all_goals exact link_panelBand ..

theorem link_takeWrite (bytes : List Byte) (discard : Bool) (s : State) : (takeWrite bytes discard s).link = s.link := by
  unfold takeWrite
  split
  · rfl
  · exact link_ite rfl (link_ite (link_handOver ..) rfl)

theorem link_panelByte (b : Byte) (s : State) : (panelByte b s).2.link = s.link := by
  unfold panelByte
  split
  · rfl
  · repeat' split
    all_goals rfl
  · split <;> rfl
  · split <;> rfl
  · rfl

theorem link_panelBytes (bytes : List Byte) : ∀ s : State, (panelBytes bytes s).2.link = s.link := by
  induction bytes with
  | nil => exact fun _ => rfl
  | cons b t ih => exact fun s => (ih _).trans (link_panelByte b s)

theorem link_writeBytes (bytes : List Byte) (s : State) : (writeBytes bytes s).link = s.link := link_panelBytes bytes s

theorem link_readBytes (n : Nat) : ∀ s : State, (readBytes n s).2.link = s.link := by
  induction n with
  | zero => exact fun _ => rfl
  | succ n ih =>
    intro s
    refine (ih _).trans ?_
    unfold readByte
    split
    · exact link_ite rfl rfl
    · rfl

theorem link_clockRead (n : Nat) (s : State) : (clockRead n s).link = s.link := link_readBytes n s

theorem link_restart (t : Transfer) (s : State) : (restart t s).link = s.link := by
  show (endTransfer s).link = _
  unfold endTransfer
  split
  · rfl
  · rfl
  · exact link_takeWrite ..
  · exact link_takeWrite ..
  · exact link_ite rfl rfl

/-! ### The owners of the editorial commands -/

theorem link_defineQuote (a : DefineArgs) (s : State) : (defineQuote a s).2.link = s.link := by
  unfold defineQuote
  repeat' split
  all_goals rfl

theorem link_applySource (r : Ref) (src : Source) (text : List Byte) (s : State) : (applySource r src text s).2.link = s.link := by
  unfold applySource
  split
  · exact link_updQuoteAt ..
  · rfl

theorem link_setSource (r : Ref) (code n : Nat) (s : State) : (setSource r code n s).2.link = s.link := by
  unfold setSource
  split
  · rfl
  · split
    · rfl
    · split
      · rfl
      · split
        · exact link_applySource ..
        · rfl

theorem link_setReference (r : Ref) (remove : Bool) (u : Nat) (m : Int) (s : State) :
    (setReference r remove u m s).2.link = s.link := by
  unfold setReference
  split
  · rfl
  · split
    · rfl
    · split
      · rfl
      · split
        · exact link_updQuoteAt ..
        · split
          · rfl
          · exact link_updQuoteAt ..

theorem link_laneCommand (lane : Nat) (f : Fin 4 → State → State) (s : State) (h : ∀ n, (f n s).link = s.link) :
    (laneCommand lane f s).2.link = s.link := by
  unfold laneCommand
  split
  · rfl
  · exact h _

theorem link_loadStory (n : Nat) (s : State) : (loadStory n s).2.link = s.link := by
  unfold loadStory
  repeat' split
  all_goals rfl

theorem link_completeStory (n : Nat) (s : State) : (completeStory n s).2.link = s.link := by
  unfold completeStory
  split <;> rfl

theorem link_deleteStory (r : Ref) (s : State) : (deleteStory r s).2.link = s.link := by
  unfold deleteStory
  split
  · split
    · exact link_freeStoryIfGone ..
    · rfl
  · rfl

theorem link_completeFace (a : FaceArgs) (s : State) : (completeFace a s).2.link = s.link := by
  unfold completeFace
  dsimp only
  repeat' split
  all_goals rfl

theorem link_editRunList (band op pos count n : Nat) (s : State) : (editRunList band op pos count n s).2.link = s.link := by
  unfold editRunList
  repeat' split
  all_goals rfl

theorem link_completeEdit (band op pos count : Nat) (s : State) : (completeEdit band op pos count s).2.link = s.link := by
  unfold completeEdit
  dsimp only
  repeat' split
  all_goals rfl

/-- R170: an editorial band request leaves the run mode and the link as they are, but for its ticket. -/
theorem link_editorialJoin (b : Fin 4) (r : BandRequest) (s : State) :
    ∃ k, (editorialJoin b r s).2.link = (s.run, { s.eli with ticket := k }) := by
  obtain ⟨run, eli⟩ := State.link_eq (link_joinQueue b ⟨.editorial (s.eli.ticket + 1), r⟩ s)
  unfold editorialJoin
  dsimp only
  split
  · exact ⟨s.eli.ticket + 1, Prod.ext run (by dsimp only [State.link]; rw [eli])⟩
  · exact ⟨s.eli.ticket, Prod.ext run eli⟩

/-! ### The link's own operations -/

/-- Settling what was in flight leaves the link as it is. -/
theorem link_abandon (s : State) : (abandon s).link = s.link := by
  unfold abandon
  split
  · rfl
  · exact link_ite rfl rfl
  all_goals rfl

/-- Where a data byte goes changes of the link at most the data that it holds. -/
theorem link_storeByte (c : EdCommand) (k : Nat) (b : Byte) (s : State) :
    ∃ d, (storeByte c k b s).link = (s.run, { s.eli with data := d }) := by
  cases c with
  | loadStory =>
    show ∃ d, (writeStoryByte k b s).link = _
    unfold writeStoryByte
    split <;> exact ⟨s.eli.data, rfl⟩
  | loadFace a => exact ⟨s.eli.data, rfl⟩
  | loadImages offset => exact ⟨s.eli.data, rfl⟩
  | edit band op pos count => exact ⟨s.eli.data, rfl⟩
  | _ => exact ⟨_, rfl⟩

end Sys2Proof.Machine

/-! SUPPORT. The editorial link stays in order through every step, and no step stops. `State.Serving` is the link in order from INIT
DONE on, where frames act. -/

namespace Sys2Proof.Machine

/-! ### The link in order -/

/-- R77, R171 to R176: the link is in order, and image data in flight stays inside glyph memory. -/
def State.inOrder (s : State) : Prop := s.linkOk ∧ s.imagesOk

theorem State.inOrder.of_link {s t : State} (h : s.inOrder) (k : t.link = s.link) : t.inOrder := by
  obtain ⟨run, eli⟩ := State.link_eq k
  unfold State.inOrder State.linkOk State.imagesOk
  rw [run, eli]
  exact h

theorem inOrder_ite {c : Prop} [Decidable c] {t u : State} (h : c → t.inOrder) (k : ¬ c → u.inOrder) :
    (if c then t else u).inOrder := by
  split
  · exact h ‹_›
  · exact k ‹_›

/-- A link in IDLE with nothing in flight is in order in every run mode. -/
theorem inOrder_of_idle {s : State} (idle : s.eli = s.eli.toIdle) : s.inOrder := by
  have phase : s.eli.phase = .idle := by rw [idle]; rfl
  have counter : s.eli.counter ≤ s.eli.dataLength := by rw [idle]; exact Nat.le_refl 0
  have other : ∀ {p : EdPhase}, s.eli.phase = p → p ≠ .idle → False := fun e ne => ne (e.symm.trans phase)
  exact ⟨⟨⟨fun e => (e.elim (other · nofun) (other · nofun)).elim, fun e => (other e nofun).elim, fun _ => idle,
    fun _ => phase, counter⟩, fun _ => phase⟩, fun _ e => (other e nofun).elim⟩

/-- The link in order from INIT DONE on, with no frame in progress from before the release of RESET. -/
structure State.Serving (s : State) : Prop where
  listens : s.listens
  data : s.eli.phase = .dataOut ∨ s.eli.phase = .dataIn → s.eli.command.isSome = true ∧ s.eli.counter < s.eli.dataLength
  status : s.eli.phase = .statusReady → s.eli.status.isSome = true
  idle : s.eli.phase = .idle → s.eli = s.eli.toIdle
  counter : s.eli.counter ≤ s.eli.dataLength
  images : s.imagesOk

theorem State.Serving.inOrder {s : State} (h : s.Serving) : s.inOrder :=
  ⟨⟨⟨h.data, h.status, h.idle, fun e => absurd (h.listens.2.symm.trans e) nofun, h.counter⟩, fun e => absurd h.listens.1 e⟩,
    h.images⟩

theorem State.inOrder.serving {s : State} (h : s.inOrder) (l : s.listens) : s.Serving := by
  obtain ⟨⟨⟨data, status, idle, _, counter⟩, _⟩, images⟩ := h
  exact ⟨l, data, status, idle, counter, images⟩

theorem State.Serving.of_link {s t : State} (h : s.Serving) (k : t.link = s.link) : t.Serving := by
  obtain ⟨run, eli⟩ := State.link_eq k
  refine (h.inOrder.of_link k).serving ?_
  rw [State.listens, run, eli]
  exact h.listens

theorem serving_ite {c : Prop} [Decidable c] {t u : State} (h : c → t.Serving) (k : ¬ c → u.Serving) :
    (if c then t else u).Serving := by
  split
  · exact h ‹_›
  · exact k ‹_›

/-- What is driven on ED DOUT does not matter to the order of the link. -/
theorem State.inOrder.drive {s : State} (h : s.inOrder) (bytes : List Byte) : (drive bytes s).inOrder := by
  obtain ⟨⟨⟨data, status, idle, straddles, counter⟩, run⟩, images⟩ := h
  exact ⟨⟨⟨data, status, fun e => congrArg (fun e : Eli => { e with dout := 0 :: bytes }) (idle e), straddles, counter⟩, run⟩,
    images⟩

theorem State.Serving.drive {s : State} (h : s.Serving) (bytes : List Byte) : (drive bytes s).Serving :=
  (h.inOrder.drive bytes).serving h.listens

theorem serving_finish (st : Status) {s : State} (l : s.listens) (counter : s.eli.counter ≤ s.eli.dataLength) :
    (finish st s).Serving :=
  ⟨l, nofun, fun _ => rfl, nofun, counter, fun _ => nofun⟩

theorem serving_executing {s : State} (l : s.listens) (counter : s.eli.counter ≤ s.eli.dataLength) :
    (enterPhase .executing s).Serving :=
  ⟨l, nofun, nofun, nofun, counter, fun _ => nofun⟩

/-! ### Frame starts -/

/-- R106: the answer of a request ends EXECUTING, or leaves the link as it is. -/
theorem State.inOrder.deliver {s : State} (h : s.inOrder) (o : Origin) (b : Fin 4) (r : Result) (v : List Byte) :
    (deliver o b r v s).inOrder := by
  unfold Machine.deliver
  split
  · exact inOrder_ite (fun _ => h) (fun _ => h.of_link rfl)
  · refine inOrder_ite (fun executing => ?_) (fun _ => h)
    obtain ⟨⟨⟨_, _, _, straddles, counter⟩, run⟩, _⟩ := h
    have left : ∀ {p : Prop}, s.eli.phase = .idle → p := fun e => nomatch e.symm.trans executing.1
    refine (serving_finish ⟨r, 0, v⟩ ⟨?_, ?_⟩ counter).inOrder
    · exact Decidable.byContradiction (fun e => left (run e))
    · exact Bool.eq_false_iff.mpr (fun e => left (straddles e))

theorem State.inOrder.takeRequest {s : State} (h : s.inOrder) (sampled : Bool) (o : Origin) (b : Fin 4) (r : BandRequest) :
    (takeRequest sampled o b r s).inOrder := (h.of_link (link_judgeRequest ..)).deliver ..

theorem State.inOrder.takeRequests (sampled : Bool) (b : Fin 4) (l : List QueuedRequest) : ∀ {s : State}, s.inOrder →
    (takeRequests sampled b l s).inOrder := by
  induction l with
  | nil => exact id
  | cons q t ih => exact fun h => ih (h.takeRequest ..)

theorem State.inOrder.bandFrameStart {s : State} (h : s.inOrder) (sampled : Bool) (b : Fin 4) :
    (bandFrameStart sampled b s).inOrder := by
  have taken : (takeQueue sampled b s).inOrder :=
    State.inOrder.takeRequests sampled b _ (h.of_link (t := s.updBand b (fun d => { d with queue := [] })) rfl)
  unfold Machine.bandFrameStart
  refine inOrder_ite (fun _ => ?_) (fun _ => taken)
  split
  · exact taken
  · split
    · exact taken.of_link (link_crawlSteps ..)
    · exact taken.of_link (link_flipSteps ..)

theorem State.inOrder.frameBlocks (order : List Block) : ∀ (sampled : Bool) {s : State}, s.inOrder →
    (frameBlocks order sampled s).inOrder := by
  induction order with
  | nil => exact fun _ _ => id
  | cons k t ih =>
    intro sampled s h
    cases k with
    | quotes => exact ih _ (h.of_link (t := quoteFrameStart s) rfl)
    | feed => exact ih _ (h.of_link (link_feedFrameStart s))
    | band b => exact ih _ (h.bandFrameStart sampled b)
    | compositor => exact ih _ (h.of_link (link_compositorFrameStart s))

/-- R154: a frame start of the timing unit. -/
theorem State.inOrder.frameStart {s t : State} (h : s.inOrder) (k : t.link = s.link) : (frameStart t).inOrder := by
  have h := h.of_link k
  unfold Machine.frameStart
  split
  · exact h
  · exact h.of_link rfl
  · exact State.inOrder.frameBlocks _ _ (h.of_link (t := { t with frames := t.frames + 1 }.bumpFree) rfl)

/-! ### Frames and phase errors -/

/-- R169: what a frame does to a link in order, by what it does where it acts. -/
theorem State.inOrder.inFrame {s : State} (h : s.inOrder) (n : Nat) {f : State → State}
    (k : s.run = .initialising ∨ s.Serving → (f s).inOrder) : (inFrame n f s).inOrder := by
  refine inOrder_ite (fun _ => h) (fun held => ?_)
  split
  · next straddles =>
    have idle := h.1.1.2.2.1 (h.1.1.2.2.2.1 straddles)
    exact inOrder_of_idle (congrArg (fun e : Eli => { e with straddles := false, dout := 0 :: List.replicate n 0 }) idle)
  · next acts =>
    refine k ?_
    cases run : s.run with
    | held => exact absurd run held
    | initialising => exact .inl rfl
    | running => exact .inr (h.serving ⟨run, by simpa using acts⟩)

theorem State.Serving.phaseError {s : State} (h : s.Serving) : (phaseError s).Serving := by
  refine serving_ite (fun _ => h) (fun _ => ?_)
  have run : (abandon s).run = s.run := (State.link_eq (link_abandon s)).1
  have eli : ((abandon s).updEli Eli.toPhaseError).eli = s.eli.toPhaseError := congrArg Eli.toPhaseError (abandon_eli s)
  have counter : s.eli.toPhaseError.counter ≤ s.eli.toPhaseError.dataLength := by
    show (if _ then _ else _) ≤ (if _ then _ else _)
    split
    · exact h.counter
    · exact Nat.le_refl 0
  refine ⟨⟨run.trans h.listens.1, ?_⟩, ?_, ?_, ?_, ?_, ?_⟩
  · rw [eli]; exact h.listens.2
  · rw [eli]; exact fun e => nomatch e
  · rw [eli]; exact nofun
  · rw [eli]; exact nofun
  · rw [eli]; exact counter
  · unfold State.imagesOk; rw [eli]; exact fun _ => nofun

/-- R174, R176: a frame of the phase it belongs to acts by `f`, and every other frame keeps the link in order. -/
theorem State.inOrder.inPhase {s : State} (h : s.inOrder) (p : EdPhase) (n : Nat) {f : State → State}
    (k : ∀ t : State, t.Serving → t.eli.phase = p → (f t).Serving) : (inPhase p n f s).inOrder := by
  refine h.inFrame n (fun mode => inOrder_ite (fun _ => h.drive _) (fun initialised => ?_))
  have driven : (driveZeros n s).Serving := (mode.resolve_left initialised).drive _
  exact inOrder_ite (fun phase => (k _ driven phase).inOrder) (fun _ => driven.phaseError.inOrder)

/-! ### The command phase -/

/-- A change that leaves the run mode and, but for its ticket, the link as they are. -/
def State.Ticketed (s t : State) : Prop := ∃ k, t.link = (s.run, { s.eli with ticket := k })

theorem ticketed_of_link {s t : State} (h : t.link = s.link) : s.Ticketed t := ⟨s.eli.ticket, h⟩

theorem ticketed_editorialRequest (band : Nat) (r : EdRequest) (n : Nat) (s : State) :
    s.Ticketed (editorialRequest band r n s).2 := by
  unfold editorialRequest
  split
  · exact ticketed_of_link rfl
  · split
    · repeat' split
      all_goals exact ticketed_of_link rfl
    · split
      · exact ticketed_of_link rfl
      · dsimp only
        split <;> exact link_editorialJoin ..

/-- R170: the command phase of every command leaves the run mode and the link as they are, but for its ticket. -/
theorem ticketed_commandPhase (c : EdCommand) (n : Nat) (s : State) : s.Ticketed (commandPhase c n s).2 := by
  cases c with
  | request band r => exact ticketed_editorialRequest ..
  | defineQuote a => exact ticketed_of_link (link_defineQuote ..)
  | retireQuote r =>
    refine ticketed_of_link ?_
    show (retireQuote r s).2.link = _
    unfold retireQuote
    split
    · exact link_updQuoteAt ..
    · rfl
  | setSource r source => exact ticketed_of_link (link_setSource ..)
  | setReference r remove scale mantissa => exact ticketed_of_link (link_setReference ..)
  | laneHold lane => exact ticketed_of_link (link_laneCommand _ _ _ (fun _ => rfl))
  | laneRelease lane => exact ticketed_of_link (link_laneCommand _ _ _ (fun _ => rfl))
  | laneFlush lane => exact ticketed_of_link (link_laneCommand _ _ _ (fun _ => rfl))
  | linkRelease => exact ticketed_of_link (link_releaseLink s)
  | setSilenceLimit lane limit =>
    refine ticketed_of_link ?_
    show (setSilenceLimit lane limit s).2.link = _
    unfold setSilenceLimit
    split
    · exact link_laneCommand _ _ _ (fun _ => rfl)
    · rfl
  | loadStory => exact ticketed_of_link (link_loadStory ..)
  | deleteStory r => exact ticketed_of_link (link_deleteStory ..)
  | loadFace a => exact ticketed_of_link (congrArg State.link (loadFace_state ..))
  | unloadFace face =>
    refine ticketed_of_link ?_
    show (unloadFace face s).2.link = _
    unfold unloadFace
    repeat' split
    all_goals rfl
  | loadImages offset => exact ticketed_of_link (congrArg State.link (loadImages_state ..))
  | edit band op pos count => exact ticketed_of_link (link_editRunList ..)
  | copyBank band =>
    refine ticketed_of_link ?_
    show (copyBank band s).2.link = _
    unfold copyBank
    repeat' split
    all_goals rfl
  | softClean v =>
    refine ticketed_of_link ?_
    show (editorialSoftClean v s).2.link = _
    unfold editorialSoftClean
    split <;> rfl
  | setPin pin mode select level =>
    refine ticketed_of_link ?_
    show (setPin pin mode select level s).2.link = _
    unfold setPin
    split <;> rfl
  | setLevels master levels =>
    refine ticketed_of_link ?_
    show (setLevels master levels s).2.link = _
    unfold setLevels
    repeat' split
    all_goals rfl
  | setThreshold v =>
    refine ticketed_of_link ?_
    show (editorialThreshold v s).2.link = _
    unfold editorialThreshold
    split <;> rfl
  | _ => exact ticketed_of_link rfl

/-- What a ticket alone changes leaves the rest of the link. -/
theorem State.Ticketed.eli {s t : State} (h : s.Ticketed t) (l : s.listens) :
    t.listens ∧ ∃ k, t.eli = { s.eli with ticket := k } := by
  obtain ⟨k, h⟩ := h
  obtain ⟨run, eli⟩ := Prod.ext_iff.mp h
  exact ⟨⟨run.trans l.1, (congrArg Eli.straddles eli).trans l.2⟩, k, eli⟩

theorem serving_completeConfigure (band : Nat) {s : State} (l : s.listens) (counter : s.eli.counter ≤ s.eli.dataLength) :
    (completeConfigure band s).Serving := by
  unfold completeConfigure
  split
  · exact serving_finish _ l counter
  · next b _ =>
    obtain ⟨l', k, eli⟩ := State.Ticketed.eli (link_editorialJoin b (.configure (configOf s.eli.data)) s) l
    dsimp only
    generalize editorialJoin b (.configure (configOf s.eli.data)) s = t at *
    have counter' : t.2.eli.counter ≤ t.2.eli.dataLength := by rw [eli]; exact counter
    exact serving_ite (fun _ => serving_executing l' counter') (fun _ => serving_finish _ l' counter')

/-- R171: the completion of a data phase ends the command, or begins EXECUTING. -/
theorem serving_completeData (c : EdCommand) {s : State} (l : s.listens) (counter : s.eli.counter ≤ s.eli.dataLength) :
    (completeData c s).Serving := by
  have ends : ∀ {t : State} (st : Status), t.link = s.link → (finish st t).Serving := fun {t} st h => by
    obtain ⟨run, eli⟩ := State.link_eq h
    refine serving_finish st ⟨run.trans l.1, ?_⟩ ?_ <;> rw [eli]
    · exact l.2
    · exact counter
  cases c with
  | setSource r source => exact ends _ (link_applySource ..)
  | loadStory => exact ends _ (link_completeStory ..)
  | loadFace a => exact ends _ (link_completeFace ..)
  | edit band op pos count => exact ends _ (link_completeEdit ..)
  | request band r => exact serving_completeConfigure band l counter
  | _ => exact ends _ rfl

/-- R170 check 5: a read of no bytes does not begin. -/
theorem commandPhase_send {c : EdCommand} {n : Nat} {s : State} (l : lengthOk c n = true)
    (h : (commandPhase c n s).1 = .send) : 0 < n := by
  have edits : ∀ band op pos count, (editRunList band op pos count n s).1 ≠ .send := by
    intro band op pos count
    unfold editRunList
    repeat' split
    all_goals exact nofun
  have requests : ∀ band r, (editorialRequest band r n s).1 ≠ .send := by
    intro band r
    unfold editorialRequest
    dsimp only
    repeat' split
    all_goals exact nofun
  by_contra zero
  cases c with
  | readQuotes start count d => obtain ⟨⟨_, _, _⟩, _⟩ := (lengthOk_read rfl).mp l; omega
  | readStories start count => obtain ⟨⟨_, _, _⟩, _⟩ := (lengthOk_read rfl).mp l; omega
  | readFace face start count => obtain ⟨⟨_, _, _, _⟩, _⟩ := (lengthOk_read rfl).mp l; omega
  | readRunList band bank start count d => obtain ⟨_, _⟩ := (lengthOk_read rfl).mp l; omega
  | readBand band => obtain ⟨_, _⟩ := (lengthOk_read rfl).mp l; omega
  | readWindow band => obtain ⟨_, _⟩ := (lengthOk_read rfl).mp l; omega
  | readLanes => have := of_decide_eq_true l; omega
  | readOutput => have := of_decide_eq_true l; omega
  | readEvents => have := of_decide_eq_true l; omega
  | edit band op pos count => exact edits _ _ _ _ h
  | request band r => exact requests _ _ h
  | _ =>
    refine absurd h ?_
    simp only [commandPhase, defineQuote, retireQuote, setSource, setReference, setFlash, laneCommand, setSilenceLimit,
      loadStory, deleteStory, loadFace, unloadFace, loadImages, copyBank, editorialSoftClean, setPin, setLevels,
      editorialThreshold]
    repeat' split
    all_goals exact nofun

/-- R77: image data that is taken stays inside glyph memory. -/
theorem loadImages_receive {offset n : Nat} {s : State} (h : (loadImages offset n s).1 = .receive) :
    offset + n ≤ Config.glyphBytes := by
  unfold loadImages at h
  split at h
  · cases h
  · next inside => omega

/-- R170: a command that is taken leaves the link in order. -/
theorem serving_runCommand (h : EdHeader) (c : EdCommand) {s : State} (l : s.listens) : (runCommand h c s).Serving := by
  have l' : (takeBlock h.tag (some c) h.dataLength s).listens := l
  refine serving_ite (fun length => ?_) (fun _ => serving_finish _ l' (Nat.zero_le _))
  obtain ⟨lt, k, eli⟩ := State.Ticketed.eli (ticketed_commandPhase c h.dataLength _) l'
  have send := commandPhase_send (s := takeBlock h.tag (some c) h.dataLength s) length
  have images : ∀ offset, c = .loadImages offset →
      (commandPhase c h.dataLength (takeBlock h.tag (some c) h.dataLength s)).1 = .receive →
      offset + h.dataLength ≤ Config.glyphBytes := by
    rintro offset rfl received
    exact loadImages_receive received
  generalize commandPhase c h.dataLength (takeBlock h.tag (some c) h.dataLength s) = t at *
  have command : t.2.eli.command = some c := by rw [eli]; rfl
  have length : t.2.eli.dataLength = h.dataLength := by rw [eli]; rfl
  have counter : t.2.eli.counter = 0 := by rw [eli]; rfl
  have none_passed : t.2.eli.counter ≤ t.2.eli.dataLength := by rw [counter]; exact Nat.zero_le _
  have begins : 0 < h.dataLength → t.2.eli.command.isSome = true ∧ t.2.eli.counter < t.2.eli.dataLength := fun pos => by
    rw [command, counter, length]
    exact ⟨rfl, pos⟩
  unfold settle
  split
  · exact serving_finish _ lt none_passed
  · next received =>
    refine serving_ite (fun _ => serving_completeData c lt none_passed) (fun some_data => ?_)
    refine ⟨lt, fun _ => begins (by omega), nofun, nofun, none_passed, fun offset _ named => ?_⟩
    show offset + t.2.eli.dataLength ≤ _
    rw [length]
    exact images offset (Option.some.inj (command.symm.trans named)) received
  · next sends => exact ⟨lt, fun _ => begins (send sends), nofun, nofun, none_passed, fun _ => nofun⟩
  · exact serving_executing lt none_passed

theorem State.inOrder.edCommand {s : State} (o : s.inOrder) (h : EdHeader) (c : EdCommand) : (edCommand h c s).inOrder :=
  o.inPhase _ _ (fun _ serving _ => serving_runCommand h c serving.listens)

theorem State.inOrder.commandFrame {s : State} (o : s.inOrder) (bytes : List Byte) : (commandFrame bytes s).inOrder :=
  o.inPhase _ _ (fun t serving _ => by
    have l := serving.listens
    unfold judgeBlock
    split
    · split
      · exact serving_runCommand _ _ l
      · exact serving_finish _ l (Nat.zero_le _)
    · exact serving_finish _ l (Nat.zero_le _))

/-! ### Data phases -/

/-- R171: a data byte, or an excess byte. -/
theorem State.Serving.receiveByte {s : State} (h : s.Serving) (b : Byte) : (receiveByte b s).Serving := by
  unfold Machine.receiveByte
  split
  · next c phase command =>
    obtain ⟨d, stored⟩ := link_storeByte c s.eli.counter b s
    generalize storeByte c s.eli.counter b s = t at *
    have run : t.run = s.run := congrArg Prod.fst stored
    have eli : t.eli = { s.eli with data := d } := congrArg Prod.snd stored
    have l : t.listens := ⟨run.trans h.listens.1, (congrArg Eli.straddles eli).trans h.listens.2⟩
    have length : t.eli.dataLength = s.eli.dataLength := by rw [eli]
    have counter : t.eli.counter = s.eli.counter := by rw [eli]
    have room := (h.data (.inl phase)).2
    have counted : t.eli.counter + 1 ≤ t.eli.dataLength := by omega
    refine serving_ite (fun _ => serving_completeData c l counted) (fun more => ?_)
    have other : ∀ {p : EdPhase}, t.eli.phase = p → .dataOut = p := fun e =>
      phase.symm.trans ((congrArg Eli.phase eli).symm.trans e)
    refine ⟨l, fun _ => ⟨?_, Nat.lt_of_not_le more⟩, (nomatch other ·), (nomatch other ·), counted,
      fun offset _ named => ?_⟩
    · show t.eli.command.isSome = true
      rw [eli]
      exact Option.isSome_iff_exists.mpr ⟨c, command⟩
    · show offset + t.eli.dataLength ≤ _
      rw [length]
      exact h.images offset phase ((congrArg Eli.command eli).symm.trans named)
  · exact h.phaseError

theorem State.Serving.receiveBytes (bytes : List Byte) : ∀ {s : State}, s.Serving → (receiveBytes bytes s).Serving := by
  induction bytes with
  | nil => exact id
  | cons b t ih => exact fun h => ih (h.receiveByte b)

theorem State.inOrder.dataOut {s : State} (o : s.inOrder) (bytes : List Byte) : (dataOut bytes s).inOrder :=
  o.inPhase _ _ (fun _ serving _ => serving.receiveBytes bytes)

/-- R172: the next byte of a read. -/
theorem State.Serving.sendByte {s : State} (h : s.Serving) : (sendByte s).2.Serving := by
  by_cases reading : s.eli.phase = .dataIn ∧ ∃ c, s.eli.command = some c
  · obtain ⟨phase, c, command⟩ := reading
    rw [sendByte_reading phase command]
    have room := (h.data (.inr phase)).2
    have run : (stepped c s).run = s.run := opened_run c s
    have eli := opened_eli c s
    have phase' : (stepped c s).eli.phase = .dataIn := (congrArg Eli.phase eli).trans phase
    have l : (stepped c s).listens := ⟨run.trans h.listens.1, (congrArg Eli.straddles eli).trans h.listens.2⟩
    have length : (stepped c s).eli.dataLength = s.eli.dataLength := (congrArg Eli.dataLength eli :)
    have counter : (stepped c s).eli.counter = s.eli.counter + 1 := (congrArg (fun e => Eli.counter e + 1) eli :)
    have counted : (stepped c s).eli.counter ≤ (stepped c s).eli.dataLength := by omega
    refine serving_ite (fun _ => ?_) (fun more => ?_)
    · unfold completeRead
      split
      · exact serving_finish _ l counted
      · exact serving_finish _ l counted
    · refine ⟨l, fun _ => ⟨?_, by omega⟩, ?_, ?_, counted, fun _ e => ?_⟩
      · show (opened c s).eli.command.isSome = true
        rw [eli]
        exact Option.isSome_iff_exists.mpr ⟨c, command⟩
      · rw [phase']; exact nofun
      · rw [phase']; exact nofun
      · exact nomatch phase'.symm.trans e
  · rw [sendByte_other reading]
    exact h

theorem State.Serving.sendBytes (n : Nat) : ∀ {s : State}, s.Serving → (sendBytes n s).2.Serving := by
  induction n with
  | zero => exact id
  | succ n ih => exact fun h => ih h.sendByte

theorem State.inOrder.dataIn {s : State} (o : s.inOrder) (n : Nat) : (dataIn n s).inOrder :=
  o.inPhase _ _ (fun _ serving _ => (serving.sendBytes n).drive _)

/-! ### Status and the ends of exchanges -/

theorem inOrder_deviceReset (s : State) : (deviceReset s).inOrder := inOrder_of_idle rfl

/-- R173, R192: the link is in IDLE after its status, and after the reset that a DEVICE RESET begins. -/
theorem inOrder_consumeStatus (s : State) : (consumeStatus s).inOrder :=
  inOrder_ite (fun _ => inOrder_deviceReset _) (fun _ => inOrder_of_idle rfl)

theorem State.inOrder.statusFrame {s : State} (o : s.inOrder) (n : Nat) : (statusFrame n s).inOrder := by
  refine o.inFrame n (fun mode => inOrder_ite (fun _ => o.drive _) (fun initialised => ?_))
  have stray : (strayStatus n s).inOrder := ((mode.resolve_left initialised).phaseError.drive _).inOrder
  split
  case h_1 => exact inOrder_ite (fun _ => inOrder_consumeStatus _) (fun _ => o.drive _)
  case h_2 => exact o.drive _
  all_goals exact stray

theorem State.inOrder.linkReset {s : State} (o : s.inOrder) : (linkReset s).inOrder :=
  o.inFrame 0 (fun _ => (inOrder_of_idle (s := resetLink s) rfl).drive _)

theorem State.inOrder.unknownFrame {s : State} (o : s.inOrder) (n : Nat) : (unknownFrame n s).inOrder :=
  o.inFrame n (fun mode => inOrder_ite (fun _ => o.drive _)
    (fun initialised => ((mode.resolve_left initialised).drive _).phaseError.inOrder))

/-- R169: the end of a frame from before the release of RESET. -/
theorem State.inOrder.deselect {s : State} (h : s.inOrder) : (deselect s).inOrder := by
  obtain ⟨⟨⟨data, status, idle, _, counter⟩, run⟩, images⟩ := h
  exact ⟨⟨⟨data, status, fun e => congrArg (fun e : Eli => { e with straddles := false }) (idle e), nofun, counter⟩, run⟩,
    images⟩

theorem State.inOrder.edFrame {s : State} (o : s.inOrder) (bytes : List Byte) : (edFrame bytes s).inOrder := by
  unfold Machine.edFrame
  split
  · exact o.deselect
  · split
    · exact o.commandFrame _
    · exact o.dataOut _
    · exact o.dataIn _
    · exact o.statusFrame _
    · exact o.linkReset
    · exact o.unknownFrame _

theorem State.inOrder.lastByte {s : State} (o : s.inOrder) (p : EdCommand → Bool) (b : Byte) : (lastByte p b s).inOrder :=
  inOrder_ite (fun _ => o.dataOut _) (fun _ => o)

/-! ### Every row -/

/-- The row does not stop, and the link is in order after it. -/
def Orderly (o : Host.Outcome State Fault Refusal) : Prop := ∃ t, o = .next t ∧ t.inOrder

theorem Orderly.next {t : State} (h : t.inOrder) : Orderly (.next t) := ⟨t, rfl, h⟩

/-- A command of both masters. -/
theorem orderly_via {s : State} (o : s.inOrder) (via : Via) (c : EdCommand) (f : State → State)
    (h : ∀ t : State, (f t).link = t.link) :
    Orderly (match via with
      | .editorial h => .next (edCommand h c s)
      | .panel => .next (whenRunning f s)) := by
  split
  · exact .next (o.edCommand ..)
  · exact .next (inOrder_ite (fun _ => o.of_link (h s)) (fun _ => o))

/-- R77: with the link in order no data byte reaches outside glyph memory. -/
theorem State.inOrder.imagesInside {s : State} (o : s.inOrder) : imagesOutside s = false := by
  unfold imagesOutside
  split
  · next offset phase command => exact decide_eq_false (Nat.not_lt_of_le (o.2 offset phase command))
  · rfl

theorem orderly_images {s t : State} (o : s.inOrder) (h : t.inOrder) :
    Orderly (if imagesOutside s then .fault .glyphAddress else .next t) := by
  rw [o.imagesInside]
  exact .next h

theorem orderly_takeAlone {s : State} (o : s.inOrder) (origin : Origin) (b : Fin 4) (r : BandRequest) :
    Orderly (.next (takeAlone origin b r s)) := .next (inOrder_ite (fun _ => o.takeRequest ..) (fun _ => o))

theorem orderly_whenRunning {s : State} (o : s.inOrder) {f : State → State} (h : (f s).link = s.link) :
    Orderly (.next (whenRunning f s)) := .next (inOrder_ite (fun _ => o.of_link h) (fun _ => o))

theorem orderly_onBus {s : State} (o : s.inOrder) {f : State → State} (h : (f s).link = s.link) :
    Orderly (.next (onBus f s)) := .next (inOrder_ite (fun _ => o) (fun _ => o.of_link h))

theorem orderly_exec (i : Instr) {s : State} (o : s.inOrder) : Orderly (exec i s) := by
  have same : ∀ {t : State}, t.link = s.link → Orderly (.next t) := fun h => .next (o.of_link h)
  cases i with
  | powerOn levels time => exact .next (inOrder_of_idle rfl)
  | resetAsserted => exact .next (inOrder_of_idle rfl)
  | initDone => exact .next (inOrder_ite (fun _ => ⟨⟨o.1.1, absurd rfl⟩, o.2⟩) (fun _ => o))
  | deviceResetStart => exact .next (inOrder_ite (fun _ => inOrder_deviceReset s) (fun _ => o))
  | referencePulse time =>
    exact .next (inOrder_ite (fun _ => inOrder_ite (fun _ => o) (fun _ => o.frameStart rfl))
      (fun _ => o.frameStart (link_raiseTiming _)))
  | lossLimit => exact .next (inOrder_ite (fun _ => o.frameStart (link_raiseTiming _)) (fun _ => o))
  | freeRunPeriod => exact .next (inOrder_ite (fun _ => o) (fun _ => o.frameStart rfl))
  | flashExpired index => exact same rfl
  | laneSilent lane => exact same (link_ite (link_countSilence ..) rfl)
  | drainEnd band => exact same (link_drainEndStep ..)
  | clearingEnd band => exact same (link_clearingEndStep ..)
  | holdExpired band => exact same (link_flipAlone _ _ _ s (fun c => link_expirePage ..))
  | rollEnd band => exact same (link_flipAlone _ _ _ s (fun c => link_endRoll ..))
  | leavingEnd band => exact same (link_flipAlone _ _ _ s (fun c => link_endLeaving ..))
  | fadeOutComplete band => exact same (link_ite (link_moveBand ..) rfl)
  | fadeInComplete band =>
    refine same ?_
    split
    · rfl
    · exact link_ite (link_moveBand ..) rfl
  | bankSwap band => exact orderly_whenRunning o rfl
  | retiringRecordFreed index => exact same rfl
  | deletingStoryFreed id => exact same (link_freeStoryIfGone ..)
  | cleanRequest level => exact same rfl
  | feedPacket bytes => exact same (link_ite rfl (link_feedBytes ..))
  | feedStatusRecordSent =>
    refine same ?_
    split
    · rfl
    · exact link_endRecord ..
  | updateEngineTurn => exact same (link_engineTurn s)
  | commandFrame bytes => exact .next (o.commandFrame _)
  | dataOutFrame bytes => exact orderly_images o (o.dataOut _)
  | dataInFrame count => exact .next (o.dataIn _)
  | statusFrame count => exact .next (o.statusFrame _)
  | linkReset => exact .next o.linkReset
  | setSourceDataComplete last => exact .next (o.lastByte ..)
  | laneHold via lane => exact orderly_via o via _ _ (fun t => link_panelLaneCommand _ _ t (fun _ => rfl))
  | laneRelease via lane => exact orderly_via o via _ _ (fun t => link_panelLaneCommand _ _ t (fun _ => rfl))
  | linkRelease via => exact orderly_via o via _ _ link_releaseLink
  | loadStoryComplete last => exact .next (o.lastByte ..)
  | loadFaceComplete last => exact .next (o.lastByte ..)
  | loadGlyphImagesComplete last => exact orderly_images o (o.lastByte ..)
  | editDataComplete last => exact .next (o.lastByte ..)
  | softClean via value => exact orderly_via o via _ _ (link_panelSoftClean value)
  | setThreshold via value => exact orderly_via o via _ _ (link_panelThreshold value)
  | readEventsComplete => exact .next (inOrder_ite (fun _ => o.dataIn _) (fun _ => o))
  | bandRequestQueued a =>
    cases a with
    | editorial h band r => exact .next (o.edCommand ..)
    | panel band r => exact orderly_whenRunning o (link_panelRequest ..)
  | allTakeOff cut => exact orderly_whenRunning o (link_panelBroadcast ..)
  | allHalt => exact orderly_whenRunning o (link_panelBroadcast ..)
  | allResume => exact orderly_whenRunning o (link_panelBroadcast ..)
  | panelWrite bytes => exact orderly_onBus o (link_writeBytes ..)
  | startCondition => exact orderly_onBus o (link_restart ..)
  | stopCondition => exact orderly_onBus o (link_restart ..)
  | panelStatusRead clocked => exact orderly_onBus o ((link_clockRead ..).trans (link_writeBytes ..))
  | panelStatusReadComplete => exact same (link_ite rfl (link_clockRead ..))
  | frameOfUnknownKind kind => exact .next (o.edFrame _)
  | configure ticket band record => exact orderly_takeAlone o ..
  | release ticket band => exact orderly_takeAlone o ..
  | takeOn origin band fromTop => exact orderly_takeAlone o ..
  | takeOffDrain origin band => exact orderly_takeAlone o ..
  | takeOffCut origin band => exact orderly_takeAlone o ..
  | halt origin band => exact orderly_takeAlone o ..
  | resume origin band => exact orderly_takeAlone o ..
  | setSpeed ticket band value => exact orderly_takeAlone o ..
  | nudge band up => exact orderly_takeAlone o ..
  | commit ticket band mode => exact orderly_takeAlone o ..
  | breakNext ticket band story repeats => exact orderly_takeAlone o ..
  | breakNow ticket band story repeats => exact orderly_takeAlone o ..
  | breakClear ticket band => exact orderly_takeAlone o ..
  | _ => exact .next (o.edCommand ..)

/-- Settles O59: an idle step leaves the link as it is, and every row is orderly. -/
theorem noStepStops : Obligations.NoStepStops := by
  unfold Obligations.NoStepStops
  intro s link images
  have o : s.inOrder := ⟨link, images⟩
  have orderly : Orderly (step s) := by
    unfold step
    split
    · exact .next (o.of_link (link_sendFeedByte s))
    · exact orderly_exec _ (o.of_link rfl)
  exact orderly

end Sys2Proof.Machine

/-! SUPPORT. The text store: the designation of a load, its data, its completion, and deletions. -/

namespace Sys2Proof.Machine

/-! ### Story records -/

/-- Two updates that agree on the story record they change agree. -/
theorem State.updStory_congr {s : State} {i : Fin 256} {f g : Story → Story} (h : f (s.story i) = g (s.story i)) :
    s.updStory i f = s.updStory i g := by
  unfold State.updStory tupd
  rw [show f (tget s.ts.stories i) = g (tget s.ts.stories i) from h]

/-- The lowest story that passes a test is the one found. -/
theorem findStory_lowest {s : State} {p : Story → Bool} {i : Fin 256} (passes : p (s.story i) = true)
    (lowest : ∀ j, p (s.story j) = true → i ≤ j) : s.findStory p = some i := by
  refine List.find?_eq_some_iff_getElem.mpr ⟨passes, i.val, by simp, by simp, fun j lt => ?_⟩
  rw [List.getElem_finRange]
  by_contra fails
  have := Fin.le_def.mp (lowest _ (by simpa using fails))
  dsimp only at this
  omega

theorem findStory_none {s : State} {p : Story → Bool} (h : ∀ i, p (s.story i) = false) : s.findStory p = none :=
  List.find?_eq_none.mpr (fun i _ => by simp [h i])

/-! ### Deletions (R71, R72) -/

theorem insertBlock_ordered {n : Nat} {l : List Nat} (h : l.Pairwise (· ≤ ·)) : (insertBlock n l).Pairwise (· ≤ ·) := by
  induction l with
  | nil => simp [insertBlock]
  | cons m t ih =>
    obtain ⟨first, rest⟩ := List.pairwise_cons.mp h
    unfold insertBlock
    split
    · next le =>
      refine List.pairwise_cons.mpr ⟨fun x hx => ?_, h⟩
      rcases List.mem_cons.mp hx with rfl | hx
      · exact le
      · exact le.trans (first x hx)
    · next gt =>
      refine List.pairwise_cons.mpr ⟨fun x hx => ?_, ih rest⟩
      rcases mem_insertBlock.mp hx with rfl | hx
      · exact (Nat.lt_of_not_le gt).le
      · exact first x hx

theorem insertBlocks_ordered (bs : List Nat) {l : List Nat} (h : l.Pairwise (· ≤ ·)) :
    (bs.foldr insertBlock l).Pairwise (· ≤ ·) := by
  induction bs with
  | nil => exact h
  | cons b t ih => exact insertBlock_ordered ih

/-- R72: story `i` is FREE with this generation, and its blocks have returned to the free set. -/
def State.freedStory (s : State) (i : Fin 256) (gen : Nat) : State :=
  { s with ts := { s.ts with
    stories := tupd s.ts.stories i (fun _ => Story.free gen)
    freeBlocks := (s.story i).blocks.foldr insertBlock s.ts.freeBlocks } }

theorem freeStoryIfGone_gone {s : State} {i : Fin 256} (deleting : (s.story i).state = .deleting)
    (gone : (s.story i).count = 0) : freeStoryIfGone i s = s.freedStory i (s.story i).gen := if_pos ⟨deleting, gone⟩

theorem freeStoryIfGone_other {s : State} {i : Fin 256} (h : ¬ ((s.story i).state = .deleting ∧ (s.story i).count = 0)) :
    freeStoryIfGone i s = s := if_neg h

/-- A change of the record that keeps its blocks does not outlast the freeing. -/
theorem freedStory_updStory {s : State} {i : Fin 256} {f : Story → Story} (gen : Nat)
    (blocks : (f (s.story i)).blocks = (s.story i).blocks) : (s.updStory i f).freedStory i gen = s.freedStory i gen := by
  have stories : tupd (tupd s.ts.stories i f) i (fun _ => Story.free gen) = tupd s.ts.stories i (fun _ => Story.free gen) := by
    apply table_ext
    intro j
    simp only [tget_tupd]
    split <;> rfl
  have own : ((s.updStory i f).story i).blocks = (s.story i).blocks := by rw [State.updStory_story, if_pos rfl, blocks]
  unfold State.freedStory
  rw [own]
  exact congrArg (fun v => { s with ts := { s.ts with
    stories := v, freeBlocks := (s.story i).blocks.foldr insertBlock s.ts.freeBlocks } }) stories

theorem freedStory_own (s : State) (i : Fin 256) (gen : Nat) : (s.freedStory i gen).story i = Story.free gen :=
  tget_tupd_self ..

theorem freedStory_ne (s : State) {i j : Fin 256} (gen : Nat) (h : j ≠ i) : (s.freedStory i gen).story j = s.story j :=
  tget_tupd_ne _ h.symm

theorem mem_freedStory (s : State) (i : Fin 256) (gen k : Nat) :
    k ∈ (s.freedStory i gen).ts.freeBlocks ↔ k ∈ s.ts.freeBlocks ∨ k ∈ (s.story i).blocks :=
  mem_insertBlocks.trans or_comm

theorem deleteStory_fails {s : State} {r : Ref} (h : s.resolvesStory r = false) :
    deleteStory r s = (.answer .notFound noValues, s) := by
  unfold deleteStory
  split
  · exact if_neg (by simp [h])
  · rfl

/-- R71: what DELETE STORY does to the story of a reference that resolves. -/
theorem deleteStory_resolves {s : State} {i : Fin 256} {r : Ref} (index : r.index = i.val) (h : s.resolvesStory r = true) :
    deleteStory r s = (.answer .good (refValues i.val (nextGen r.gen)),
      if (s.story i).count = 0 then s.freedStory i (nextGen r.gen)
      else s.updStory i (fun d => { d with state := .deleting, gen := nextGen r.gen })) := by
  obtain ⟨n, gen⟩ := r
  obtain rfl : n = i.val := index
  obtain ⟨_, j, same, _, held⟩ := State.resolvesStory_iff.mp h
  obtain rfl : i = j := Fin.ext same
  have marked : s.updStory i (fun st => { st with state := .deleting, gen := nextGen st.gen }) =
      s.updStory i (fun d => { d with state := .deleting, gen := nextGen gen }) :=
    State.updStory_congr (by rw [held])
  have own : (s.updStory i (fun d => { d with state := .deleting, gen := nextGen gen })).story i =
      { s.story i with state := .deleting, gen := nextGen gen } := by rw [State.updStory_story, if_pos rfl]
  unfold deleteStory
  rw [dif_pos i.isLt, if_pos h, marked]
  refine congrArg (Prod.mk _) ?_
  split
  · next gone =>
    rw [freeStoryIfGone_gone (by rw [own]) (by rw [own]; exact gone), own]
    exact freedStory_updStory _ rfl
  · next shown => exact freeStoryIfGone_other (by rw [own]; exact fun h => shown h.2)

/-- Settles O26: the command by the on-screen count, and the single step in every state. -/
theorem Settled.deleteStory : Obligations.DeleteStory := by
  unfold Obligations.DeleteStory
  intro freed
  have is_freed : ∀ (s : State) (i : Fin 256) (gen : Nat), freed s i gen (s.freedStory i gen) := fun s i gen =>
    ⟨rfl, rfl, rfl, freedStory_own s i gen, fun j ne => freedStory_ne s gen ne, mem_freedStory s i gen,
      insertBlocks_ordered _⟩
  refine ⟨fun s h r k zero => ?_, fun s i => ⟨fun deleting gone => ?_, fun other => ?_⟩⟩
  · have ends : ∀ {v w} {t : State}, Machine.deleteStory r (s.takes .idle h (.deleteStory r)) =
        (.answer v w, t.takes .idle h (.deleteStory r)) →
        exec (.deleteStory h r) s = .next (t.answers h (.deleteStory r) v w) :=
      fun phase => congrArg Host.Outcome.next (edCommand_answer k rfl zero phase)
    refine ⟨fun fails => ends (deleteStory_fails fails), fun i index resolves => ?_⟩
    have deleted := deleteStory_resolves (s := s.takes .idle h (.deleteStory r)) index resolves
    exact ⟨fun gone => ⟨_, is_freed s i (nextGen r.gen), ends (deleted.trans (congrArg (Prod.mk _) (if_pos gone)))⟩,
      fun shown => ends (deleted.trans (congrArg (Prod.mk _) (if_neg shown)))⟩
  · exact ⟨_, is_freed s i _, congrArg Host.Outcome.next (freeStoryIfGone_gone deleting gone)⟩
  · exact congrArg Host.Outcome.next (freeStoryIfGone_other other)

end Sys2Proof.Machine

/-! SUPPORT. Bytes written one after another into a memory, a story's load from its command to its last byte, and its text read
back. -/

namespace Sys2Proof.Machine

/-! ### Bytes written one after another -/

/-- The bytes written one after another, the byte of place `k` at the address `f k`; the first is of place `k`. -/
def Memory.writes (f : Nat → Nat) : Nat → List Byte → Memory → Memory
  | _, [], m => m
  | k, b :: t, m => Memory.writes f (k + 1) t (Memory.write m (f k) b)

theorem Memory.writes_append (f : Nat → Nat) (l l' : List Byte) : ∀ (k : Nat) (m : Memory),
    Memory.writes f k (l ++ l') m = Memory.writes f (k + l.length) l' (Memory.writes f k l m) := by
  induction l with
  | nil => exact fun _ _ => rfl
  | cons b t ih =>
    intro k m
    rw [List.cons_append, Memory.writes, ih, Memory.writes, List.length_cons, Nat.add_assoc, Nat.add_comm 1]

/-- An address of no place reads as before. -/
theorem Memory.read_writes_other {f : Nat → Nat} {a : Nat} (l : List Byte) : ∀ {k : Nat} {m : Memory}, Memory.wf m = true →
    (∀ j, k ≤ j → j < k + l.length → a ≠ f j) → Memory.read (Memory.writes f k l m) a = Memory.read m a := by
  induction l with
  | nil => exact fun _ _ => rfl
  | cons b t ih =>
    intro k m wf apart
    rw [List.length_cons] at apart
    rw [Memory.writes, ih (Memory.wf_write _ _ wf) (fun j low high => apart j (by omega) (by omega)), Memory.read_write wf,
      if_neg (apart k (Nat.le_refl k) (by omega))]

/-- Where no two places share an address, each address reads as the byte of its place. -/
theorem Memory.read_writes_place {f : Nat → Nat} (l : List Byte) : ∀ {k : Nat} {m : Memory}, Memory.wf m = true →
    (∀ i j, k ≤ i → i < j → j < k + l.length → f i ≠ f j) → ∀ {j : Nat}, j < l.length →
    Memory.read (Memory.writes f k l m) (f (k + j)) = byteAt l j := by
  induction l with
  | nil => exact fun _ _ j lt => absurd lt (Nat.not_lt_zero j)
  | cons b t ih =>
    intro k m wf distinct j lt
    rw [List.length_cons] at distinct lt
    cases j with
    | zero =>
      have apart : ∀ j, k + 1 ≤ j → j < k + 1 + t.length → f k ≠ f j := fun j low high =>
        distinct k j (Nat.le_refl k) low (by omega)
      show Memory.read (Memory.writes f (k + 1) t (Memory.write m (f k) b)) (f k) = b
      rw [Memory.read_writes_other t (Memory.wf_write _ _ wf) apart, Memory.read_write wf, if_pos rfl]
    | succ j =>
      have rest := ih (k := k + 1) (Memory.wf_write (f k) b wf)
        (fun i j low lt high => distinct i j (by omega) lt (by omega)) (j := j) (by omega)
      rw [Nat.add_assoc, Nat.add_comm 1] at rest
      exact rest

/-! ### LOAD STORY at its command phase (R69) -/

theorem loadStory_badLength {n : Nat} (s : State) (h : ¬ (n ≠ 0 ∧ n % 2 = 0 ∧ n ≤ 4096)) : loadStory n s = (badParam, s) := by
  refine if_pos ?_
  show n = 0 ∨ n % 2 = 1 ∨ 4096 < n
  omega

/-- A length in range is judged by the stories and the blocks. -/
theorem loadStory_of_valid {n : Nat} (s : State) (h : n ≠ 0 ∧ n % 2 = 0 ∧ n ≤ 4096) : loadStory n s =
    match s.findStory (fun st => decide (st.state = .free)) with
    | none => (.answer .full noValues, s)
    | some i =>
      if s.ts.freeBlocks.length < (n / 2 + 31) / 32 then (.answer .full noValues, s)
      else (.receive, { s with ts := { s.ts with loadTarget := some ⟨i, s.ts.freeBlocks.take ((n / 2 + 31) / 32)⟩ } }) := by
  refine (if_neg ?_).trans rfl
  show ¬ (n = 0 ∨ n % 2 = 1 ∨ 4096 < n)
  omega

theorem loadStory_full {n : Nat} {s : State} (h : n ≠ 0 ∧ n % 2 = 0 ∧ n ≤ 4096)
    (want : (∀ i, (s.story i).state ≠ .free) ∨ s.ts.freeBlocks.length < (n / 2 + 31) / 32) :
    loadStory n s = (.answer .full noValues, s) := by
  rw [loadStory_of_valid s h]
  split
  · rfl
  · next i found =>
    have free : (s.story i).state = .free := by
      simpa using List.find?_some (p := fun i => decide ((s.story i).state = .free)) found
    exact if_pos (want.resolve_left (fun none => none i free))

theorem loadStory_designates {n : Nat} {s : State} {i : Fin 256} (h : n ≠ 0 ∧ n % 2 = 0 ∧ n ≤ 4096)
    (enough : (n / 2 + 31) / 32 ≤ s.ts.freeBlocks.length) (free : (s.story i).state = .free)
    (lowest : ∀ j, (s.story j).state = .free → i ≤ j) : loadStory n s =
      (.receive, { s with ts := { s.ts with loadTarget := some ⟨i, s.ts.freeBlocks.take ((n / 2 + 31) / 32)⟩ } }) := by
  rw [loadStory_of_valid s h,
    findStory_lowest (p := fun st => decide (st.state = .free)) (decide_eq_true free) (fun j k => lowest j (of_decide_eq_true k))]
  exact if_neg (Nat.not_lt_of_le enough)

/-! ### A story's data (R67, R70) -/

/-- R67: the address of byte `k` of a story in these blocks: 64 bytes a block. -/
def storyAddress (blocks : List Nat) (k : Nat) : Nat := 64 * blocks.getD (k / 64) 0 + k % 64

theorem writeStoryByte_target {s : State} {l : LoadTarget} (h : s.ts.loadTarget = some l) (k : Nat) (b : Byte) :
    writeStoryByte k b s =
      { s with ts := { s.ts with text := Memory.write s.ts.text (storyAddress l.blocks k) b } } := by
  unfold writeStoryByte
  rw [h]
  rfl

/-- R70: the store when the last byte of a load has arrived: the target is LOADED and holds its blocks. -/
def TextStore.completed (ts : TextStore) (l : LoadTarget) (gen n : Nat) : TextStore :=
  { ts with
    stories := tupd ts.stories l.id (fun _ => ⟨.loaded, gen, n / 2, l.blocks, 0⟩)
    freeBlocks := ts.freeBlocks.filter (fun b => !l.blocks.contains b)
    loadTarget := none }

theorem mem_completed {ts : TextStore} {l : LoadTarget} {gen n k : Nat} :
    k ∈ (ts.completed l gen n).freeBlocks ↔ k ∈ ts.freeBlocks ∧ k ∉ l.blocks := by
  simp [TextStore.completed]

theorem completeStory_target {s : State} {l : LoadTarget} (h : s.ts.loadTarget = some l) (n : Nat) :
    completeStory n s = (⟨.good, 0, refValues l.id.val (nextGen (s.story l.id).gen)⟩,
      { s with ts := s.ts.completed l (nextGen (s.story l.id).gen) n }) := by
  unfold completeStory
  rw [h]
  rfl

/-- R70: the completion of a load whose last byte has been stored. -/
theorem completeData_loadStory {s : State} {l : LoadTarget} (h : s.ts.loadTarget = some l) :
    completeData .loadStory s = finish ⟨.good, 0, refValues l.id.val (nextGen (s.story l.id).gen)⟩
      { s with ts := s.ts.completed l (nextGen (s.story l.id).gen) s.eli.dataLength } := by
  show finish (completeStory s.eli.dataLength s).1 (completeStory s.eli.dataLength s).2 = _
  rw [completeStory_target h]

/-- R70: the last byte of a load, in a frame of its own. -/
theorem exec_loadStoryComplete {s : State} {l : LoadTarget} (last : Byte) (await : s.awaitsLast .loadStory)
    (h : s.ts.loadTarget = some l) :
    exec (.loadStoryComplete last) s = .next { s with
      ts := { s.ts with text := Memory.write s.ts.text (storyAddress l.blocks s.eli.counter) last }.completed l
        (nextGen (s.story l.id).gen) s.eli.dataLength
      eli := s.eli.completed ⟨.good, 0, refValues l.id.val (nextGen (s.story l.id).gen)⟩ } := by
  have run : exec (.loadStoryComplete last) s = .next (completeData .loadStory
      ((writeStoryByte s.eli.counter last (driveZeros 1 s)).updEli (fun e => { e with counter := e.counter + 1 }))) :=
    congrArg Host.Outcome.next (lastByte_of_awaitsLast last await rfl)
  have stored : writeStoryByte s.eli.counter last (driveZeros 1 s) = _ := writeStoryByte_target (by exact h) _ _
  rw [run, stored, completeData_loadStory (by exact h)]
  rfl

/-- Settles O24: the refusals and the designation, and the arrival of the last byte. -/
theorem Settled.loadStory : Obligations.LoadStory := by
  unfold Obligations.LoadStory
  refine ⟨fun s h k => ?_, fun s last target await designated => ?_⟩
  · intro valid needed
    have run : ∀ {t}, Machine.loadStory h.dataLength (s.takes .idle h .loadStory) = t →
        exec (.loadStory h) s = .next (settle .loadStory h.dataLength t) := fun phase =>
      congrArg Host.Outcome.next (edCommand_eq k rfl phase)
    refine ⟨fun bad => ?_, fun ok want => ?_, fun i ok enough free lowest => ?_⟩
    · rw [run (loadStory_badLength _ bad)]
      rfl
    · rw [run (loadStory_full ok (by exact want))]
      rfl
    · rw [run (loadStory_designates ok (by exact enough) (by exact free) (by exact lowest))]
      exact congrArg Host.Outcome.next (if_neg ok.1)
  · refine ⟨_, exec_loadStoryComplete last await designated, rfl, tget_tupd_self .., fun j ne => tget_tupd_ne _ ne.symm,
      fun k => mem_completed, rfl, fun block here wf a => ?_⟩
    have address : storyAddress target.blocks s.eli.counter = 64 * block + s.eli.counter % 64 := by
      rw [storyAddress, List.getD_eq_getElem?_getD, here]
      rfl
    rw [← address]
    exact Memory.read_write wf _ a last

end Sys2Proof.Machine

/-! SUPPORT. A story sent whole: its bytes in one frame, and its text and that of the others read from the blocks. -/

namespace Sys2Proof.Machine

/-! ### The bytes of a frame -/

/-- Data bytes of two runs are the bytes of one run (R171). -/
theorem receiveBytes_append (l l' : List Byte) : ∀ s : State, receiveBytes (l ++ l') s = receiveBytes l' (receiveBytes l s) := by
  induction l with
  | nil => exact fun _ => rfl
  | cons b t ih => exact fun s => ih (receiveByte b s)

/-- R70, R171: bytes of a story before its last. -/
theorem receiveBytes_story {l : LoadTarget} (bytes : List Byte) : ∀ {s : State}, s.eli.phase = .dataOut →
    s.eli.command = some .loadStory → s.ts.loadTarget = some l → s.eli.counter + bytes.length < s.eli.dataLength →
    receiveBytes bytes s = { s with
      ts := { s.ts with text := Memory.writes (storyAddress l.blocks) s.eli.counter bytes s.ts.text }
      eli := { s.eli with counter := s.eli.counter + bytes.length } } := by
  induction bytes with
  | nil => exact fun _ _ _ _ => rfl
  | cons b t ih =>
    intro s phase command target more
    rw [List.length_cons] at more
    have stored : storeByte .loadStory s.eli.counter b s = _ := writeStoryByte_target target _ _
    rw [receiveBytes, receiveByte_more b phase command (by omega), stored,
      ih (by exact phase) (by exact command) (by exact target) (by show s.eli.counter + 1 + t.length < s.eli.dataLength; omega)]
    show ({ s with ts := _, eli := { s.eli with counter := s.eli.counter + 1 + t.length } } : State) = _
    rw [List.length_cons, Nat.add_assoc, Nat.add_comm 1]
    rfl

/-- R70: the store when the bytes of a whole story have come in one frame. -/
theorem exec_dataOutFrame_story {s : State} {l : LoadTarget} {bytes : List Byte} (k : s.listens) (phase : s.eli.phase = .dataOut)
    (command : s.eli.command = some .loadStory) (target : s.ts.loadTarget = some l) (begins : s.eli.counter = 0)
    (some_data : bytes ≠ []) (whole : bytes.length = s.eli.dataLength) :
    ∃ u, exec (.dataOutFrame bytes) s = .next u ∧
      u.ts = { s.ts with text := Memory.writes (storyAddress l.blocks) 0 bytes s.ts.text }.completed l
        (nextGen (s.story l.id).gen) s.eli.dataLength := by
  have inside : imagesOutside s = false := by
    unfold imagesOutside
    rw [phase, command]
  have run : exec (.dataOutFrame bytes) s = .next (receiveBytes bytes (driveZeros bytes.length s)) :=
    (if_neg (by simp [inside])).trans (congrArg Host.Outcome.next (inPhase_of_phase _ _ k phase))
  refine ⟨_, run, ?_⟩
  obtain ⟨front, last, rfl⟩ := List.eq_nil_or_concat' bytes |>.resolve_left some_data
  rw [List.length_append, List.length_singleton] at whole ⊢
  have most := receiveBytes_story (s := driveZeros (front.length + 1) s) (l := l) front phase command target
    (by show s.eli.counter + front.length < s.eli.dataLength; omega)
  rw [receiveBytes_append]
  generalize receiveBytes front (driveZeros (front.length + 1) s) = t at most
  have target' : t.ts.loadTarget = some l := by rw [most]; exact target
  have counter : t.eli.counter = front.length := by rw [most]; show s.eli.counter + _ = _; omega
  have stored : storeByte .loadStory t.eli.counter last t = _ := writeStoryByte_target target' _ _
  rw [receiveBytes, receiveBytes, receiveByte_last last (by rw [most]; exact phase) (by rw [most]; exact command)
    (by rw [counter, most]; exact whole.symm.le), stored, completeData_loadStory (by exact target'), counter,
    Memory.writes_append, Nat.zero_add, most]
  show TextStore.completed { s.ts with text := Memory.write (Memory.writes _ s.eli.counter front s.ts.text) _ last } _ _ _ = _
  rw [begins]
  rfl

/-! ### Text read back -/

/-- R67: the two bytes of code `k` of a story are its bytes `2 k` and `2 k + 1`. -/
theorem textAddress_code (blocks : List Nat) (k : Nat) :
    textAddress (blocks.getD (k / 32) 0) (k % 32) = storyAddress blocks (2 * k) ∧
      textAddress (blocks.getD (k / 32) 0) (k % 32) + 1 = storyAddress blocks (2 * k + 1) := by
  unfold storyAddress
  rw [show 2 * k / 64 = k / 32 by omega, show (2 * k + 1) / 64 = k / 32 by omega]
  generalize blocks.getD (k / 32) 0 = b
  constructor
  · show 64 * b + 2 * (k % 32) = _
    omega
  · show 64 * b + 2 * (k % 32) + 1 = _
    omega

/-- R66: the text of a story, by the bytes of its blocks. -/
theorem State.storyText_eq (s : State) (i : Fin 256) : s.storyText i.val = (List.range (s.story i).length).map (fun k =>
    256 * (Memory.read s.ts.text (storyAddress (s.story i).blocks (2 * k))).toNat +
      (Memory.read s.ts.text (storyAddress (s.story i).blocks (2 * k + 1))).toNat) := by
  unfold State.storyText
  rw [State.storyAt_fin]
  refine List.map_congr_left (fun k _ => ?_)
  obtain ⟨high, low⟩ := textAddress_code (s.story i).blocks k
  show (Memory.read s.ts.text (textAddress _ (k % 32))).toNat * 256 + (Memory.read s.ts.text (textAddress _ (k % 32) + 1)).toNat = _
  rw [low, high, Nat.mul_comm]

/-- Two places of a story whose blocks are distinct have two addresses. -/
theorem storyAddress_ne {blocks : List Nat} (nodup : blocks.Nodup) {i j : Nat} (lt : i < j) (high : j < 64 * blocks.length) :
    storyAddress blocks i ≠ storyAddress blocks j := by
  unfold storyAddress
  rw [List.getD_eq_getElem blocks 0 (n := i / 64) (by omega), List.getD_eq_getElem blocks 0 (n := j / 64) (by omega)]
  by_cases same : i / 64 = j / 64
  · simp only [same]
    omega
  · have := mt (nodup.getElem_inj_iff (hi := by omega) (hj := by omega)).mp same
    omega

/-- Places of stories in blocks apart have two addresses. -/
theorem storyAddress_ne_apart {blocks others : List Nat} {i j : Nat} (hi : i < 64 * blocks.length) (hj : j < 64 * others.length)
    (apart : ∀ k ∈ blocks, k ∉ others) : storyAddress blocks i ≠ storyAddress others j := by
  unfold storyAddress
  rw [List.getD_eq_getElem blocks 0 (n := i / 64) (by omega), List.getD_eq_getElem others 0 (n := j / 64) (by omega)]
  have ne : blocks[i / 64]'(by omega) ≠ others[j / 64]'(by omega) := fun e =>
    apart _ (List.getElem_mem _) (by rw [e]; exact List.getElem_mem _)
  omega

/-- Settles O25: the whole frame, then what each address reads. -/
theorem storyReadsBack : Obligations.StoryReadsBack := by
  unfold Obligations.StoryReadsBack
  intro s h bytes i k wf distinct length some_data even fits enough free lowest
  have started : exec (.loadStory h) s = _ := (Settled.loadStory.1 s h k).2.2 i ⟨some_data, even, fits⟩ enough free lowest
  generalize target : s.ts.freeBlocks.take ((h.dataLength / 2 + 31) / 32) = blocks at started
  have size : blocks.length = (h.dataLength / 2 + 31) / 32 := by rw [← target, List.length_take, Nat.min_eq_left enough]
  have nodup : blocks.Nodup := target ▸ distinct.sublist (List.take_sublist ..)
  have inside : ∀ b ∈ blocks, b ∈ s.ts.freeBlocks := fun b mem => List.mem_of_mem_take (target ▸ mem)
  obtain ⟨u, sent, store⟩ := exec_dataOutFrame_story (l := ⟨i, blocks⟩) (bytes := bytes)
    (s := { s with ts := { s.ts with loadTarget := some ⟨i, blocks⟩ } }.takes .dataOut h .loadStory) k.1 rfl rfl rfl rfl
    (by rintro rfl; exact some_data length.symm) length
  have text : u.ts.text = Memory.writes (storyAddress blocks) 0 bytes s.ts.text := by rw [store]; rfl
  have own : u.story i = ⟨.loaded, nextGen (s.story i).gen, h.dataLength / 2, blocks, 0⟩ := by
    rw [State.story, store]
    exact tget_tupd_self ..
  refine ⟨_, u, started, sent, by rw [own], ?_, fun j ne long apart => ?_⟩
  · have byte : ∀ p, p < bytes.length → Memory.read u.ts.text (storyAddress blocks p) = byteAt bytes p := fun p lt => by
      have place := Memory.read_writes_place (f := storyAddress blocks) bytes (k := 0) wf
        (fun i j _ lt high => storyAddress_ne nodup lt (by omega)) lt
      rw [Nat.zero_add] at place
      rw [text, place]
    rw [State.storyText_eq, own]
    refine List.map_congr_left (fun k mem => ?_)
    have place : k < h.dataLength / 2 := List.mem_range.mp mem
    rw [byte (2 * k) (by omega), byte (2 * k + 1) (by omega)]
  · have other : u.story j = s.story j := by
      rw [State.story, store]
      exact tget_tupd_ne _ ne.symm
    have byte : ∀ p, p < 64 * (s.story j).blocks.length → Memory.read u.ts.text (storyAddress (s.story j).blocks p) =
        Memory.read s.ts.text (storyAddress (s.story j).blocks p) := fun p lt => by
      rw [text]
      exact Memory.read_writes_other bytes wf (fun q _ high => storyAddress_ne_apart lt (by omega)
        (fun b held taken => apart b held (inside b taken)))
    rw [State.storyText_eq, State.storyText_eq, other]
    refine List.map_congr_left (fun k mem => ?_)
    have place := List.mem_range.mp mem
    rw [byte (2 * k) (by omega), byte (2 * k + 1) (by omega)]

end Sys2Proof.Machine

/-! SUPPORT. The glyph store: images written byte by byte, faces replaced whole, and the refusals of the commands for both. -/

namespace Sys2Proof.Machine

/-! ### Use of faces (R75) -/

theorem State.drawingUse_iff {s : State} {f : Fin 4} : s.drawingUse f = true ↔
    ∃ b c, (s.band b).prog.drawing = true ∧ (s.band b).config = some c ∧ c.face = f := by
  simp [State.drawingUse, mem_tlist, State.band]

theorem State.configuredUse_iff {s : State} {f : Fin 4} : s.configuredUse f = true ↔
    ∃ b c, (s.band b).prog ≠ .off ∧ (s.band b).config = some c ∧ c.face = f := by
  simp [State.configuredUse, mem_tlist, State.band]

/-! ### LOAD GLYPH IMAGES at its command phase (R77) -/

theorem State.imagesInUse_iff {s : State} {offset n : Nat} : s.imagesInUse offset n = true ↔
    ∃ f g, s.drawingUse f = true ∧ g ∈ tlist (s.face f).glyphs ∧ g.present = true ∧ 0 < g.width ∧ 0 < g.height ∧
      g.offset < offset + n ∧ offset < g.offset + g.width * g.height := by
  simp [State.imagesInUse, imageMeets, and_assoc]

theorem loadImages_badRange {offset n : Nat} (s : State) (h : ¬ (n ≠ 0 ∧ offset + n ≤ 4194304)) :
    loadImages offset n s = (badParam, s) := by
  refine if_pos ?_
  show n = 0 ∨ 4194304 < offset + n
  omega

theorem loadImages_of_valid {offset n : Nat} (s : State) (h : n ≠ 0 ∧ offset + n ≤ 4194304) :
    loadImages offset n s = if s.imagesInUse offset n then (.answer .busy noValues, s) else (.receive, s) := by
  refine if_neg ?_
  show ¬ (n = 0 ∨ 4194304 < offset + n)
  omega

/-! ### Image bytes (R77) -/

/-- R171: image bytes before the last. -/
theorem receiveBytes_images {offset : Nat} (bytes : List Byte) : ∀ {s : State}, s.eli.phase = .dataOut →
    s.eli.command = some (.loadImages offset) → s.eli.counter + bytes.length < s.eli.dataLength →
    receiveBytes bytes s = { s with
      gs := { s.gs with mem := Memory.writes (offset + ·) s.eli.counter bytes s.gs.mem }
      eli := { s.eli with counter := s.eli.counter + bytes.length } } := by
  induction bytes with
  | nil => exact fun _ _ _ => rfl
  | cons b t ih =>
    intro s phase command more
    rw [List.length_cons] at more
    rw [receiveBytes, receiveByte_more b phase command (by omega),
      ih (by exact phase) (by exact command) (by show s.eli.counter + 1 + t.length < s.eli.dataLength; omega)]
    show ({ s with gs := _, eli := { s.eli with counter := s.eli.counter + 1 + t.length } } : State) = _
    rw [List.length_cons, Nat.add_assoc, Nat.add_comm 1]
    rfl

/-- R171: the image byte that makes the data whole ends the command with GOOD. -/
theorem receiveBytes_images_last {offset : Nat} {front : List Byte} {last : Byte} {s : State} (phase : s.eli.phase = .dataOut)
    (command : s.eli.command = some (.loadImages offset)) (whole : s.eli.counter + front.length + 1 = s.eli.dataLength) :
    receiveBytes (front ++ [last]) s = { s with
      gs := { s.gs with mem := Memory.writes (offset + ·) s.eli.counter (front ++ [last]) s.gs.mem }
      eli := { s.eli with
        phase := .statusReady, counter := s.eli.counter + (front.length + 1), status := some ⟨.good, 0, noValues⟩ } } := by
  rw [receiveBytes_append, receiveBytes_images front phase command (by omega), receiveBytes, receiveBytes,
    receiveByte_last last (by exact phase) (by exact command) (by exact whole.symm.le), Memory.writes_append]
  rfl

/-- R77: what glyph memory reads after a run of image bytes. -/
theorem read_images {m : Memory} (wf : Memory.wf m = true) (offset k : Nat) (bytes : List Byte) (a : Nat) :
    Memory.read (Memory.writes (offset + ·) k bytes m) a =
      if offset + k ≤ a ∧ a < offset + k + bytes.length then byteAt bytes (a - (offset + k)) else Memory.read m a := by
  split
  · next inside =>
    have place := Memory.read_writes_place (f := (offset + ·)) bytes (k := k) wf (fun i j _ lt _ => by omega)
      (j := a - (offset + k)) (by omega)
    rw [show offset + (k + (a - (offset + k))) = a by omega] at place
    exact place
  · next outside => exact Memory.read_writes_other bytes wf (fun j low high => by omega)

theorem imagesOutside_of_fits {s : State} {offset : Nat} (command : s.eli.command = some (.loadImages offset))
    (fits : offset + s.eli.dataLength ≤ 4194304) : imagesOutside s = false := by
  unfold imagesOutside
  split
  · next other _ named =>
    rw [command] at named
    cases named
    exact decide_eq_false (Nat.not_lt_of_le fits)
  · rfl

/-- Settles O28: the command phase, a frame of bytes, and the last byte in a frame of its own. -/
theorem glyphImages : Obligations.GlyphImages := by
  unfold Obligations.GlyphImages
  refine ⟨fun s h offset k => ?_, fun s offset bytes k phase command fits wf some_data room => ?_,
    fun s offset last await fits => ?_⟩
  · intro meets valid
    have run : ∀ {t}, loadImages offset h.dataLength (s.takes .idle h (.loadImages offset)) = t →
        exec (.loadGlyphImages h offset) s = .next (settle (.loadImages offset) h.dataLength t) := fun phase =>
      congrArg Host.Outcome.next (edCommand_eq k rfl phase)
    refine ⟨fun bad => ?_, fun ok met => ?_, fun ok apart => ?_⟩
    · rw [run (loadImages_badRange _ bad)]
      rfl
    · rw [run ((loadImages_of_valid _ ok).trans (if_pos (State.imagesInUse_iff.mpr met)))]
      rfl
    · rw [run ((loadImages_of_valid _ ok).trans (if_neg (fun met => apart (State.imagesInUse_iff.mp met)))),
        settle_receive_takes ok.1]
  · have run : exec (.dataOutFrame bytes) s = .next (receiveBytes bytes (driveZeros bytes.length s)) :=
      (if_neg (by simp [imagesOutside_of_fits command fits])).trans
        (congrArg Host.Outcome.next (inPhase_of_phase _ _ k phase))
    by_cases whole : s.eli.counter + bytes.length = s.eli.dataLength
    · obtain ⟨front, last, rfl⟩ := List.eq_nil_or_concat' bytes |>.resolve_left some_data
      rw [receiveBytes_images_last (s := driveZeros _ s) phase command
        (by rw [List.length_append] at whole; exact whole)] at run
      refine ⟨_, run, rfl, read_images wf offset _ _, ?_, ?_, fun _ => rfl⟩
      · rw [List.length_append]
        rfl
      · rw [List.length_append] at whole
        exact (if_pos whole).symm
    · rw [receiveBytes_images (s := driveZeros bytes.length s) bytes phase command
        (Nat.lt_of_le_of_ne room whole)] at run
      exact ⟨_, run, rfl, read_images wf offset _ _, rfl, phase.trans (if_neg whole).symm, fun e => absurd e whole⟩
  · have run : exec (.loadGlyphImagesComplete last) s = .next (lastByte EdCommand.isLoadImages last s) :=
      if_neg (by simp [imagesOutside_of_fits await.2.2.1 fits])
    rw [run, lastByte_of_awaitsLast last await rfl]
    rfl

end Sys2Proof.Machine

/-! SUPPORT. LOAD FACE and UNLOAD FACE: the entries that a face is built of, and the face replaced whole. -/

namespace Sys2Proof.Machine

/-! ### The entries of a face (R76, R183) -/

/-- R181: one byte, or none, spells a number of -128 to 127. -/
theorem intOf_byte {l : List Byte} (h : l.length ≤ 1) : -128 ≤ intOf l ∧ intOf l ≤ 127 := by
  match l, h with
  | [], _ => decide
  | [b], _ =>
    have := b.isLt
    have one : natOf [b] = b.toNat := Nat.zero_add _
    simp only [intOf, one, List.length_singleton]
    split <;> omega

theorem entryGlyph_bearingY (e : List Byte) : -128 ≤ (entryGlyph e).bearingY ∧ (entryGlyph e).bearingY ≤ 127 :=
  intOf_byte (List.length_take_le 1 _)

theorem glyphEntryOk_iff {e : List Byte} : glyphEntryOk e = true ↔
    entryCode e ≤ 1023 ∧ -64 ≤ (entryGlyph e).bearingX ∧ (entryGlyph e).bearingX ≤ 63 ∧ (entryGlyph e).offset < 4194304 := by
  obtain ⟨low, high⟩ := entryGlyph_bearingY e
  simp [glyphEntryOk, low, high, and_assoc]

theorem imageFits_iff {g : Glyph} :
    imageFits g = true ↔ g.width = 0 ∨ g.height = 0 ∨ g.offset + g.width * g.height ≤ 4194304 := by
  simp [imageFits, or_assoc]

/-- R76: the completion checks that speak of the entries alone. -/
def faceEntriesOk (entries : List (List Byte)) : Bool :=
  entries.all glyphEntryOk && decide (entries.map entryCode).Nodup && entries.all (fun e => imageFits (entryGlyph e))

theorem faceEntriesOk_iff {entries : List (List Byte)} : faceEntriesOk entries = true ↔
    (∀ e ∈ entries, entryCode e ≤ 1023 ∧ -64 ≤ (entryGlyph e).bearingX ∧ (entryGlyph e).bearingX ≤ 63 ∧
      (entryGlyph e).offset < 4194304 ∧ ((entryGlyph e).width = 0 ∨ (entryGlyph e).height = 0 ∨
        (entryGlyph e).offset + (entryGlyph e).width * (entryGlyph e).height ≤ 4194304)) ∧
      (entries.map entryCode).Nodup := by
  simp only [faceEntriesOk, Bool.and_eq_true, List.all_eq_true, decide_eq_true_eq, glyphEntryOk_iff, imageFits_iff]
  constructor
  · rintro ⟨⟨ranged, nodup⟩, fits⟩
    refine ⟨fun e mem => ?_, nodup⟩
    obtain ⟨code, left, right, offset⟩ := ranged e mem
    exact ⟨code, left, right, offset, fits e mem⟩
  · rintro ⟨each, nodup⟩
    refine ⟨⟨fun e mem => ?_, nodup⟩, fun e mem => ?_⟩ <;> obtain ⟨code, left, right, offset, fits⟩ := each e mem
    · exact ⟨code, left, right, offset⟩
    · exact fits

/-- Entries of one length are what their bytes are cut into. -/
theorem entriesOf_flatten {k : Nat} {entries : List (List Byte)} (h : ∀ e ∈ entries, e.length = k) :
    entriesOf k entries.length entries.flatten = entries := by
  induction entries with
  | nil => rfl
  | cons e t ih =>
    have first : e.length = k := h e List.mem_cons_self
    rw [List.flatten_cons, List.length_cons, entriesOf, List.take_left' first, List.drop_left' first,
      ih (fun x mem => h x (List.mem_cons_of_mem e mem))]

/-! ### The glyphs of a face -/

theorem placeGlyph_get (v : Vector Glyph 1024) (e : List Byte) (code : Fin 1024) :
    tget (placeGlyph v e) code = if entryCode e = code.val then entryGlyph e else tget v code := by
  unfold placeGlyph
  split
  · next h => rw [tget_tset]; simp only [Fin.ext_iff]
  · next h => rw [if_neg (by omega)]

theorem placeGlyphs_other {code : Fin 1024} {entries : List (List Byte)} : ∀ {v : Vector Glyph 1024},
    (∀ e ∈ entries, entryCode e ≠ code.val) → tget (entries.foldl placeGlyph v) code = tget v code := by
  induction entries with
  | nil => exact fun _ => rfl
  | cons e t ih =>
    intro v apart
    rw [List.foldl_cons, ih (fun x mem => apart x (List.mem_cons_of_mem e mem)), placeGlyph_get,
      if_neg (apart e List.mem_cons_self)]

theorem placeGlyphs_own {code : Fin 1024} {e : List Byte} (named : entryCode e = code.val) {entries : List (List Byte)} :
    ∀ {v : Vector Glyph 1024}, (entries.map entryCode).Nodup → e ∈ entries →
      tget (entries.foldl placeGlyph v) code = entryGlyph e := by
  induction entries with
  | nil => exact fun _ mem => nomatch mem
  | cons x t ih =>
    intro v nodup mem
    obtain ⟨fresh, nodup⟩ := List.nodup_cons.mp nodup
    rcases List.mem_cons.mp mem with rfl | mem
    · rw [List.foldl_cons, placeGlyphs_other, placeGlyph_get, if_pos named]
      exact fun y inside same => fresh (List.mem_map.mpr ⟨y, inside, same.trans named.symm⟩)
    · exact ih nodup mem

/-! ### LOAD FACE (R76) -/

/-- R76: the parameters and the length of LOAD FACE. -/
def faceArgsOk (a : FaceArgs) (n : Nat) : Prop :=
  a.face ≤ 3 ∧ 1 ≤ a.lineHeight ∧ a.lineHeight ≤ 256 ∧ a.baseline ≤ a.lineHeight ∧ a.substitute ≤ 1023 ∧ a.count ≤ 1024 ∧
    n = 12 * a.count

theorem loadFace_badArgs {a : FaceArgs} {n : Nat} (s : State) (h : ¬ faceArgsOk a n) : loadFace a n s = (badParam, s) := by
  unfold loadFace
  split
  · rfl
  · next f target =>
    have face : a.face < 4 := four_isSome.mp (Option.isSome_of_eq_some target)
    refine if_pos ?_
    by_contra ok
    exact h ⟨by omega, by omega, by omega, by omega, by omega, by omega, by omega⟩

theorem loadFace_of_args {a : FaceArgs} {n : Nat} {f : Fin 4} (s : State) (h : faceArgsOk a n) (face : a.face = f.val) :
    loadFace a n s = if s.drawingUse f then (.answer .busy noValues, s) else (.receive, s) := by
  obtain ⟨_, _, _, _, _, _, _⟩ := h
  unfold loadFace
  rw [face, four_fin]
  exact if_neg (by omega)

/-- The state with the face staging area emptied. -/
def State.unstaged (s : State) : State := { s with gs := { s.gs with staging := [] } }

/-- R76: the completion of a face by its entries and its use. -/
theorem completeFace_eq {a : FaceArgs} {f : Fin 4} {s : State} {entries : List (List Byte)} (face : a.face = f.val)
    (staged : entriesOf 12 a.count s.gs.staging = entries) : completeFace a s =
      if faceEntriesOk entries then
        if s.drawingUse f then (.busy, s.unstaged) else (.good, s.unstaged.setFace f (builtFace a entries))
      else (.badParam, s.unstaged) := by
  unfold completeFace faceEntriesOk
  rw [staged, face, four_fin]
  dsimp only
  cases entries.all glyphEntryOk <;> cases decide (entries.map entryCode).Nodup <;>
    cases entries.all (fun e => imageFits (entryGlyph e)) <;> rfl

theorem completeData_loadFace {a : FaceArgs} {s t : State} {r : Result} (h : completeFace a s = (r, t)) :
    completeData (.loadFace a) s = finish ⟨r, 0, noValues⟩ t := by
  show finish ⟨(completeFace a s).1, 0, noValues⟩ (completeFace a s).2 = _
  rw [h]

/-- The state with the last byte of a face's entries taken into the staging area. -/
def State.stagesLast (s : State) (last : Byte) : State :=
  { s with
    gs := { s.gs with staging := s.gs.staging ++ [last] }
    eli := { s.eli with counter := s.eli.counter + 1, dout := [0, 0] } }

/-- The state in which the last byte of a face's entries ended the command with `r`. -/
def State.endsFace (s : State) (r : Result) : State :=
  { s with gs := { s.gs with staging := [] }, eli := s.eli.completed ⟨r, 0, noValues⟩ }

theorem drawingUse_stagesLast (s : State) (last : Byte) (f : Fin 4) : (s.stagesLast last).drawingUse f = s.drawingUse f := rfl

theorem finish_unstaged (s : State) (last : Byte) (r : Result) :
    finish ⟨r, 0, noValues⟩ (s.stagesLast last).unstaged = s.endsFace r := rfl

theorem finish_setFace (s : State) (last : Byte) (f : Fin 4) (face : Face) (r : Result) :
    finish ⟨r, 0, noValues⟩ ((s.stagesLast last).unstaged.setFace f face) = (s.setFace f face).endsFace r := rfl

/-- R76: the last byte of a face's entries, in a frame of its own. -/
theorem exec_loadFaceComplete {s : State} {a : FaceArgs} {f : Fin 4} {last : Byte} {entries : List (List Byte)}
    (await : s.awaitsLast (.loadFace a)) (face : a.face = f.val) (cut : entriesOf 12 a.count (s.gs.staging ++ [last]) = entries) :
    exec (.loadFaceComplete last) s =
      if faceEntriesOk entries then
        if s.drawingUse f then .next (s.endsFace .busy) else .next ((s.setFace f (builtFace a entries)).endsFace .good)
      else .next (s.endsFace .badParam) := by
  have run : exec (.loadFaceComplete last) s = .next (completeData (.loadFace a) (s.stagesLast last)) :=
    congrArg Host.Outcome.next (lastByte_of_awaitsLast last await rfl)
  have whole := completeFace_eq (s := s.stagesLast last) face cut
  rw [drawingUse_stagesLast] at whole
  rw [run]
  by_cases ok : faceEntriesOk entries
  · rw [if_pos ok] at whole ⊢
    by_cases use : s.drawingUse f
    · rw [if_pos use] at whole ⊢
      rw [completeData_loadFace whole, finish_unstaged]
    · rw [if_neg use] at whole ⊢
      rw [completeData_loadFace whole, finish_setFace]
  · rw [if_neg ok] at whole ⊢
    rw [completeData_loadFace whole, finish_unstaged]

theorem unloadFace_of_large {face : Nat} (s : State) (h : 3 < face) : unloadFace face s = (badParam, s) := by
  unfold unloadFace
  split
  · rfl
  · next f target =>
    have := four_isSome.mp (Option.isSome_of_eq_some target)
    omega

theorem unloadFace_fin (f : Fin 4) (s : State) : unloadFace f.val s =
    if s.configuredUse f then (.answer .busy noValues, s) else (good, s.setFace f Face.empty) := by
  unfold unloadFace
  rw [four_fin]

/-- Settles O27: both commands, and the last byte of a face's entries. -/
theorem faces : Obligations.Faces := by
  unfold Obligations.Faces
  intro drawing used
  have drawn : ∀ {s : State} {f : Fin 4}, s.drawingUse f = true ↔ drawing s f := State.drawingUse_iff
  have configured : ∀ {s : State} {f : Fin 4}, s.configuredUse f = true ↔ used s f := State.configuredUse_iff
  refine ⟨fun s h a k => ?_, fun s a f last entries await face staged count length => ?_, fun s h face k zero => ?_⟩
  · intro valid
    have run : ∀ {t}, loadFace a h.dataLength (s.takes .idle h (.loadFace a)) = t →
        exec (.loadFace h a) s = .next (settle (.loadFace a) h.dataLength t) := fun phase =>
      congrArg Host.Outcome.next (edCommand_eq k rfl phase)
    refine ⟨fun bad => ?_, fun f ok face => ?_⟩
    · rw [run (loadFace_badArgs _ bad)]
      rfl
    · have judged := loadFace_of_args (s.takes .idle h (.loadFace a)) ok face
      have taken : ¬ drawing s f → exec (.loadFace h a) s = _ := fun free =>
        run (judged.trans (if_neg (fun use => free (drawn.mp use))))
      have ⟨_, _, _, _, _, _, length⟩ := ok
      refine ⟨fun use => ?_, fun free some_data => ?_, fun free none => ?_⟩
      · rw [run (judged.trans (if_pos (drawn.mpr use)))]
        rfl
      · rw [taken free, settle_receive_takes (by omega)]
      · have zero : h.dataLength = 0 := by omega
        have whole := (completeFace_eq (s := s.takes .idle h (.loadFace a)) (entries := []) face (by rw [none]; rfl)).trans
          ((if_pos rfl).trans (if_neg (fun use => free (drawn.mp use))))
        have built : completeData (.loadFace a) (s.takes .idle h (.loadFace a)) = _ := completeData_loadFace whole
        have status : (⟨.good, 0, noValues⟩ : Status) = ⟨.good, h.dataLength, noValues⟩ := by rw [zero]
        rw [taken free]
        exact congrArg Host.Outcome.next ((if_pos zero).trans (built.trans (by rw [status]; rfl)))
  · intro valid ended
    have cut : entriesOf 12 a.count (s.gs.staging ++ [last]) = entries := by
      rw [staged, ← count]
      exact entriesOf_flatten length
    have run := exec_loadFaceComplete await face cut
    refine ⟨fun bad => ?_, fun ok use => ?_, fun ok free => ⟨builtFace a entries, ?_, rfl, rfl, rfl, rfl, ?_, ?_⟩⟩
    · exact run.trans (if_neg (fun ok => bad (faceEntriesOk_iff.mp ok)))
    · exact run.trans ((if_pos (faceEntriesOk_iff.mpr ok)).trans (if_pos (drawn.mpr use)))
    · exact run.trans ((if_pos (faceEntriesOk_iff.mpr ok)).trans (if_neg (fun use => free (drawn.mp use))))
    · exact fun code e mem named => placeGlyphs_own named ok.2 mem
    · exact fun code apart => (placeGlyphs_other apart).trans (tget_replicate ..)
  · have ends : ∀ {v w} {t : State}, unloadFace face (s.takes .idle h (.unloadFace face)) =
        (.answer v w, t.takes .idle h (.unloadFace face)) →
        exec (.unloadFace h face) s = .next (t.answers h (.unloadFace face) v w) :=
      fun phase => congrArg Host.Outcome.next (edCommand_answer k rfl zero phase)
    refine ⟨fun large => ends (unloadFace_of_large _ large), ?_⟩
    rintro f rfl
    have judged := unloadFace_fin f (s.takes .idle h (.unloadFace f.val))
    exact ⟨fun use => ends (judged.trans (if_pos (configured.mpr use))),
      fun free => ends (judged.trans (if_neg (fun use => free (configured.mp use))))⟩

end Sys2Proof.Machine

/-! SUPPORT. What a step can do to the bands and their run lists, said once: `BandStep` lists the single steps, and
`bandSteps_of_step` says that every step is a chain of them. An invariant of the bands is then one lemma, with one case for each
kind of step. Everything outside the band engines keeps `State.programme`, or changes no more than a request queue and a shadow
bank (`State.Still`). -/

namespace Sys2Proof.Machine

/-! ### What a step can do to the bands -/

/-- The raster, the bands and the run lists. -/
def State.programme (s : State) : Straps × Vector Band 4 × Vector RunLists 4 := (s.straps, s.bands, s.rls)

/-- From `s` to `t` no band changes but in its request queue, and no run list but in its shadow bank. -/
structure State.Still (s t : State) : Prop where
  straps : t.straps = s.straps
  band : ∀ b, ∃ q, t.band b = { s.band b with queue := q }
  onAir : ∀ b, (t.lists b).onAir = (s.lists b).onAir
  commit : ∀ b, (t.lists b).commit = (s.lists b).commit

/-- One step of the bands. -/
inductive BandStep : State → State → Prop
  | still {s t : State} (h : s.Still t) : BandStep s t
  | reset {s t : State} (bands : t.bands = Vector.replicate 4 Band.reset) (rls : t.rls = Vector.replicate 4 RunLists.reset) :
      BandStep s t
  | request {s : State} (sampled : Bool) (b : Fin 4) (r : BandRequest) : BandStep s (judgeRequest sampled b r s).2
  | swap {s : State} (b : Fin 4) : BandStep s (swapBanks b s)
  | crawl {s : State} {c : BandConfig} (b : Fin 4) (config : (s.band b).config = some c) (crawl : c.presentation = .crawl)
      (drawing : (s.band b).prog.drawing = true) : BandStep s (crawlSteps c b s)
  | page {s : State} {c : BandConfig} (b : Fin 4) (config : (s.band b).config = some c) (flip : c.presentation = .flip)
      (drawing : (s.band b).prog.drawing = true) : BandStep s (pageStep c b s)
  | drainEnd {s : State} (b : Fin 4) : BandStep s (drainEndStep b s)
  | clearingEnd {s : State} (b : Fin 4) : BandStep s (clearingEndStep b s)

/-- Several steps, one after another. -/
def BandSteps (s t : State) : Prop := Relation.ReflTransGen BandStep s t

theorem BandSteps.refl (s : State) : BandSteps s s := Relation.ReflTransGen.refl

theorem BandSteps.trans {s t u : State} (h : BandSteps s t) (k : BandSteps t u) : BandSteps s u :=
  Relation.ReflTransGen.trans h k

theorem BandSteps.one {s t : State} (h : BandStep s t) : BandSteps s t := Relation.ReflTransGen.single h

theorem BandSteps.still {s t : State} (h : s.Still t) : BandSteps s t := .one (.still h)

theorem BandSteps.ite {c : Prop} [Decidable c] {s t u : State} (h : c → BandSteps s t) (k : ¬c → BandSteps s u) :
    BandSteps s (if c then t else u) := by
  split
  · exact h ‹_›
  · exact k ‹_›

theorem State.Still.of_programme {s t : State} (h : t.programme = s.programme) : s.Still t := by
  obtain ⟨straps, bands, rls⟩ : t.straps = s.straps ∧ t.bands = s.bands ∧ t.rls = s.rls := by
    simpa [State.programme] using h
  constructor
  · exact straps
  · exact fun b => ⟨(s.band b).queue, by rw [State.band, bands]; rfl⟩
  · exact fun b => by rw [State.lists, rls]; rfl
  · exact fun b => by rw [State.lists, rls]; rfl

theorem State.Still.refl (s : State) : s.Still s := .of_programme rfl

theorem State.Still.trans {s t u : State} (h : s.Still t) (k : t.Still u) : s.Still u where
  straps := k.straps.trans h.straps
  band b := by
    obtain ⟨p, hp⟩ := h.band b
    obtain ⟨q, hq⟩ := k.band b
    exact ⟨q, by rw [hq, hp]⟩
  onAir b := (k.onAir b).trans (h.onAir b)
  commit b := (k.commit b).trans (h.commit b)

theorem State.Still.ite {c : Prop} [Decidable c] {s t u : State} (h : s.Still t) (k : s.Still u) :
    s.Still (if c then t else u) := by
  split
  · exact h
  · exact k

/-- A band's request queue alone changes. -/
theorem still_queue (s : State) (b : Fin 4) (f : List QueuedRequest → List QueuedRequest) :
    s.Still (s.updBand b (fun d => { d with queue := f d.queue })) where
  straps := rfl
  band k := by
    rw [State.updBand_band]
    split
    · next e => exact ⟨_, by rw [e]⟩
    · exact ⟨_, rfl⟩
  onAir _ := rfl
  commit _ := rfl

/-- R86: an edit of the shadow bank leaves the on-air bank and the pending commit as they are. -/
theorem RunLists.setShadow_onAir (r : RunLists) (l : List Item) : (r.setShadow l).onAir = r.onAir := by
  unfold RunLists.setShadow RunLists.onAir
  cases r.onAirB <;> rfl

theorem RunLists.setShadow_commit (r : RunLists) (l : List Item) : (r.setShadow l).commit = r.commit := by
  unfold RunLists.setShadow
  split <;> rfl

theorem still_setShadow (s : State) (b : Fin 4) (f : RunLists → List Item) :
    s.Still (s.updLists b (fun r => r.setShadow (f r))) where
  straps := rfl
  band k := ⟨(s.band k).queue, rfl⟩
  onAir k := by
    rw [State.updLists_lists]
    split
    · next e => rw [RunLists.setShadow_onAir, e]
    · rfl
  commit k := by
    rw [State.updLists_lists]
    split
    · next e => rw [RunLists.setShadow_commit, e]
    · rfl

/-! ### The named updates -/

@[simp] theorem State.raise_programme (s : State) (k : EventKind) (src : EventSource) :
    (s.raise k src).programme = s.programme := rfl
@[simp] theorem State.updMaster_programme (s : State) (m : Master) (f : MasterSet → MasterSet) :
    (s.updMaster m f).programme = s.programme := rfl
@[simp] theorem State.updQuote_programme (s : State) (i : Fin 1024) (f : Quote → Quote) :
    (s.updQuote i f).programme = s.programme := rfl
@[simp] theorem State.updStory_programme (s : State) (i : Fin 256) (f : Story → Story) :
    (s.updStory i f).programme = s.programme := rfl
@[simp] theorem State.setFace_programme (s : State) (i : Fin 4) (f : Face) : (s.setFace i f).programme = s.programme := rfl
@[simp] theorem State.updLane_programme (s : State) (n : Fin 4) (f : Lane → Lane) :
    (s.updLane n f).programme = s.programme := rfl
@[simp] theorem State.setVis_programme (s : State) (b : Fin 4) (v : Visibility) :
    (s.setVis b v).programme = s.programme := rfl
@[simp] theorem State.bumpFree_programme (s : State) : s.bumpFree.programme = s.programme := rfl
@[simp] theorem State.updEli_programme (s : State) (f : Eli → Eli) : (s.updEli f).programme = s.programme := rfl
@[simp] theorem State.updPbi_programme (s : State) (f : Pbi → Pbi) : (s.updPbi f).programme = s.programme := rfl

@[simp] theorem State.withFlash_programme (s : State) (v : Nat) : State.programme { s with flashSetting := v } = s.programme := rfl
@[simp] theorem State.withStore_programme (s : State) (t : TextStore) : State.programme { s with ts := t } = s.programme := rfl
@[simp] theorem State.withPins_programme (s : State) (v : Vector Pin 4) : State.programme { s with pins := v } = s.programme := rfl

@[simp] theorem State.updQuoteAt_programme (s : State) (i : Nat) (f : Quote → Quote) :
    (s.updQuoteAt i f).programme = s.programme := by
  unfold State.updQuoteAt
  split <;> rfl

/-! ### The feed link and the update engine -/

@[simp] theorem hearLane_programme (n : Fin 4) (s : State) : (hearLane n s).programme = s.programme := by
  unfold hearLane
  split <;> rfl

@[simp] theorem releaseLink_programme (s : State) : (releaseLink s).programme = s.programme := by
  unfold releaseLink
  split <;> rfl

@[simp] theorem countSilence_programme (n : Fin 4) (s : State) : (countSilence n s).programme = s.programme := by
  unfold countSilence
  dsimp only
  split
  · split <;> rfl
  · rfl

@[simp] theorem queueTx_programme (items : List TxItem) (s : State) : (queueTx items s).programme = s.programme := rfl

@[simp] theorem badVerdict_programme (s : State) : (badVerdict s).programme = s.programme := by
  unfold badVerdict
  rw [queueTx_programme]
  split
  · rfl
  · split <;> rfl

@[simp] theorem otherVerdict_programme (items : List TxItem) (s : State) :
    (otherVerdict items s).programme = s.programme := rfl

@[simp] theorem refusePacket_programme (code : Byte) (n : Fin 4) (s : State) :
    (refusePacket code n s).programme = s.programme := rfl

@[simp] theorem takePacket_programme (n : Fin 4) (us : List Update) (s : State) :
    (takePacket n us s).programme = s.programme := by
  simp [takePacket]

@[simp] theorem heartbeat_programme (mask : Byte) (s : State) : (heartbeat mask s).programme = s.programme := by
  unfold heartbeat
  generalize List.finRange 4 = l
  induction l generalizing s with
  | nil => rfl
  | cons n t ih =>
    rw [List.foldl_cons, ih]
    split
    · exact hearLane_programme ..
    · rfl

@[simp] theorem statusQuery_programme (s : State) : (statusQuery s).2.programme = s.programme := by
  unfold statusQuery
  split <;> rfl

theorem serveControls_programme (rs : List (List Byte)) (s : State) : (serveControls rs s).2.programme = s.programme := by
  induction rs generalizing s with
  | nil => rfl
  | cons r t ih =>
    unfold serveControls
    split
    · rw [ih, heartbeat_programme]
    · split
      · rw [ih]
        rfl
      · dsimp only
        rw [ih, statusQuery_programme]

theorem judgePacket_programme (bs : List Byte) (s : State) : (judgePacket bs s).programme = s.programme := by
  unfold judgePacket
  dsimp only
  split
  · rfl
  · rfl
  · split
    · exact badVerdict_programme s
    · split
      · split
        · rw [otherVerdict_programme, serveControls_programme]
        · exact badVerdict_programme s
      · unfold judgeData
        split_ifs <;> simp

theorem feedBytes_programme (bs : List Byte) (s : State) : (feedBytes bs s).programme = s.programme := by
  induction bs generalizing s with
  | nil => rfl
  | cons b t ih =>
    unfold feedBytes
    rw [ih]
    unfold feedByte
    split
    · split <;> rfl
    · split
      · rw [judgePacket_programme]
        rfl
      · rfl

@[simp] theorem endRecord_programme (own : Bool) (s : State) : (endRecord own s).programme = s.programme := by
  unfold endRecord
  split <;> rfl

/-- FEED TX sends what waits, and the read that it ends is settled. -/
theorem sent_programme (own : Bool) (f : Fli) (s : State) : (endRecord own { s with fli := f }).programme = s.programme :=
  endRecord_programme ..

theorem sendFeedByte_programme (s : State) : (sendFeedByte s).programme = s.programme := by
  unfold sendFeedByte
  split
  case h_3 => exact sent_programme ..
  case h_4 => exact sent_programme ..
  all_goals rfl

theorem applyUpdate_programme (n : Fin 4) (u : Update) (s : State) : (applyUpdate n u s).programme = s.programme := by
  unfold applyUpdate
  dsimp only
  repeat' split
  all_goals simp

theorem engineTurn_programme (s : State) : (engineTurn s).programme = s.programme := by
  unfold engineTurn
  split
  · rfl
  · split
    · rfl
    · exact applyUpdate_programme ..

theorem panelLaneCommand_programme {f : Fin 4 → State → State} (lane : Nat) (s : State)
    (h : ∀ n, (f n s).programme = s.programme) : (panelLaneCommand lane f s).programme = s.programme := by
  unfold panelLaneCommand
  split
  · rfl
  · exact h _

theorem laneCommand_programme {f : Fin 4 → State → State} (lane : Nat) (s : State)
    (h : ∀ n, (f n s).programme = s.programme) : (laneCommand lane f s).2.programme = s.programme := by
  unfold laneCommand
  split
  · rfl
  · exact h _

/-! ### The quote table, the stores, the compositor and the settings -/

@[simp] theorem freeStoryIfGone_programme (i : Fin 256) (s : State) :
    (freeStoryIfGone i s).programme = s.programme := by
  unfold freeStoryIfGone
  dsimp only
  split <;> rfl

@[simp] theorem applySource_programme (r : Ref) (src : Source) (text : List Byte) (s : State) :
    (applySource r src text s).2.programme = s.programme := by
  unfold applySource
  split <;> simp

@[simp] theorem completeStory_programme (n : Nat) (s : State) : (completeStory n s).2.programme = s.programme := by
  unfold completeStory
  split <;> rfl

@[simp] theorem completeFace_programme (a : FaceArgs) (s : State) : (completeFace a s).2.programme = s.programme := by
  unfold completeFace
  dsimp only
  repeat' split
  all_goals rfl

@[simp] theorem moveBand_programme (clean : Bool) (b : Fin 4) (s : State) :
    (moveBand clean b s).programme = s.programme := by
  unfold moveBand
  split
  · rfl
  · split <;> rfl

@[simp] theorem judgeAck_programme (clean : Bool) (s : State) : (judgeAck clean s).programme = s.programme := by
  unfold judgeAck
  split
  · rfl
  · split <;> rfl

theorem compositorFrameStart_programme (s : State) : (compositorFrameStart s).programme = s.programme := by
  unfold compositorFrameStart
  simp only [judgeAck_programme, moveBand_programme]
  rfl

@[simp] theorem writeSoftClean_programme (panel v : Bool) (s : State) :
    (writeSoftClean panel v s).programme = s.programme := by
  unfold writeSoftClean
  split <;> rfl

theorem panelSoftClean_programme (value : Nat) (s : State) : (panelSoftClean value s).programme = s.programme := by
  unfold panelSoftClean
  split <;> simp

theorem panelThreshold_programme (v : Nat) (s : State) : (panelThreshold v s).programme = s.programme := by
  unfold panelThreshold
  split <;> rfl

/-! ### Queues and shadow banks -/

theorem still_joinQueue (b : Fin 4) (q : QueuedRequest) (s : State) : s.Still (joinQueue b q s).2 := by
  unfold joinQueue
  split
  · exact still_queue s b (· ++ [q])
  · exact .refl s

theorem still_panelRequest (b : Fin 4) (r : BandRequest) (s : State) : s.Still (panelRequest b r s) := by
  unfold panelRequest
  exact .ite (still_joinQueue ..) ((still_joinQueue ..).trans (.of_programme rfl))

theorem still_panelBroadcast (r : BandRequest) (s : State) : s.Still (panelBroadcast r s) :=
  (((still_panelRequest ..).trans (still_panelRequest ..)).trans (still_panelRequest ..)).trans (still_panelRequest ..)

theorem still_editorialJoin (b : Fin 4) (r : BandRequest) (s : State) : s.Still (editorialJoin b r s).2 := by
  unfold editorialJoin
  dsimp only
  split
  · exact (still_joinQueue ..).trans (.of_programme rfl)
  · exact still_joinQueue ..

theorem still_editorialRequest (band : Nat) (r : EdRequest) (n : Nat) (s : State) :
    s.Still (editorialRequest band r n s).2 := by
  unfold editorialRequest
  split
  · exact .refl s
  · split
    · split
      · exact .refl s
      · split <;> exact .refl s
    · split
      · exact .refl s
      · dsimp only
        split <;> exact still_editorialJoin ..

theorem still_applyEdit (b : Fin 4) (op pos count : Nat) (items : List Item) (s : State) :
    s.Still (applyEdit b op pos count items s).2 := still_setShadow s b (fun _ => _)

theorem still_editRunList (band op pos count n : Nat) (s : State) : s.Still (editRunList band op pos count n s).2 := by
  unfold editRunList
  split
  · exact .refl s
  · split
    · exact .refl s
    · split
      · exact .refl s
      · split
        · exact .refl s
        · split
          · exact .refl s
          · exact still_applyEdit ..

theorem still_completeEdit (band op pos count : Nat) (s : State) : s.Still (completeEdit band op pos count s).2 := by
  have emptied : s.Still { s with editStaging := [] } := .of_programme rfl
  unfold completeEdit
  dsimp only
  split
  · exact emptied
  · split
    · exact emptied
    · split
      · exact emptied
      · split
        · exact emptied
        · split
          · exact emptied
          · exact emptied.trans (still_applyEdit ..)

theorem still_copyBank (band : Nat) (s : State) : s.Still (copyBank band s).2 := by
  unfold copyBank
  split
  · exact .refl s
  · split
    · exact .refl s
    · exact still_setShadow s _ RunLists.onAir

/-! ### The editorial link -/

/-- The command phase of EDIT RUN LIST, COPY BANK and a band request change no more than a shadow bank or a request queue, and the
other command phases touch neither bands nor run lists. -/
theorem still_commandPhase (c : EdCommand) (n : Nat) (s : State) : s.Still (commandPhase c n s).2 := by
  cases c with
  | edit band op pos count => exact still_editRunList ..
  | copyBank band => exact still_copyBank ..
  | request band r => exact still_editorialRequest ..
  | laneHold lane => exact .of_programme (laneCommand_programme lane s (fun _ => rfl))
  | laneRelease lane => exact .of_programme (laneCommand_programme lane s (fun _ => rfl))
  | laneFlush lane => exact .of_programme (laneCommand_programme lane s (fun _ => rfl))
  | setSilenceLimit lane limit =>
    show s.Still (setSilenceLimit lane limit s).2
    unfold setSilenceLimit
    split
    · exact .of_programme (laneCommand_programme lane s (fun _ => rfl))
    · exact .refl s
  | _ =>
    refine .of_programme ?_
    simp only [commandPhase, defineQuote, retireQuote, setSource, setReference, setFlash, loadStory, deleteStory,
      loadFace, unloadFace, loadImages, editorialSoftClean, setPin, setLevels, editorialThreshold, storeThreshold]
    repeat' split
    all_goals simp

@[simp] theorem finish_programme (st : Status) (s : State) : (finish st s).programme = s.programme := rfl
@[simp] theorem enterPhase_programme (p : EdPhase) (s : State) : (enterPhase p s).programme = s.programme := rfl
@[simp] theorem drive_programme (bytes : List Byte) (s : State) : (drive bytes s).programme = s.programme := rfl

theorem abandon_programme (s : State) : (abandon s).programme = s.programme := by
  unfold abandon abandonEvents
  repeat' split
  all_goals rfl

theorem phaseError_programme (s : State) : (phaseError s).programme = s.programme := by
  unfold phaseError
  split
  · rfl
  · exact abandon_programme s

theorem still_driveZeros (n : Nat) (s : State) : s.Still (driveZeros n s) := .of_programme rfl

theorem still_completeConfigure (band : Nat) (s : State) : s.Still (completeConfigure band s) := by
  unfold completeConfigure
  split
  · exact .of_programme rfl
  · dsimp only
    split <;> exact (still_editorialJoin ..).trans (.of_programme rfl)

theorem still_completeData (c : EdCommand) (s : State) : s.Still (completeData c s) := by
  cases c with
  | setSource r source => exact .of_programme (applySource_programme ..)
  | loadStory => exact .of_programme (completeStory_programme ..)
  | loadFace a => exact .of_programme (completeFace_programme ..)
  | edit band op pos count => exact (still_completeEdit ..).trans (.of_programme rfl)
  | request band r => exact still_completeConfigure ..
  | _ => exact .of_programme rfl

theorem still_settle (c : EdCommand) (n : Nat) (t : Reply × State) : t.2.Still (settle c n t) := by
  unfold settle
  split
  · exact .of_programme rfl
  · exact .ite (still_completeData ..) (.of_programme rfl)
  · exact .of_programme rfl
  · exact .of_programme rfl

theorem still_runCommand (h : EdHeader) (c : EdCommand) (s : State) : s.Still (runCommand h c s) := by
  have taken : s.Still (takeBlock h.tag (some c) h.dataLength s) := .of_programme rfl
  exact .ite ((taken.trans (still_commandPhase ..)).trans (still_settle ..)) (.of_programme rfl)

theorem still_inFrame (n : Nat) {f : State → State} (s : State) (h : ∀ t, State.Still t (f t)) : s.Still (inFrame n f s) :=
  .ite (.refl s) (.ite (.of_programme rfl) (h s))

theorem still_inPhase (p : EdPhase) (n : Nat) {f : State → State} (s : State) (h : ∀ t, State.Still t (f t)) :
    s.Still (inPhase p n f s) :=
  still_inFrame n s (fun t => .ite (still_driveZeros ..) (.ite ((still_driveZeros n t).trans (h _))
    (.of_programme (phaseError_programme _))))

theorem still_edCommand (h : EdHeader) (c : EdCommand) (s : State) : s.Still (edCommand h c s) :=
  still_inPhase _ _ s (still_runCommand h c)

theorem still_commandFrame (bytes : List Byte) (s : State) : s.Still (commandFrame bytes s) :=
  still_inPhase _ _ s (fun t => by
    unfold judgeBlock
    split
    · split
      · exact still_runCommand ..
      · exact .of_programme rfl
    · exact .of_programme rfl)

theorem storeByte_programme (c : EdCommand) (k : Nat) (b : Byte) (s : State) : (storeByte c k b s).programme = s.programme := by
  cases c with
  | loadStory =>
    show (writeStoryByte k b s).programme = _
    unfold writeStoryByte
    split <;> rfl
  | _ => rfl

theorem still_receiveByte (b : Byte) (s : State) : s.Still (receiveByte b s) := by
  unfold receiveByte
  split
  · next c _ _ =>
    have stored : s.Still ((storeByte c s.eli.counter b s).updEli (fun e => { e with counter := e.counter + 1 })) :=
      .of_programme (storeByte_programme ..)
    exact .ite (stored.trans (still_completeData ..)) stored
  · exact .of_programme (phaseError_programme s)

theorem still_receiveBytes (bytes : List Byte) : ∀ s : State, s.Still (receiveBytes bytes s) := by
  induction bytes with
  | nil => exact State.Still.refl
  | cons b t ih => exact fun s => (still_receiveByte b s).trans (ih _)

theorem still_dataOut (bytes : List Byte) (s : State) : s.Still (dataOut bytes s) :=
  still_inPhase _ _ s (still_receiveBytes bytes)

theorem still_lastByte (p : EdCommand → Bool) (b : Byte) (s : State) : s.Still (lastByte p b s) :=
  .ite (still_dataOut ..) (.refl s)

@[simp] theorem latchReport_programme (c : EdCommand) (s : State) : (latchReport c s).programme = s.programme := by
  unfold latchReport takeFree beginEvents
  dsimp only
  repeat' split
  all_goals rfl

theorem sendByte_programme (s : State) : (sendByte s).2.programme = s.programme := by
  unfold sendByte completeRead
  split
  · dsimp only
    repeat' split
    all_goals simp
  · rfl

theorem sendBytes_programme (n : Nat) : ∀ s : State, (sendBytes n s).2.programme = s.programme := by
  induction n with
  | zero => exact fun _ => rfl
  | succ n ih => exact fun s => (ih _).trans (sendByte_programme s)

theorem still_dataIn (n : Nat) (s : State) : s.Still (dataIn n s) :=
  still_inPhase _ _ s (fun t => .of_programme (sendBytes_programme n t))

/-- R192: the status of a DEVICE RESET, once read, resets the device. -/
theorem bandSteps_statusFrame (n : Nat) (s : State) : BandSteps s (statusFrame n s) := by
  have stray : ∀ t : State, BandSteps t (strayStatus n t) := fun t => .still (.of_programme (phaseError_programme t))
  have read : ∀ t : State, BandSteps t (consumeStatus t) := fun t =>
    .ite (fun _ => .one (.reset rfl rfl)) (fun _ => .still (.of_programme rfl))
  refine .ite (fun _ => .refl s) (fun _ => .ite (fun _ => .still (.of_programme rfl)) (fun _ => ?_))
  refine .ite (fun _ => .still (.of_programme rfl)) (fun _ => ?_)
  split
  case h_1 =>
    have driven : BandSteps s (driveBlock (commandBlock s.eli) n s) := .still (.of_programme rfl)
    exact .ite (fun _ => driven.trans (read _)) (fun _ => driven)
  case h_2 => exact .still (.of_programme rfl)
  all_goals exact stray s

theorem still_linkReset (s : State) : s.Still (linkReset s) :=
  still_inFrame 0 s (fun t => .of_programme (abandon_programme t))

theorem still_unknownFrame (n : Nat) (s : State) : s.Still (unknownFrame n s) :=
  still_inFrame n s (fun _ => .ite (still_driveZeros ..) (.of_programme (phaseError_programme _)))

theorem bandSteps_edFrame (bytes : List Byte) (s : State) : BandSteps s (edFrame bytes s) := by
  unfold edFrame
  split
  · exact .still (.of_programme rfl)
  · split
    · exact .still (still_commandFrame ..)
    · exact .still (still_dataOut ..)
    · exact .still (still_dataIn ..)
    · exact bandSteps_statusFrame ..
    · exact .still (still_linkReset s)
    · exact .still (still_unknownFrame ..)

/-! ### The panel bus -/

theorem still_panelBand (band : Nat) (r : BandRequest) (s : State) : s.Still (panelBand band r s) := by
  unfold panelBand
  split
  · exact .of_programme rfl
  · exact still_panelRequest ..

theorem still_handOver (c a0 a1 : Byte) (s : State) : s.Still (handOver c a0 a1 s) := by
  unfold handOver
  split
  case h_6 =>
    split
    · exact .of_programme rfl
    · exact still_panelBand ..
  case h_7 => exact .of_programme (panelLaneCommand_programme _ s (fun _ => rfl))
  case h_8 => exact .of_programme (panelLaneCommand_programme _ s (fun _ => rfl))
  case h_9 => exact .of_programme (releaseLink_programme s)
  case h_10 => exact .of_programme (panelSoftClean_programme ..)
  case h_11 => exact .of_programme (panelThreshold_programme ..)
  case h_12 =>
    split
    · exact .of_programme rfl
    · exact still_panelBroadcast ..
  case h_13 => exact still_panelBroadcast ..
  case h_14 => exact still_panelBroadcast ..
  case h_15 => exact .refl s
  all_goals exact still_panelBand ..

theorem still_takeWrite (bytes : List Byte) (discard : Bool) (s : State) : s.Still (takeWrite bytes discard s) := by
  unfold takeWrite
  split
  · exact .refl s
  · exact .ite (.refl s) (.ite (still_handOver ..) (.of_programme rfl))

theorem panelByte_programme (b : Byte) (s : State) : (panelByte b s).2.programme = s.programme := by
  unfold panelByte beginStatusRead setTransfer
  repeat' split
  all_goals rfl

theorem panelBytes_programme (bytes : List Byte) : ∀ s : State, (panelBytes bytes s).2.programme = s.programme := by
  induction bytes with
  | nil => exact fun _ => rfl
  | cons b t ih => exact fun s => (ih _).trans (panelByte_programme b s)

theorem writeBytes_programme (bytes : List Byte) (s : State) : (writeBytes bytes s).programme = s.programme :=
  panelBytes_programme bytes s

theorem readByte_programme (s : State) : (readByte s).2.programme = s.programme := by
  unfold readByte setTransfer
  split
  · dsimp only
    split <;> rfl
  · rfl

theorem readBytes_programme (n : Nat) : ∀ s : State, (readBytes n s).2.programme = s.programme := by
  induction n with
  | zero => exact fun _ => rfl
  | succ n ih => exact fun s => (ih _).trans (readByte_programme s)

theorem clockRead_programme (n : Nat) (s : State) : (clockRead n s).programme = s.programme := readBytes_programme n s

theorem still_restart (t : Transfer) (s : State) : s.Still (restart t s) := by
  have ended : s.Still (endTransfer s) := by
    unfold endTransfer
    split
    · exact .refl s
    · exact .refl s
    · exact still_takeWrite ..
    · exact still_takeWrite ..
    · exact .ite (.of_programme rfl) (.refl s)
  exact ended.trans (.of_programme rfl)

theorem still_onBus {f : State → State} (s : State) (h : s.Still (f s)) : s.Still (onBus f s) := .ite (.refl s) h

theorem still_whenRunning {f : State → State} (s : State) (h : s.Still (f s)) : s.Still (whenRunning f s) :=
  .ite h (.refl s)

/-! ### Bands and frame starts -/

theorem still_deliver (o : Origin) (b : Fin 4) (r : Result) (v : List Byte) (s : State) : s.Still (deliver o b r v s) := by
  unfold deliver
  split
  · exact .ite (.refl s) (.of_programme rfl)
  · exact .ite (.of_programme rfl) (.refl s)

theorem bandSteps_takeRequest (sampled : Bool) (o : Origin) (b : Fin 4) (r : BandRequest) (s : State) :
    BandSteps s (takeRequest sampled o b r s) :=
  (BandSteps.one (.request sampled b r)).trans (.still (still_deliver ..))

theorem bandSteps_takeRequests (sampled : Bool) (b : Fin 4) (l : List QueuedRequest) :
    ∀ s : State, BandSteps s (takeRequests sampled b l s) := by
  induction l with
  | nil => exact BandSteps.refl
  | cons q t ih => exact fun s => (bandSteps_takeRequest ..).trans (ih _)

theorem bandSteps_takeAlone (o : Origin) (b : Fin 4) (r : BandRequest) (s : State) : BandSteps s (takeAlone o b r s) :=
  .ite (fun _ => bandSteps_takeRequest ..) (fun _ => .refl s)

theorem bandSteps_bandFrameStart (sampled : Bool) (b : Fin 4) (s : State) : BandSteps s (bandFrameStart sampled b s) := by
  have queue : BandSteps s (takeQueue sampled b s) :=
    (BandSteps.still (still_queue s b (fun _ => []))).trans (bandSteps_takeRequests ..)
  refine queue.trans (.ite (fun drawing => ?_) (fun _ => .refl _))
  split
  · exact .refl _
  · next config =>
    split
    · next crawl => exact .one (.crawl b config crawl drawing)
    · next flip => exact (BandSteps.one (.page b config flip drawing)).trans (.one (.drainEnd b))

theorem bandSteps_frameBlocks (order : List Block) : ∀ (sampled : Bool) (s : State),
    BandSteps s (frameBlocks order sampled s) := by
  induction order with
  | nil => exact fun _ s => .refl s
  | cons k t ih =>
    intro sampled s
    cases k with
    | quotes =>
      have latched : BandSteps s (quoteFrameStart s) := .still (.of_programme rfl)
      exact latched.trans (ih ..)
    | feed =>
      have counted : BandSteps s (feedFrameStart s) := .still (.of_programme (by simp [feedFrameStart]))
      exact counted.trans (ih ..)
    | band b => exact (bandSteps_bandFrameStart sampled b s).trans (ih ..)
    | compositor => exact (BandSteps.still (.of_programme (compositorFrameStart_programme s))).trans (ih ..)

theorem bandSteps_frameStart (s : State) : BandSteps s (frameStart s) := by
  unfold frameStart
  split
  · exact .refl s
  · exact .still (.of_programme rfl)
  · have begun : s.Still ({ s with frames := s.frames + 1 } : State).bumpFree := .of_programme rfl
    exact (BandSteps.still begun).trans (bandSteps_frameBlocks ..)

/-- A frame start of the timing unit, with TIMING raised or not. -/
theorem bandSteps_timedFrameStart {s t : State} (h : t.programme = s.programme) : BandSteps s (frameStart t) :=
  (BandSteps.still (.of_programme h)).trans (bandSteps_frameStart t)

theorem raiseTiming_programme (s : State) : (raiseTiming s).programme = s.programme := by
  unfold raiseTiming
  split <;> rfl

/-- The rows that end a hold or a roll do what the page step of that phase does when the end is due. -/
theorem bandSteps_flipAlone {b : Fin 4} {due : BandConfig → Band → Bool} {f : BandConfig → Fin 4 → State → State} (s : State)
    (h : ∀ c, (s.band b).halted = false → due c (s.band b) = true → f c b s = pageStep c b s) :
    BandSteps s (flipAlone b due f s) := by
  unfold flipAlone
  split
  · exact .refl s
  · next c config =>
    refine .ite (fun ⟨flipping, moving, now⟩ => ?_) (fun _ => .refl s)
    simp only [Band.flipping, Band.presentation, config, Option.map_some, Bool.and_eq_true, decide_eq_true_eq,
      Option.some.injEq] at flipping
    rw [h c moving now]
    exact .one (.page b config flipping.2 flipping.1)

theorem expirePage_eq_pageStep {b : Fin 4} {s : State} (c : BandConfig) (moving : (s.band b).halted = false)
    (due : holdDue c (s.band b) = true) : expirePage c b s = pageStep c b s := by
  simp only [holdDue, Bool.and_eq_true, decide_eq_true_eq] at due
  simp [pageStep, due.1, holdStep, moving, due.2]

theorem endRoll_eq_pageStep {b : Fin 4} {s : State} (c : BandConfig) (moving : (s.band b).halted = false)
    (due : rollDue c (s.band b) = true) : endRoll c b s = pageStep c b s := by
  simp only [rollDue, Bool.and_eq_true, decide_eq_true_eq] at due
  simp [pageStep, due.1, rollStep, moving, due.2]

theorem endLeaving_eq_pageStep {b : Fin 4} {s : State} (c : BandConfig) (moving : (s.band b).halted = false)
    (due : leavingDue c (s.band b) = true) : endLeaving c b s = pageStep c b s := by
  simp only [leavingDue, Bool.and_eq_true, decide_eq_true_eq] at due
  simp [pageStep, due.1, leavingStep, moving, due.2]

/-! ### Every row -/

/-- The next state, when there is one, comes from `s` by steps of the bands. -/
def BandStepping (s : State) (o : Host.Outcome State Fault Refusal) : Prop := ∀ t, o = .next t → BandSteps s t

theorem BandStepping.next {s t : State} (h : BandSteps s t) : BandStepping s (.next t) := fun _ e => by
  cases e
  exact h

theorem BandStepping.still {s t : State} (h : s.Still t) : BandStepping s (.next t) := .next (.still h)

theorem BandStepping.apart {s t : State} (h : t.programme = s.programme) : BandStepping s (.next t) := .still (.of_programme h)

/-- A command of both masters. -/
theorem bandStepping_via {s : State} (via : Via) (c : EdCommand) (f : State → State) (h : (f s).programme = s.programme) :
    BandStepping s (match via with
      | .editorial h => .next (edCommand h c s)
      | .panel => .next (whenRunning f s)) := by
  split
  · exact .still (still_edCommand ..)
  · exact .still (still_whenRunning s (.of_programme h))

/-- Data bytes, unless they would reach outside glyph memory. -/
theorem bandStepping_images {s t : State} (h : s.Still t) :
    BandStepping s (if imagesOutside s then .fault .glyphAddress else .next t) := by
  by_cases outside : imagesOutside s = true
  · rw [if_pos outside]
    exact fun _ e => nomatch e
  · rw [if_neg outside]
    exact .still h

theorem bandStepping_exec (i : Instr) (s : State) : BandStepping s (exec i s) := by
  cases i with
  | powerOn levels time => exact .next (.one (.reset rfl rfl))
  | resetAsserted => exact .next (.one (.reset rfl rfl))
  | initDone => exact .still (.ite (.of_programme rfl) (.refl s))
  | deviceResetStart => exact .next (.ite (fun _ => .one (.reset rfl rfl)) (fun _ => .refl s))
  | referencePulse time =>
    refine .next (.ite (fun _ => .ite (fun _ => .refl s) (fun _ => ?_)) (fun _ => ?_))
    · exact bandSteps_timedFrameStart rfl
    · exact bandSteps_timedFrameStart (raiseTiming_programme _)
  | lossLimit => exact .next (.ite (fun _ => bandSteps_timedFrameStart (raiseTiming_programme _)) (fun _ => .refl s))
  | freeRunPeriod => exact .next (.ite (fun _ => .refl s) (fun _ => bandSteps_timedFrameStart rfl))
  | flashExpired index => exact .apart rfl
  | laneSilent lane => exact .still (.ite (.of_programme (countSilence_programme ..)) (.refl s))
  | drainEnd band => exact .next (.one (.drainEnd band))
  | clearingEnd band => exact .next (.one (.clearingEnd band))
  | holdExpired band => exact .next (bandSteps_flipAlone s expirePage_eq_pageStep)
  | rollEnd band => exact .next (bandSteps_flipAlone s endRoll_eq_pageStep)
  | leavingEnd band => exact .next (bandSteps_flipAlone s endLeaving_eq_pageStep)
  | fadeOutComplete band => exact .still (.ite (.of_programme (moveBand_programme ..)) (.refl s))
  | fadeInComplete band =>
    refine .still ?_
    split
    · exact .refl s
    · exact .ite (.of_programme (moveBand_programme ..)) (.refl s)
  | bankSwap band => exact .next (.ite (fun _ => .one (.swap band)) (fun _ => .refl s))
  | retiringRecordFreed index => exact .apart rfl
  | deletingStoryFreed id => exact .apart (freeStoryIfGone_programme id s)
  | cleanRequest level => exact .apart rfl
  | feedPacket bytes => exact .still (.ite (.refl s) (.of_programme (feedBytes_programme bytes s)))
  | feedStatusRecordSent =>
    refine .still ?_
    split
    · exact .refl s
    · exact .of_programme (sent_programme ..)
  | updateEngineTurn => exact .apart (engineTurn_programme s)
  | commandFrame bytes => exact .still (still_commandFrame ..)
  | dataOutFrame bytes => exact bandStepping_images (still_dataOut ..)
  | dataInFrame count => exact .still (still_dataIn ..)
  | statusFrame count => exact .next (bandSteps_statusFrame ..)
  | linkReset => exact .still (still_linkReset s)
  | setSourceDataComplete last => exact .still (still_lastByte ..)
  | laneHold via lane => exact bandStepping_via via _ _ (panelLaneCommand_programme lane s (fun _ => rfl))
  | laneRelease via lane => exact bandStepping_via via _ _ (panelLaneCommand_programme lane s (fun _ => rfl))
  | linkRelease via => exact bandStepping_via via _ _ (releaseLink_programme s)
  | loadStoryComplete last => exact .still (still_lastByte ..)
  | loadFaceComplete last => exact .still (still_lastByte ..)
  | loadGlyphImagesComplete last => exact bandStepping_images (still_lastByte ..)
  | editDataComplete last => exact .still (still_lastByte ..)
  | softClean via value => exact bandStepping_via via _ _ (panelSoftClean_programme value s)
  | setThreshold via value => exact bandStepping_via via _ _ (panelThreshold_programme value s)
  | readEventsComplete => exact .still (.ite (still_dataIn ..) (.refl s))
  | bandRequestQueued a =>
    cases a with
    | editorial h band r => exact .still (still_edCommand ..)
    | panel band r => exact .still (still_whenRunning s (still_panelRequest ..))
  | allTakeOff cut => exact .still (still_whenRunning s (still_panelBroadcast ..))
  | allHalt => exact .still (still_whenRunning s (still_panelBroadcast ..))
  | allResume => exact .still (still_whenRunning s (still_panelBroadcast ..))
  | panelWrite bytes => exact .still (still_onBus s (.of_programme (writeBytes_programme bytes s)))
  | startCondition => exact .still (still_onBus s (still_restart ..))
  | stopCondition => exact .still (still_onBus s (still_restart ..))
  | panelStatusRead clocked =>
    exact .still (still_onBus s (.of_programme ((clockRead_programme ..).trans (writeBytes_programme ..))))
  | panelStatusReadComplete => exact .still (.ite (.refl s) (.of_programme (clockRead_programme ..)))
  | frameOfUnknownKind kind => exact .next (bandSteps_edFrame ..)
  | configure ticket band record => exact .next (bandSteps_takeAlone ..)
  | release ticket band => exact .next (bandSteps_takeAlone ..)
  | takeOn origin band fromTop => exact .next (bandSteps_takeAlone ..)
  | takeOffDrain origin band => exact .next (bandSteps_takeAlone ..)
  | takeOffCut origin band => exact .next (bandSteps_takeAlone ..)
  | halt origin band => exact .next (bandSteps_takeAlone ..)
  | resume origin band => exact .next (bandSteps_takeAlone ..)
  | setSpeed ticket band value => exact .next (bandSteps_takeAlone ..)
  | nudge band up => exact .next (bandSteps_takeAlone ..)
  | commit ticket band mode => exact .next (bandSteps_takeAlone ..)
  | breakNext ticket band story repeats => exact .next (bandSteps_takeAlone ..)
  | breakNow ticket band story repeats => exact .next (bandSteps_takeAlone ..)
  | breakClear ticket band => exact .next (bandSteps_takeAlone ..)
  | _ => exact .still (still_edCommand ..)

/-- Whatever a step does to the bands and the run lists is a chain of steps of the bands. -/
theorem bandSteps_of_step {s t : State} (h : step s = .next t) : BandSteps s t := by
  unfold step at h
  split at h
  · cases h
    exact .still (.of_programme (sendFeedByte_programme s))
  · next i rest _ =>
    have waiting : s.Still (s.withPending rest) := .of_programme rfl
    exact (BandSteps.still waiting).trans (bandStepping_exec i _ t h)

/-- What every step of the bands keeps, every step keeps. -/
theorem step_keeps_bands {P : State → Prop} (h : ∀ {s t : State}, BandStep s t → P s → P t) {s t : State}
    (k : step s = .next t) (p : P s) : P t := by
  have keeps : ∀ {u : State}, BandSteps s u → P u := fun c => by
    induction c with
    | refl => exact p
    | tail _ c ih => exact h c ih
  exact keeps (bandSteps_of_step k)

end Sys2Proof.Machine

/-! SUPPORT. What each operation of a band engine makes of the bands: which bands it leaves alone (`State.Beside`), and what a
window gains by admissions and page builds (`State.Adds`). -/

namespace Sys2Proof.Machine

/-! ### The other bands -/

/-- No band but `b` changes from `s` to `t`. -/
structure State.Beside (b : Fin 4) (s t : State) : Prop where
  band : ∀ k, k ≠ b → t.band k = s.band k

theorem State.Beside.refl (b : Fin 4) (s : State) : s.Beside b s := ⟨fun _ _ => rfl⟩

theorem State.Beside.trans {b : Fin 4} {s t u : State} (h : s.Beside b t) (k : t.Beside b u) : s.Beside b u :=
  ⟨fun j other => (k.band j other).trans (h.band j other)⟩

theorem State.Beside.of_bands {b : Fin 4} {s t : State} (h : t.bands = s.bands) : s.Beside b t :=
  ⟨fun k _ => by rw [State.band, h]; rfl⟩

theorem beside_updBand (s : State) (b : Fin 4) (f : Band → Band) : s.Beside b (s.updBand b f) :=
  ⟨fun k other => by rw [State.updBand_band, if_neg (fun e => other e.symm)]⟩

theorem beside_bumpFree (s : State) (b : Fin 4) : s.Beside b s.bumpFree := .of_bands rfl

theorem beside_setVis (s : State) (b : Fin 4) (v : Visibility) : s.Beside b (s.setVis b v) := .of_bands rfl

theorem beside_changeProg (s : State) (b : Fin 4) (p : Prog) : s.Beside b (changeProg b p s) :=
  (beside_updBand s b (fun d => { d with prog := p })).trans (.of_bands rfl)

@[simp] theorem State.updBand_band_self (s : State) (b : Fin 4) (f : Band → Band) : (s.updBand b f).band b = f (s.band b) := by
  rw [State.updBand_band, if_pos rfl]

@[simp] theorem State.updLists_lists_self (s : State) (b : Fin 4) (f : RunLists → RunLists) :
    (s.updLists b f).lists b = f (s.lists b) := by
  rw [State.updLists_lists, if_pos rfl]

/-- R10, R72: reporting instances changes no band and no run list. -/
theorem reportRemoval_programme (x : Inst) (s : State) : (reportRemoval x s).programme = s.programme := by
  unfold reportRemoval dropStory
  split
  · simp
  · split
    · simp
    · rfl
  · rfl
  · rfl

theorem reportRemovals_programme (l : List Inst) : ∀ s : State, (reportRemovals l s).programme = s.programme := by
  induction l with
  | nil => exact fun _ => rfl
  | cons x t ih => exact fun s => (ih _).trans (reportRemoval_programme x s)

theorem reportCreation_programme (x : Inst) (s : State) : (reportCreation x s).programme = s.programme := by
  unfold reportCreation
  split
  · simp
  · split <;> rfl
  · rfl
  · rfl

theorem State.bands_of_programme {s t : State} (h : t.programme = s.programme) : t.bands = s.bands :=
  congrArg (fun p => p.2.1) h

theorem State.band_of_programme {s t : State} (h : t.programme = s.programme) (b : Fin 4) : t.band b = s.band b := by
  unfold State.band
  rw [State.bands_of_programme h]

theorem State.lists_of_programme {s t : State} (h : t.programme = s.programme) (b : Fin 4) : t.lists b = s.lists b := by
  unfold State.lists
  rw [show t.rls = s.rls from congrArg (fun p => p.2.2) h]

theorem removeFront_band (b k : Fin 4) (n : Nat) (s : State) :
    (removeFront b n s).band k = (s.updBand b (fun d => { d with window := d.window.drop n })).band k :=
  State.band_of_programme (reportRemovals_programme ..) k

theorem removeFront_lists (b k : Fin 4) (n : Nat) (s : State) : (removeFront b n s).lists k = s.lists k :=
  State.lists_of_programme (reportRemovals_programme ..) k

@[simp] theorem removeFront_band_self (b : Fin 4) (n : Nat) (s : State) :
    (removeFront b n s).band b = { s.band b with window := (s.band b).window.drop n } := by
  rw [removeFront_band, State.updBand_band_self]

theorem addInstance_band (b k : Fin 4) (x : Inst) (s : State) :
    (addInstance b x s).band k = (s.updBand b (fun d => { d with window := d.window ++ [x] })).band k :=
  State.band_of_programme (reportCreation_programme ..) k

theorem addInstance_lists (b k : Fin 4) (x : Inst) (s : State) : (addInstance b x s).lists k = s.lists k :=
  State.lists_of_programme (reportCreation_programme ..) k

@[simp] theorem addInstance_band_self (b : Fin 4) (x : Inst) (s : State) :
    (addInstance b x s).band b = { s.band b with window := (s.band b).window ++ [x] } := by
  rw [addInstance_band, State.updBand_band_self]

theorem beside_removeFront (b : Fin 4) (n : Nat) (s : State) : s.Beside b (removeFront b n s) :=
  ⟨fun k other => by rw [removeFront_band]; exact (beside_updBand s b _).band k other⟩

theorem beside_addInstance (b : Fin 4) (x : Inst) (s : State) : s.Beside b (addInstance b x s) :=
  ⟨fun k other => by rw [addInstance_band]; exact (beside_updBand s b _).band k other⟩

/-! ### What a window gains -/

/-- From `s` to `t` the window of band `b` gains `new` at its end; its configuration and its page, and whether it draws, stay as
they were, and so do the other bands. -/
structure State.Adds (b : Fin 4) (new : List Inst) (s t : State) : Prop where
  others : s.Beside b t
  config : (t.band b).config = (s.band b).config
  drawing : (t.band b).prog.drawing = (s.band b).prog.drawing
  page : (t.band b).page = (s.band b).page
  window : (t.band b).window = (s.band b).window ++ new

theorem State.Adds.of_band {b : Fin 4} {s t : State} (others : s.Beside b t) (own : t.band b = s.band b) : s.Adds b [] t := by
  constructor
  case others => exact others
  case window => rw [own, List.append_nil]
  all_goals rw [own]

theorem State.Adds.refl (b : Fin 4) (s : State) : s.Adds b [] s := .of_band (.refl b s) rfl

theorem State.Adds.trans {b : Fin 4} {v w : List Inst} {s t u : State} (h : s.Adds b v t) (k : t.Adds b w u) :
    s.Adds b (v ++ w) u where
  others := h.others.trans k.others
  config := k.config.trans h.config
  drawing := k.drawing.trans h.drawing
  page := k.page.trans h.page
  window := by rw [k.window, h.window, List.append_assoc]

theorem adds_raise (s : State) (b : Fin 4) (k : EventKind) (src : EventSource) : s.Adds b [] (s.raise k src) :=
  .of_band (.of_bands rfl) rfl

/-- An update of a band that keeps its configuration, program state, page and window. -/
theorem adds_updBand (s : State) (b : Fin 4) (f : Band → Band) (config : (f (s.band b)).config = (s.band b).config := by rfl)
    (drawing : (f (s.band b)).prog.drawing = (s.band b).prog.drawing := by rfl)
    (page : (f (s.band b)).page = (s.band b).page := by rfl)
    (window : (f (s.band b)).window = (s.band b).window := by rfl) : s.Adds b [] (s.updBand b f) where
  others := beside_updBand s b f
  config := by rw [State.updBand_band_self, config]
  drawing := by rw [State.updBand_band_self, drawing]
  page := by rw [State.updBand_band_self, page]
  window := by rw [State.updBand_band_self, window, List.append_nil]

theorem adds_swapBanks (b : Fin 4) (s : State) : s.Adds b [] (swapBanks b s) := by
  have banks : s.Adds b [] (s.updLists b (fun r => { r with onAirB := !r.onAirB, commit := none })) :=
    .of_band (.of_bands rfl) rfl
  exact (banks.trans (adds_updBand _ b _)).trans (adds_raise ..)

theorem adds_swapIf (p : CommitMode → Bool) (b : Fin 4) (s : State) : s.Adds b [] (swapIf p b s) := by
  unfold swapIf
  split
  · exact adds_swapBanks b s
  · exact .refl b s

theorem adds_advanceCursor (b : Fin 4) (s : State) : s.Adds b [] (advanceCursor b s) := by
  unfold advanceCursor
  split
  · exact ((adds_updBand s b _).trans (adds_raise ..)).trans (adds_swapIf ..)
  · exact adds_updBand s b _

theorem adds_addInstance (b : Fin 4) (x : Inst) (s : State) : s.Adds b [x] (addInstance b x s) := by
  constructor
  case others => exact beside_addInstance b x s
  all_goals rw [addInstance_band_self]

theorem adds_admitInst (b : Fin 4) (x : Inst) (s : State) : s.Adds b [x] (admitInst b x s) :=
  (adds_updBand s b _).trans (adds_addInstance ..)

theorem adds_deferAdmission (b : Fin 4) (s : State) : s.Adds b [] (deferAdmission b s) := by
  unfold deferAdmission
  split
  · exact .refl b s
  · exact (adds_updBand s b _).trans (adds_raise ..)

/-- R134: a band that leaves BREAKING for RUNNING goes on drawing. -/
theorem adds_endBreaks (b : Fin 4) (s : State) : s.Adds b [] (endBreaks b s) := by
  unfold endBreaks
  split
  · split
    · next breaking =>
      have running : (s.updBand b Band.restoreContext).Adds b [] (changeProg b .running (s.updBand b Band.restoreContext)) :=
        (adds_updBand _ b _ rfl (by simp [Band.restoreContext, breaking, Prog.drawing])).trans (adds_raise ..)
      exact ((adds_updBand s b Band.restoreContext).trans running).trans (adds_raise ..)
    · exact adds_raise ..
  · exact .refl b s

/-- A break entry that is considered gives one instance, or none. -/
theorem adds_considerBreak (c : BandConfig) (b : Fin 4) (e : BreakEntry) (rest : List BreakEntry) (s : State) :
    ∃ new, new.length ≤ 1 ∧ s.Adds b new (considerBreak c b e rest s) := by
  unfold considerBreak
  split
  · refine ⟨_, ?_, ((adds_admitInst ..).trans (adds_updBand _ b _)).trans (adds_endBreaks ..)⟩
    exact le_rfl
  · exact ⟨[], Nat.zero_le 1, ((adds_updBand s b _).trans (adds_raise ..)).trans (adds_endBreaks ..)⟩

/-- An item that is considered gives one instance, or none. -/
theorem adds_considerItem (c : BandConfig) (b : Fin 4) (i : Item) (s : State) :
    ∃ new, new.length ≤ 1 ∧ s.Adds b new (considerItem c b i s) := by
  unfold considerItem
  split
  · refine ⟨_, ?_, (adds_admitInst ..).trans (adds_advanceCursor ..)⟩
    exact le_rfl
  · exact ⟨[], Nat.zero_le 1, (adds_raise s b ..).trans (adds_advanceCursor ..)⟩

/-- R116, R121: admissions join the end of the window, and stop at 64 instances. -/
theorem adds_admitLoop (c : BandConfig) (b : Fin 4) (fuel : Nat) : ∀ (skips : Nat) (s : State),
    ∃ new, s.Adds b new (admitLoop c b fuel skips s) ∧
      ((s.band b).window.length ≤ Config.windowSize → (s.band b).window.length + new.length ≤ Config.windowSize) := by
  induction fuel with
  | zero => exact fun _ s => ⟨[], .refl b s, id⟩
  | succ fuel ih =>
    intro skips s
    have stop : ∀ t, s.Adds b [] t → ∃ new, s.Adds b new t ∧
        ((s.band b).window.length ≤ Config.windowSize → (s.band b).window.length + new.length ≤ Config.windowSize) :=
      fun _ a => ⟨[], a, id⟩
    unfold admitLoop
    split
    · exact stop _ (.refl b s)
    · split
      · exact stop _ (adds_deferAdmission b s)
      · next room =>
        have go : ∀ (v : List Inst) (t : State) (k : Nat), v.length ≤ 1 → s.Adds b v t →
            ∃ new, s.Adds b new (admitLoop c b fuel k t) ∧ ((s.band b).window.length ≤ Config.windowSize →
              (s.band b).window.length + new.length ≤ Config.windowSize) := fun v t k one a => by
          obtain ⟨w, more, fits⟩ := ih k t
          rw [a.window, List.length_append] at fits
          exact ⟨v ++ w, a.trans more, fun _ => by rw [List.length_append]; omega⟩
        split
        · obtain ⟨v, one, a⟩ := adds_considerBreak c b _ _ s
          exact go v _ _ one a
        · split
          · split
            · exact go [] _ _ (Nat.zero_le 1) (adds_swapBanks b s)
            · exact stop _ (adds_raise ..)
          · split
            · exact stop _ (adds_raise ..)
            · split
              · exact stop _ (.refl b s)
              · obtain ⟨v, one, a⟩ := adds_considerItem c b _ s
                exact go v _ _ one a

theorem adds_admissionStep (c : BandConfig) (b : Fin 4) (s : State) :
    ∃ new, s.Adds b new (admissionStep c b s) ∧
      ((s.band b).window.length ≤ Config.windowSize → (s.band b).window.length + new.length ≤ Config.windowSize) := by
  have begun : s.Adds b [] (swapIf (fun m => decide (m = .immediate)) b s) := adds_swapIf ..
  unfold admissionStep
  dsimp only
  split
  · obtain ⟨new, a, fits⟩ := adds_admitLoop c b (admissionFuel (swapIf (fun m => decide (m = .immediate)) b s) b) 0
      (swapIf (fun m => decide (m = .immediate)) b s)
    rw [begun.window, List.append_nil] at fits
    exact ⟨new, begun.trans a, fits⟩
  · exact ⟨[], begun, id⟩

/-- R141: a page build gives as many instances as it took items, at most 32. -/
theorem adds_buildLoop (c : BandConfig) (b : Fin 4) (voffset : Int) (fuel : Nat) :
    ∀ (taken used lastGap skips : Nat) (s : State), taken < Config.pageSize →
      ∃ new, s.Adds b new (buildLoop c b voffset fuel taken used lastGap skips s).2 ∧
        (buildLoop c b voffset fuel taken used lastGap skips s).1 = taken + new.length ∧
        (buildLoop c b voffset fuel taken used lastGap skips s).1 ≤ Config.pageSize := by
  induction fuel with
  | zero => exact fun taken _ _ _ s room => ⟨[], .refl b s, rfl, room.le⟩
  | succ fuel ih =>
    intro taken used lastGap skips s room
    have stop : ∀ t, s.Adds b [] t → ∃ new, s.Adds b new (taken, t).2 ∧ (taken, t).1 = taken + new.length ∧
        (taken, t).1 ≤ Config.pageSize := fun t a => ⟨[], a, rfl, room.le⟩
    unfold buildLoop
    split
    · exact stop _ (.refl b s)
    · split
      · exact stop _ (.refl b s)
      · next i _ =>
        split
        · split
          · exact stop _ (.refl b s)
          · dsimp only
            have joined : ∀ x, s.Adds b [x] (advanceCursor b (addInstance b x s)) := fun x =>
              (adds_addInstance b x s).trans (adds_advanceCursor ..)
            split
            · exact ⟨_, joined _, rfl, room⟩
            · next more =>
              obtain ⟨w, a, count, fits⟩ := ih (taken + 1) _ _ _ _ (lt_of_le_of_ne room (fun e => more (.inr e)))
              refine ⟨_, (joined _).trans a, ?_, fits⟩
              rw [count, List.length_append, List.length_singleton, Nat.add_assoc]
        · have skipped : s.Adds b [] (advanceCursor b (s.raise .itemSkipped (.band b))) :=
            (adds_raise s b ..).trans (adds_advanceCursor ..)
          dsimp only
          split
          · exact stop _ skipped
          · obtain ⟨w, a, rest⟩ := ih taken used lastGap _ _ room
            exact ⟨w, skipped.trans a, rest⟩

theorem adds_pageBuild (c : BandConfig) (b : Fin 4) (voffset : Int) (s : State) :
    ∃ new, s.Adds b new (pageBuild c b voffset s).2 ∧ (pageBuild c b voffset s).1 = new.length ∧
      new.length ≤ Config.pageSize := by
  unfold pageBuild
  extract_lets s1 s2 r
  have first : s.Adds b [] s1 := adds_swapIf ..
  have second : s.Adds b [] s2 := by
    show s.Adds b [] (if _ then _ else _)
    split
    · exact first.trans (adds_swapIf ..)
    · exact first
  obtain ⟨new, a, count, fits⟩ := adds_buildLoop c b voffset (buildFuel s2 b) 0 0 0 0 s2 (by decide)
  rw [Nat.zero_add] at count
  have size : new.length ≤ Config.pageSize := count ▸ fits
  split
  · next none =>
    exact ⟨new, List.append_nil new ▸ ((second.trans a).trans (adds_raise r.2 b .starved (.band b))), none.symm.trans count, size⟩
  · exact ⟨new, second.trans a, count, size⟩

end Sys2Proof.Machine

/-! SUPPORT. Every step of the bands keeps every window in its shape. -/

namespace Sys2Proof.Machine

/-! ### Windows in their shape -/

theorem Band.windowOk.congr {d e : Band} (h : d.windowOk) (config : e.config = d.config)
    (drawing : e.prog.drawing = d.prog.drawing) (page : e.page = d.page) (window : e.window = d.window) : e.windowOk := by
  unfold Band.windowOk Band.presentation
  rw [config, drawing, page, window]
  exact h

/-- A band in a drawing state: at most 64 instances, and for a FLIP band those of its page phase. -/
theorem Band.windowOk_of_drawing {d : Band} (drawing : d.prog.drawing = true) (length : d.window.length ≤ Config.windowSize)
    (shape : d.presentation = some .flip → match d.page.phase with
      | .empty => d.window = []
      | .holding => d.window.length ≤ Config.pageSize
      | .rolling => d.page.outgoing ≤ Config.pageSize ∧ d.window.length ≤ d.page.outgoing + Config.pageSize
      | .leaving => d.window.length ≤ d.page.outgoing ∧ d.page.outgoing ≤ Config.pageSize) : d.windowOk := by
  refine ⟨length, fun no => ?_, shape⟩
  rw [drawing] at no
  cases no

theorem Band.windowOk_of_flip {d : Band} (drawing : d.prog.drawing = true) (length : d.window.length ≤ Config.windowSize)
    (shape : match d.page.phase with
      | .empty => d.window = []
      | .holding => d.window.length ≤ Config.pageSize
      | .rolling => d.page.outgoing ≤ Config.pageSize ∧ d.window.length ≤ d.page.outgoing + Config.pageSize
      | .leaving => d.window.length ≤ d.page.outgoing ∧ d.page.outgoing ≤ Config.pageSize) : d.windowOk :=
  Band.windowOk_of_drawing drawing length (fun _ => shape)

/-- A band without an instance whose page is EMPTY. -/
theorem Band.windowOk_of_empty {d : Band} (window : d.window = []) (page : d.page = Page.initial) : d.windowOk := by
  refine ⟨by rw [window]; exact Nat.zero_le _, fun _ => ⟨window, page⟩, fun _ => ?_⟩
  rw [page]
  exact window

theorem Band.windowOk.withProg {d : Band} (h : d.windowOk) {p : Prog} (drawing : p.drawing = true) :
    ({ d with prog := p } : Band).windowOk :=
  Band.windowOk_of_drawing drawing h.1 h.2.2

/-- Instances that leave from the front leave the window in its shape. -/
theorem Band.windowOk.drop {d : Band} (h : d.windowOk) (n : Nat) : ({ d with window := d.window.drop n } : Band).windowOk := by
  have shorter : (d.window.drop n).length ≤ d.window.length := by rw [List.length_drop]; omega
  obtain ⟨length, still, flip⟩ := h
  refine ⟨shorter.trans length, fun no => ?_, fun f => ?_⟩
  · obtain ⟨window, page⟩ := still no
    exact ⟨by simp [window], page⟩
  · have shape := flip f
    dsimp only at shape ⊢
    cases phase : d.page.phase with
    | empty =>
      rw [phase] at shape
      simp [shape]
    | holding =>
      rw [phase] at shape
      exact shorter.trans shape
    | rolling =>
      rw [phase] at shape
      exact ⟨shape.1, shorter.trans shape.2⟩
    | leaving =>
      rw [phase] at shape
      exact ⟨shorter.trans shape.1, shape.2⟩

theorem State.windowsOk.of_beside {b : Fin 4} {s t : State} (ok : s.windowsOk) (others : s.Beside b t)
    (own : (t.band b).windowOk) : t.windowsOk := fun k => by
  by_cases e : k = b
  · exact e ▸ own
  · rw [others.band k e]
    exact ok k

theorem State.windowsOk.updBand {b : Fin 4} {s : State} {f : Band → Band} (ok : s.windowsOk) (h : (f (s.band b)).windowOk) :
    (s.updBand b f).windowsOk :=
  ok.of_beside (beside_updBand s b f) (by rwa [State.updBand_band_self])

theorem State.windowsOk.of_adds {b : Fin 4} {s t : State} (ok : s.windowsOk) (a : s.Adds b [] t) : t.windowsOk :=
  ok.of_beside a.others ((ok b).congr a.config a.drawing a.page (by rw [a.window, List.append_nil]))

theorem State.windowsOk.removeFront {s : State} (ok : s.windowsOk) (b : Fin 4) (n : Nat) : (removeFront b n s).windowsOk :=
  ok.of_beside (beside_removeFront ..) (by
    rw [removeFront_band_self]
    exact (ok b).drop n)

theorem State.windowsOk.changeProg {b : Fin 4} {p : Prog} {s : State} (ok : s.windowsOk) (drawing : p.drawing = true) :
    (changeProg b p s).windowsOk :=
  State.windowsOk.of_adds (ok.updBand (f := fun d => { d with prog := p }) ((ok b).withProg drawing)) (b := b) (adds_raise ..)

/-- R139: a band without an instance enters READY with its page EMPTY. -/
theorem State.windowsOk.enterReady {b : Fin 4} {s : State} (ok : s.windowsOk) (window : (s.band b).window = []) :
    (enterReady b s).windowsOk := by
  have paged := ok.updBand (b := b) (f := fun d => { d with page := Page.initial }) (Band.windowOk_of_empty window rfl)
  refine State.windowsOk.of_adds (b := b) ?_ (adds_swapIf ..)
  refine State.windowsOk.updBand (f := fun d => { d with prog := .ready }) (State.windowsOk.of_adds (b := b) paged ?_) ?_
  · exact .of_band (.of_bands rfl) rfl
  · refine Band.windowOk_of_empty ?_ ?_
    · show ((s.updBand b _).band b).window = []
      rw [State.updBand_band_self]
      exact window
    · show ((s.updBand b _).band b).page = _
      rw [State.updBand_band_self]

theorem State.windowsOk.drainEndStep {s : State} (ok : s.windowsOk) (b : Fin 4) : (drainEndStep b s).windowsOk := by
  unfold Machine.drainEndStep
  split
  · next ended =>
    refine (ok.updBand ((ok b).congr rfl rfl rfl rfl)).enterReady ?_
    rw [State.updBand_band_self]
    exact ended.2
  · exact ok

theorem State.windowsOk.clearingEndStep {s : State} (ok : s.windowsOk) (b : Fin 4) : (clearingEndStep b s).windowsOk := by
  unfold Machine.clearingEndStep
  split
  · exact ok.changeProg rfl
  · exact ok

/-! ### A CRAWL band -/

/-- R115, R116: moves and admissions keep the window of a drawing CRAWL band within 64 instances. -/
theorem State.windowsOk.crawlSteps {b : Fin 4} {c : BandConfig} {s : State} (ok : s.windowsOk)
    (config : (s.band b).config = some c) (crawl : c.presentation = .crawl) (drawing : (s.band b).prog.drawing = true) :
    (crawlSteps c b s).windowsOk := by
  have crawls : ∀ d : Band, d.config = some c → d.prog.drawing = true → d.window.length ≤ Config.windowSize → d.windowOk :=
    fun d conf draws length =>
      Band.windowOk_of_drawing draws length (fun flip => by simp [Band.presentation, conf, crawl] at flip)
  have moved : (moveStep b (rampStep c b s)).windowsOk := by
    refine State.windowsOk.removeFront (State.windowsOk.updBand (ok.updBand ((ok b).congr rfl rfl rfl rfl)) ?_) b _
    rw [State.updBand_band_self]
    refine crawls _ config drawing ?_
    unfold Band.shifted
    rw [List.length_map]
    exact (ok b).1
  have own : ((moveStep b (rampStep c b s)).band b).config = some c ∧
      ((moveStep b (rampStep c b s)).band b).prog.drawing = true := by
    simp [moveStep, rampStep, Band.shifted, config, drawing]
  obtain ⟨new, a, fits⟩ := adds_admissionStep c b (moveStep b (rampStep c b s))
  refine State.windowsOk.clearingEndStep (State.windowsOk.drainEndStep (moved.of_beside a.others ?_) b) b
  refine crawls _ (a.config.trans own.1) (a.drawing.trans own.2) ?_
  rw [a.window, List.length_append]
  exact fits (moved b).1

/-! ### A FLIP band -/

@[simp] theorem rolledWindow_length (c : BandConfig) (k m : Nat) (w : List Inst) : (rolledWindow c k m w).length = w.length := by
  have h := congrArg List.length (rolledWindow_kinds c k m w)
  simpa using h

theorem setRoll_band_self (c : BandConfig) (b : Fin 4) (k : Nat) (s : State) : (setRoll c b k s).band b =
    { s.band b with page := { (s.band b).page with roll := k },
                    window := rolledWindow c k (s.band b).page.outgoing (s.band b).window } := by
  rw [setRoll, State.updBand_band_self]

theorem updPage_band_self (b : Fin 4) (f : Page → Page) (s : State) :
    (updPage b f s).band b = { s.band b with page := f (s.band b).page } := by
  rw [updPage, State.updBand_band_self]

/-- The shape of a FLIP band's window in one phase. -/
theorem State.windowsOk.page_shape {b : Fin 4} {c : BandConfig} {s : State} (ok : s.windowsOk)
    (config : (s.band b).config = some c) (flip : c.presentation = .flip) :
    match (s.band b).page.phase with
      | .empty => (s.band b).window = []
      | .holding => (s.band b).window.length ≤ Config.pageSize
      | .rolling => (s.band b).page.outgoing ≤ Config.pageSize ∧
          (s.band b).window.length ≤ (s.band b).page.outgoing + Config.pageSize
      | .leaving => (s.band b).window.length ≤ (s.band b).page.outgoing ∧ (s.band b).page.outgoing ≤ Config.pageSize :=
  (ok b).2.2 (by rw [Band.presentation, config, Option.map_some, flip])

/-- A band that stands on the page of a build alone: EMPTY when the build took nothing, and else HOLDING. -/
theorem State.windowsOk.settlePage {b : Fin 4} {s u : State} {n : Nat} (c : BandConfig) (ok : s.windowsOk) (others : s.Beside b u)
    (drawing : (u.band b).prog.drawing = true) (count : n = (u.band b).window.length)
    (size : (u.band b).window.length ≤ Config.pageSize) : (settlePage c b n u).windowsOk := by
  refine ok.of_beside (others.trans (beside_updBand ..)) ?_
  rw [Machine.settlePage, updPage_band_self]
  have fits : (u.band b).window.length ≤ Config.windowSize := size.trans (by decide)
  split
  · next none => exact Band.windowOk_of_flip drawing fits (List.length_eq_zero_iff.mp (count.symm.trans none))
  · exact Band.windowOk_of_flip drawing fits size

/-- R147: a page of at most 32 instances leaves alone. -/
theorem State.windowsOk.enterLeaving {b : Fin 4} {s u : State} (c : BandConfig) (ok : s.windowsOk) (others : s.Beside b u)
    (drawing : (u.band b).prog.drawing = true) (size : (u.band b).window.length ≤ Config.pageSize) :
    (enterLeaving c b u).windowsOk := by
  refine ok.of_beside ((others.trans (beside_updBand ..)).trans (beside_updBand ..)) ?_
  rw [Machine.enterLeaving, setRoll_band_self, updPage_band_self]
  refine Band.windowOk_of_flip drawing ?_ ⟨?_, size⟩
  · rw [rolledWindow_length]
    exact size.trans (by decide)
  · rw [rolledWindow_length]

/-- R144 to R148: a hold that expires leaves no page, the next one, both, or the old one as it leaves. -/
theorem State.windowsOk.expirePage {b : Fin 4} {s : State} (c : BandConfig) (ok : s.windowsOk)
    (drawing : (s.band b).prog.drawing = true) (size : (s.band b).window.length ≤ Config.pageSize) :
    (expirePage c b s).windowsOk := by
  unfold Machine.expirePage
  dsimp only
  split
  · split
    · refine ok.of_beside ((beside_removeFront ..).trans (beside_updBand ..)) ?_
      rw [updPage_band_self, removeFront_band_self]
      exact Band.windowOk_of_flip drawing (by simp) (by simp)
    · exact ok.enterLeaving c (.refl b s) drawing size
  · split
    · obtain ⟨new, a, count, fits⟩ := adds_pageBuild c b 0 s
      have page : ((Machine.removeFront b (s.band b).window.length (pageBuild c b 0 s).2).band b).window = new := by
        rw [removeFront_band_self, a.window, List.drop_left]
      refine ok.settlePage c (a.others.trans (beside_removeFront ..)) ?_ ?_ ?_
      · rw [removeFront_band_self]
        exact a.drawing.trans drawing
      · rw [page, count]
      · rw [page]
        exact fits
    · obtain ⟨new, a, count, fits⟩ := adds_pageBuild c b ((c.height : Int) - (rollLines c 1 : Int)) s
      split
      · next none =>
        refine ok.enterLeaving c a.others (a.drawing.trans drawing) ?_
        rw [a.window, List.length_eq_zero_iff.mp (count.symm.trans none), List.append_nil]
        exact size
      · refine ok.of_beside ((a.others.trans (beside_updBand ..)).trans (beside_updBand ..)) ?_
        rw [setRoll_band_self, updPage_band_self]
        have both : ((pageBuild c b ((c.height : Int) - (rollLines c 1 : Int)) s).2.band b).window.length =
            (s.band b).window.length + new.length := by rw [a.window, List.length_append]
        refine Band.windowOk_of_flip (a.drawing.trans drawing) ?_ ⟨size, ?_⟩
        · rw [rolledWindow_length, both]
          exact Nat.add_le_add size fits
        · rw [rolledWindow_length, both]
          exact Nat.add_le_add_left fits _

/-- A step of a roll changes vertical offsets alone. -/
theorem State.windowsOk.setRoll {s : State} (c : BandConfig) (b : Fin 4) (k : Nat) (ok : s.windowsOk)
    (drawing : (s.band b).prog.drawing = true) : (setRoll c b k s).windowsOk := by
  refine ok.of_beside (beside_updBand ..) ?_
  rw [setRoll_band_self]
  obtain ⟨length, _, flip⟩ := ok b
  refine Band.windowOk_of_drawing drawing (by rwa [rolledWindow_length]) (fun f => ?_)
  have shape := flip f
  dsimp only at shape ⊢
  rw [rolledWindow_length]
  cases phase : (s.band b).page.phase with
  | empty =>
    rw [phase] at shape
    simp [rolledWindow, shape]
  | holding => rwa [phase] at shape
  | rolling => rwa [phase] at shape
  | leaving => rwa [phase] at shape

/-- R146: the incoming page holds when the outgoing one is gone. -/
theorem State.windowsOk.endRoll {b : Fin 4} {s : State} (c : BandConfig) (ok : s.windowsOk)
    (drawing : (s.band b).prog.drawing = true)
    (size : (s.band b).window.length ≤ (s.band b).page.outgoing + Config.pageSize) : (endRoll c b s).windowsOk := by
  unfold Machine.endRoll
  dsimp only
  refine ok.of_beside ((((beside_removeFront ..).trans (beside_updBand ..)).trans (beside_updBand ..)).trans (beside_bumpFree ..)) ?_
  rw [State.bumpFree_band, updPage_band_self, State.updBand_band_self, removeFront_band_self]
  have kept : ((s.band b).window.drop (s.band b).page.outgoing).length ≤ Config.pageSize := by
    rw [List.length_drop]
    omega
  refine Band.windowOk_of_flip drawing ?_ ?_
  · rw [List.length_map]
    exact kept.trans (by decide)
  · show (List.map _ _).length ≤ _
    rw [List.length_map]
    exact kept

/-- R147: the page that has left leaves the window empty, and a RUNNING band builds its next page. -/
theorem State.windowsOk.endLeaving {b : Fin 4} {s : State} (c : BandConfig) (ok : s.windowsOk)
    (drawing : (s.band b).prog.drawing = true) (size : (s.band b).window.length ≤ (s.band b).page.outgoing) :
    (endLeaving c b s).windowsOk := by
  unfold Machine.endLeaving
  extract_lets k m s' r
  have others : s.Beside b s' := ((beside_removeFront ..).trans (beside_updBand ..)).trans (beside_bumpFree ..)
  have own : s'.band b = { s.band b with window := [], page := ⟨.empty, (s.band b).page.hold, k, m⟩ } := by
    show ((updPage b _ (Machine.removeFront b _ s)).bumpFree).band b = _
    rw [State.bumpFree_band, updPage_band_self, removeFront_band_self, List.drop_eq_nil_of_le size]
  split
  · obtain ⟨new, a, count, fits⟩ := adds_pageBuild c b 0 s'
    have page : (r.2.band b).window = new := by rw [a.window, own, List.nil_append]
    refine ok.settlePage c (others.trans a.others) ?_ ?_ ?_
    · rw [a.drawing, own]
      exact drawing
    · rw [page]
      exact count
    · rw [page]
      exact fits
  · refine ok.of_beside others ?_
    rw [own]
    exact Band.windowOk_of_flip drawing (Nat.zero_le _) rfl

theorem State.windowsOk.pageStep {b : Fin 4} {c : BandConfig} {s : State} (ok : s.windowsOk)
    (config : (s.band b).config = some c) (flip : c.presentation = .flip) (drawing : (s.band b).prog.drawing = true) :
    (pageStep c b s).windowsOk := by
  have shape := ok.page_shape config flip
  unfold Machine.pageStep
  cases phase : (s.band b).page.phase with
  | empty =>
    rw [phase] at shape
    dsimp only at shape ⊢
    split
    · obtain ⟨new, a, count, fits⟩ := adds_pageBuild c b 0 s
      have page : ((pageBuild c b 0 s).2.band b).window = new := by rw [a.window, shape, List.nil_append]
      exact ok.settlePage c a.others (a.drawing.trans drawing) (by rw [page, count]) (by rwa [page])
    · exact ok
  | holding =>
    rw [phase] at shape
    dsimp only at shape ⊢
    unfold holdStep
    split
    · exact ok
    · split
      · exact ok.expirePage c drawing shape
      · refine ok.of_beside (beside_updBand ..) ?_
        rw [updPage_band_self]
        refine Band.windowOk_of_flip drawing (ok b).1 ?_
        dsimp only
        rw [phase]
        exact shape
  | rolling =>
    rw [phase] at shape
    dsimp only at shape ⊢
    unfold rollStep
    split
    · exact ok
    · split
      · exact ok.setRoll c b _ drawing
      · exact ok.endRoll c drawing shape.2
  | leaving =>
    rw [phase] at shape
    dsimp only at shape ⊢
    unfold leavingStep
    split
    · exact ok
    · split
      · exact ok.setRoll c b _ drawing
      · exact ok.endLeaving c drawing shape.1

/-! ### Requests -/

/-- The update of a band by a request that leaves its window, its page and its presentation as they are. -/
theorem State.windowsOk.updated {s : State} (ok : s.windowsOk) (b : Fin 4) (f : Band → Band)
    (h : (s.band b).windowOk → (f (s.band b)).windowOk := by exact id) : (s.updBand b f).windowsOk := ok.updBand (h (ok b))

theorem State.windowsOk.takeConfigure {s : State} (ok : s.windowsOk) (b : Fin 4) (c : ConfigRecord) :
    (takeConfigure b c s).2.windowsOk := by
  unfold Machine.takeConfigure
  split
  · exact ok
  · next still =>
    split
    · exact ok
    · split
      · exact ok
      · have idle : (s.band b).prog.drawing = false := by
          cases e : (s.band b).prog <;> simp_all [Prog.drawing]
        obtain ⟨window, page⟩ := (ok b).2.1 idle
        have stored := ok.updated b (fun d => { d with config := storedConfig c })
          (fun _ => Band.windowOk_of_empty window page)
        show State.windowsOk (if _ then _ else _)
        split
        · refine stored.enterReady ?_
          rw [State.updBand_band_self]
          exact window
        · exact stored

theorem State.windowsOk.takeRelease {s : State} (ok : s.windowsOk) (b : Fin 4) : (takeRelease b s).2.windowsOk := by
  unfold Machine.takeRelease
  split
  · next ready =>
    obtain ⟨window, page⟩ := (ok b).2.1 (by rw [ready]; rfl)
    have released := ok.updated b (fun d => { d with config := none, halted := false, cursor := 0, prog := .off })
      (fun _ => Band.windowOk_of_empty window page)
    have same := State.updBand_updBand s b (fun d => { d with config := none, halted := false, cursor := 0 })
      (fun d => { d with prog := .off })
    exact State.windowsOk.of_adds (b := b) (same ▸ released) (adds_raise ..)
  · exact ok

theorem State.windowsOk.takeTakeOn {s : State} (ok : s.windowsOk) (sampled : Bool) (b : Fin 4) (fromTop : Bool) :
    (takeTakeOn sampled b fromTop s).2.windowsOk := by
  unfold Machine.takeTakeOn
  extract_lets top
  split
  case h_1 =>
    split
    · exact ok
    · next c _ =>
      have set := ok.updated b (fun d => { top d with speed := takeOnSpeed d c })
      exact State.windowsOk.changeProg (State.windowsOk.of_adds (b := b) set (.of_band (.of_bands rfl) rfl)) rfl
  case h_2 => exact (ok.updated b top).changeProg rfl
  all_goals exact ok

theorem State.windowsOk.takeTakeOffDrain {s : State} (ok : s.windowsOk) (b : Fin 4) : (takeTakeOffDrain b s).2.windowsOk := by
  unfold Machine.takeTakeOffDrain
  split
  case h_1 => exact (ok.updated b (fun d => { d with breaks := [] })).changeProg rfl
  case h_2 => exact (ok.updated b (fun d => { d.restoreContext with breaks := [] })).changeProg rfl
  case h_3 => exact (ok.updated b (fun d => { d.restoreContext with breaks := [] })).changeProg rfl
  all_goals exact ok

theorem State.windowsOk.takeTakeOffCut {s : State} (ok : s.windowsOk) (b : Fin 4) : (takeTakeOffCut b s).2.windowsOk := by
  unfold Machine.takeTakeOffCut
  split
  · refine ((ok.removeFront b _).updated b (fun d => { d with breaks := [], saved := none, deferral := false, speed := 0 })).enterReady ?_
    simp
  · exact ok

theorem State.windowsOk.takeHalted {s : State} (ok : s.windowsOk) (b : Fin 4) (halted : Bool) :
    (takeHalted b halted s).2.windowsOk := by
  unfold Machine.takeHalted
  split
  · exact ok
  · exact ok.updated b (fun d => { d with halted := halted })

theorem State.windowsOk.takeTarget {s : State} (ok : s.windowsOk) (b : Fin 4) (f : Nat → Nat) :
    (takeTarget b f s).2.windowsOk := by
  unfold Machine.takeTarget
  split
  · exact ok
  · refine ok.updated b _ (fun own => ?_)
    have same : (Option.map (fun c => { c with speedTarget := f c.speedTarget }) (s.band b).config).map
        BandConfig.presentation = (s.band b).config.map BandConfig.presentation := by
      rw [Option.map_map]
      rfl
    unfold Band.windowOk Band.presentation at own ⊢
    dsimp only
    rw [same]
    exact own

theorem State.windowsOk.takeCommit {s : State} (ok : s.windowsOk) (b : Fin 4) (m : CommitMode) : (takeCommit b m s).windowsOk := by
  unfold Machine.takeCommit
  split
  · exact State.windowsOk.of_adds (b := b) ok (.of_band (.of_bands rfl) rfl)
  · exact ok.of_adds (adds_swapBanks b s)

theorem State.windowsOk.takeBreak {s : State} (ok : s.windowsOk) (b : Fin 4) (e : BreakEntry) :
    (takeBreak b e s).2.windowsOk := by
  unfold Machine.takeBreak
  split
  · exact ok
  · split
    · exact ok
    · split
      · exact ok
      · have placed := ok.updated b (fun d => { d with breaks := placeBreak e d.breaks })
        show State.windowsOk (if _ then _ else _)
        split
        · exact (placed.updated b (fun d => { d with saved := some d.cursor })).changeProg rfl
        · exact placed

theorem State.windowsOk.takeBreakClear {s : State} (ok : s.windowsOk) (b : Fin 4) : (takeBreakClear b s).2.windowsOk := by
  unfold Machine.takeBreakClear
  split
  · exact ok
  · split
    case h_1 => exact (ok.updated b (fun d => { d.restoreContext with breaks := [] })).changeProg rfl
    case h_2 => exact (ok.updated b (fun d => { d.restoreContext with breaks := [] })).changeProg rfl
    case h_3 => exact ok.updated b (fun d => { d with breaks := [] })
    all_goals exact ok

theorem State.windowsOk.judgeRequest {s : State} (ok : s.windowsOk) (sampled : Bool) (b : Fin 4) (r : BandRequest) :
    (judgeRequest sampled b r s).2.windowsOk := by
  cases r with
  | configure c => exact ok.takeConfigure b c
  | release => exact ok.takeRelease b
  | takeOn fromTop => exact ok.takeTakeOn sampled b fromTop
  | takeOffDrain => exact ok.takeTakeOffDrain b
  | takeOffCut => exact ok.takeTakeOffCut b
  | halt => exact ok.takeHalted b true
  | resume => exact ok.takeHalted b false
  | setSpeed v => exact ok.takeTarget b _
  | nudge up => exact ok.takeTarget b _
  | commit m => exact ok.takeCommit b m
  | brk story repeats urgency => exact ok.takeBreak b _
  | breakClear => exact ok.takeBreakClear b

/-! ### Every step of the bands -/

theorem State.Still.windowsOk {s t : State} (h : s.Still t) (ok : s.windowsOk) : t.windowsOk := fun b => by
  obtain ⟨q, e⟩ := h.band b
  rw [e]
  exact ok b

theorem BandStep.windowsOk {s t : State} (step : BandStep s t) (ok : s.windowsOk) : t.windowsOk := by
  cases step with
  | still h => exact h.windowsOk ok
  | reset bands _ =>
    intro b
    rw [State.band, bands, tget_replicate]
    exact Band.windowOk_of_empty rfl rfl
  | request sampled b r => exact ok.judgeRequest sampled b r
  | swap b => exact ok.of_adds (adds_swapBanks b s)
  | crawl b config crawl drawing => exact ok.crawlSteps config crawl drawing
  | page b config flip drawing => exact ok.pageStep config flip drawing
  | drainEnd b => exact ok.drainEndStep b
  | clearingEnd b => exact ok.clearingEndStep b

end Sys2Proof.Machine

/-! SUPPORT for O56. Every step of the bands keeps the running orders and the breaks: the cursor within the on-air bank, and saved contexts,
commits, deferrals and break entries where the program state allows them. -/

namespace Sys2Proof.Machine

/-! ### One band and its run lists -/

/-- `Band.orderOk` with its parts named. -/
structure Band.Orderly (d : Band) (r : RunLists) : Prop where
  config : d.config = none ↔ d.prog = .off
  cursor : d.cursor < r.onAir.length ∨ d.cursor = 0
  saved : d.saved = if d.prog = .clearing ∨ d.prog = .breaking then some d.cursor else none
  idle : d.prog.drawing = false → r.commit = none ∧ d.deferral = false
  off : d.prog = .off → d.halted = false
  waiting : d.prog = .clearing ∨ d.prog = .breaking → d.breaks ≠ []
  crawl : d.breaks ≠ [] → d.presentation = some .crawl ∧ (d.prog = .running ∨ d.prog = .clearing ∨ d.prog = .breaking)

theorem Band.orderOk_iff {d : Band} {r : RunLists} : d.orderOk r ↔ d.Orderly r := by
  constructor
  · rintro ⟨config, cursor, saved, idle, off, waiting, crawl⟩
    exact ⟨config, cursor, saved, idle, off, waiting, crawl⟩
  · rintro ⟨config, cursor, saved, idle, off, waiting, crawl⟩
    exact ⟨config, cursor, saved, idle, off, waiting, crawl⟩

/-- R129: with no break entry no context is saved. -/
theorem Band.orderOk.plain {d : Band} {r : RunLists} (h : d.orderOk r) (none : d.breaks = []) :
    ¬ (d.prog = .clearing ∨ d.prog = .breaking) ∧ d.saved = Option.none := by
  have o := Band.orderOk_iff.mp h
  have not : ¬ (d.prog = .clearing ∨ d.prog = .breaking) := fun wait => o.waiting wait none
  exact ⟨not, o.saved.trans (if_neg not)⟩

/-- R129: a saved context holds the cursor's value, so that restoring it moves no cursor. -/
theorem Band.orderOk.restoreContext {d : Band} {r : RunLists} (h : d.orderOk r) : d.restoreContext = { d with saved := none } := by
  have o := Band.orderOk_iff.mp h
  have same : d.saved.getD d.cursor = d.cursor := by
    rw [o.saved]
    split <;> rfl
  unfold Band.restoreContext
  rw [same]

theorem Band.orderOk.withCursor {d : Band} {r : RunLists} {k : Nat} (h : d.orderOk r) (none : d.breaks = [])
    (within : k < r.onAir.length ∨ k = 0) : ({ d with cursor := k } : Band).orderOk r := by
  obtain ⟨not, saved⟩ := h.plain none
  have o := Band.orderOk_iff.mp h
  exact Band.orderOk_iff.mpr ⟨o.config, within, saved.trans (if_neg not).symm, o.idle, o.off, o.waiting, o.crawl⟩

theorem Band.orderOk.withDeferral {d : Band} {r : RunLists} (h : d.orderOk r) {v : Bool} (allowed : d.prog.drawing = true ∨ v = false) :
    ({ d with deferral := v } : Band).orderOk r := by
  have o := Band.orderOk_iff.mp h
  refine Band.orderOk_iff.mpr ⟨o.config, o.cursor, o.saved, fun idle => ⟨(o.idle idle).1, ?_⟩, o.off, o.waiting, o.crawl⟩
  rcases allowed with draws | clear
  · rw [show d.prog.drawing = false from idle] at draws
    cases draws
  · exact clear

/-- A band in a drawing state without a break entry and without a saved context. -/
theorem Band.orderOk.withoutBreaks {d : Band} {r : RunLists} {p : Prog} (h : d.orderOk r) (drawing : d.prog.drawing = true)
    (run : p = .running ∨ p = .draining) : ({ d with breaks := [], saved := none, prog := p } : Band).orderOk r := by
  have o := Band.orderOk_iff.mp h
  have on : d.config ≠ none := fun none => by
    rw [o.config.mp none] at drawing
    cases drawing
  refine Band.orderOk_iff.mpr ?_
  rcases run with rfl | rfl
  · exact ⟨⟨fun none => absurd none on, nofun⟩, o.cursor, by simp, nofun, nofun, by simp, fun some => absurd rfl some⟩
  · exact ⟨⟨fun none => absurd none on, nofun⟩, o.cursor, by simp, nofun, nofun, by simp, fun some => absurd rfl some⟩

/-! ### The four bands -/

theorem State.ordersOk.of_beside {b : Fin 4} {s t : State} (ok : s.ordersOk) (bands : s.Beside b t)
    (lists : ∀ k, k ≠ b → t.lists k = s.lists k) (own : (t.band b).orderOk (t.lists b)) : t.ordersOk := fun k => by
  by_cases e : k = b
  · exact e ▸ own
  · rw [bands.band k e, lists k e]
    exact ok k

theorem State.ordersOk.of_programme {s t : State} (ok : s.ordersOk) (h : t.programme = s.programme) : t.ordersOk := fun k => by
  rw [State.band_of_programme h, State.lists_of_programme h]
  exact ok k

theorem State.ordersOk.updBand {b : Fin 4} {s : State} {f : Band → Band} (ok : s.ordersOk)
    (h : (f (s.band b)).orderOk (s.lists b)) : (s.updBand b f).ordersOk :=
  ok.of_beside (beside_updBand s b f) (fun _ _ => rfl) (by rwa [State.updBand_band_self])

/-- The update of a band in nothing that `Band.orderOk` speaks of. -/
theorem State.ordersOk.updated {s : State} (ok : s.ordersOk) (b : Fin 4) (f : Band → Band)
    (h : (s.band b).orderOk (s.lists b) → (f (s.band b)).orderOk (s.lists b) := by exact id) : (s.updBand b f).ordersOk :=
  ok.updBand (h (ok b))

theorem State.ordersOk.removeFront {s : State} (ok : s.ordersOk) (b : Fin 4) (n : Nat) : (removeFront b n s).ordersOk :=
  (ok.updated b (fun d => { d with window := d.window.drop n })).of_programme (reportRemovals_programme ..)

theorem State.ordersOk.addInstance {s : State} (ok : s.ordersOk) (b : Fin 4) (x : Inst) : (addInstance b x s).ordersOk :=
  (ok.updated b (fun d => { d with window := d.window ++ [x] })).of_programme (reportCreation_programme ..)

/-- What a swap makes of its band. -/
theorem swapBanks_band_self (b : Fin 4) (s : State) :
    (swapBanks b s).band b = { s.band b with cursor := 0, saved := (s.band b).saved.map (fun _ => 0) } :=
  State.updBand_band_self ..

theorem swapBanks_lists_self (b : Fin 4) (s : State) :
    (swapBanks b s).lists b = { s.lists b with onAirB := !(s.lists b).onAirB, commit := none } :=
  State.updLists_lists_self ..

theorem swapBanks_lists_other {b k : Fin 4} (s : State) (other : k ≠ b) : (swapBanks b s).lists k = s.lists k := by
  show (s.updLists b _).lists k = _
  rw [State.updLists_lists, if_neg (fun e => other e.symm)]

/-- R95, R129: after a swap the cursor and a saved cursor are 0. -/
theorem Band.orderOk.swapped {d : Band} {r : RunLists} (h : d.orderOk r) :
    ({ d with cursor := 0, saved := d.saved.map (fun _ => 0) } : Band).orderOk
      { r with onAirB := !r.onAirB, commit := none } := by
  have o := Band.orderOk_iff.mp h
  refine Band.orderOk_iff.mpr ⟨o.config, .inr rfl, ?_, fun idle => ⟨rfl, (o.idle idle).2⟩, o.off, o.waiting, o.crawl⟩
  dsimp only
  rw [o.saved]
  split <;> rfl

theorem State.ordersOk.swapBanks {s : State} (ok : s.ordersOk) (b : Fin 4) : (swapBanks b s).ordersOk :=
  ok.of_beside (adds_swapBanks b s).others (fun _ other => swapBanks_lists_other s other) (by
    rw [swapBanks_band_self, swapBanks_lists_self]
    exact (ok b).swapped)

theorem State.ordersOk.swapIf {s : State} (ok : s.ordersOk) (p : CommitMode → Bool) (b : Fin 4) : (swapIf p b s).ordersOk := by
  unfold Machine.swapIf
  split
  · exact ok.swapBanks b
  · exact ok

/-- A swap changes of a band no more than its cursor and a saved cursor. -/
theorem swapIf_band_self (p : CommitMode → Bool) (b : Fin 4) (s : State) :
    ∃ k v, (swapIf p b s).band b = { s.band b with cursor := k, saved := v } := by
  unfold swapIf
  split
  · exact ⟨_, _, swapBanks_band_self b s⟩
  · exact ⟨_, _, rfl⟩

/-- So does the advance of the cursor. -/
theorem advanceCursor_band_self (b : Fin 4) (s : State) :
    ∃ k v, (advanceCursor b s).band b = { s.band b with cursor := k, saved := v } := by
  unfold advanceCursor
  split
  · obtain ⟨k, v, e⟩ := swapIf_band_self (fun m => decide (m = .loopEnd)) b
      ((s.updBand b (fun d => { d with cursor := 0 })).raise .loopEnd (.band b))
    have wrapped : ((s.updBand b (fun d => { d with cursor := 0 })).raise .loopEnd (.band b)).band b =
        { s.band b with cursor := 0 } := State.updBand_band_self ..
    exact ⟨k, v, e.trans (by rw [wrapped])⟩
  · exact ⟨_, _, State.updBand_band_self ..⟩

/-- R119: the cursor stays within the bank, or goes to 0. -/
theorem State.ordersOk.advanceCursor {b : Fin 4} {s : State} (ok : s.ordersOk) (none : (s.band b).breaks = []) :
    (advanceCursor b s).ordersOk := by
  unfold Machine.advanceCursor
  split
  · have wrapped := ok.updBand (f := fun d => { d with cursor := 0 }) ((ok b).withCursor none (.inr rfl))
    have raised := wrapped.of_programme (State.raise_programme _ .loopEnd (.band b))
    exact raised.swapIf _ b
  · next within =>
    exact ok.updBand (f := fun d => { d with cursor := d.cursor + 1 }) ((ok b).withCursor none (.inl (not_le.mp within)))

/-- R96: a band that is configured enters READY with no break, no saved context and no deferral, and a pending commit is
carried out. -/
theorem State.ordersOk.enterReady {b : Fin 4} {s u : State} (ok : s.ordersOk) (others : s.Beside b u)
    (lists : ∀ k, u.lists k = s.lists k) (config : (u.band b).config ≠ none)
    (cursor : (u.band b).cursor < (u.lists b).onAir.length ∨ (u.band b).cursor = 0) (saved : (u.band b).saved = none)
    (deferral : (u.band b).deferral = false) (breaks : (u.band b).breaks = []) : (enterReady b u).ordersOk := by
  have ready : ∀ r : RunLists, r.commit = none → ∀ k, (k < r.onAir.length ∨ k = 0) →
      ({ u.band b with page := Page.initial, prog := .ready, cursor := k } : Band).orderOk r := fun r none k within =>
    Band.orderOk_iff.mpr ⟨⟨fun no => absurd no config, nofun⟩, within, by simpa using saved, fun _ => ⟨none, deferral⟩, nofun,
      by simp, fun some => absurd breaks some⟩
  unfold Machine.enterReady
  have own : ((changeProg b .ready ((u.updBand b (fun d => { d with page := Page.initial })).setVis b
      Visibility.off)).band b) = { u.band b with page := Page.initial, prog := .ready } := by
    show ((State.setVis _ b _).updBand b _).band b = _
    rw [State.updBand_band_self, State.setVis_band, State.updBand_band_self]
  have apart : s.Beside b (changeProg b .ready ((u.updBand b (fun d => { d with page := Page.initial })).setVis b
      Visibility.off)) :=
    ((others.trans (beside_updBand ..)).trans (beside_setVis ..)).trans (beside_changeProg ..)
  have same : ∀ k, (changeProg b .ready ((u.updBand b (fun d => { d with page := Page.initial })).setVis b
      Visibility.off)).lists k = u.lists k := fun _ => rfl
  generalize changeProg b .ready ((u.updBand b (fun d => { d with page := Page.initial })).setVis b Visibility.off) = v
    at own apart same ⊢
  unfold Machine.swapIf
  split
  · refine ok.of_beside (apart.trans (adds_swapBanks ..).others) (fun k other => ?_) ?_
    · exact (swapBanks_lists_other v other).trans ((same k).trans (lists k))
    · rw [swapBanks_band_self, swapBanks_lists_self, own, same b]
      have unsaved : (u.band b).saved.map (fun _ => 0) = (u.band b).saved := by
        rw [saved]
        rfl
      dsimp only
      rw [unsaved]
      exact ready { u.lists b with onAirB := !(u.lists b).onAirB, commit := none } rfl 0 (.inr rfl)
  · next idle =>
    refine ok.of_beside apart (fun k _ => (same k).trans (lists k)) ?_
    rw [own, same b]
    have none : (u.lists b).commit = none := by
      rw [same b] at idle
      simpa using idle
    exact ready (u.lists b) none _ cursor

theorem State.ordersOk.drainEndStep {s : State} (ok : s.ordersOk) (b : Fin 4) : (drainEndStep b s).ordersOk := by
  unfold Machine.drainEndStep
  split
  · next ended =>
    have o := Band.orderOk_iff.mp (ok b)
    have none : (s.band b).breaks = [] := by
      by_contra some
      have := (o.crawl some).2
      rw [ended.1] at this
      simp at this
    refine ok.enterReady (beside_updBand ..) (fun _ => rfl) ?_ ?_ ?_ ?_ ?_ <;> rw [State.updBand_band_self]
    · exact fun no => by
        have := o.config.mp no
        rw [ended.1] at this
        cases this
    · exact o.cursor
    · exact ((ok b).plain none).2
    · exact none
  · exact ok

theorem State.ordersOk.clearingEndStep {s : State} (ok : s.ordersOk) (b : Fin 4) : (clearingEndStep b s).ordersOk := by
  unfold Machine.clearingEndStep
  split
  · next ended =>
    have o := Band.orderOk_iff.mp (ok b)
    refine State.ordersOk.of_programme (ok.updBand (b := b) (f := fun d => { d with prog := .breaking }) ?_) rfl
    refine Band.orderOk_iff.mpr ⟨⟨fun no => ?_, nofun⟩, o.cursor, ?_, nofun, nofun, fun _ => o.waiting (.inl ended.1),
      fun some => ⟨(o.crawl some).1, .inr (.inr rfl)⟩⟩
    · have := o.config.mp no
      rw [ended.1] at this
      cases this
    · have := o.saved
      rw [if_pos (.inl ended.1)] at this
      rw [if_pos (.inr rfl)]
      exact this
  · exact ok

/-! ### The admission step -/

theorem admitInst_band_self (b : Fin 4) (x : Inst) (s : State) :
    (admitInst b x s).band b = { s.band b with deferral := false, window := (s.band b).window ++ [x] } := by
  rw [admitInst, addInstance_band_self, State.updBand_band_self]

theorem State.ordersOk.admitInst {s : State} (ok : s.ordersOk) (b : Fin 4) (x : Inst) : (admitInst b x s).ordersOk :=
  (ok.updBand (f := fun d => { d with deferral := false }) ((ok b).withDeferral (.inr rfl))).addInstance b x

theorem State.ordersOk.deferAdmission {s : State} (ok : s.ordersOk) (b : Fin 4) (drawing : (s.band b).prog.drawing = true) :
    (deferAdmission b s).ordersOk := by
  unfold Machine.deferAdmission
  split
  · exact ok
  · have set := ok.updBand (f := fun d => { d with deferral := true }) ((ok b).withDeferral (.inl drawing))
    exact set.of_programme (State.raise_programme ..)

theorem endBreaks_band_self (b : Fin 4) (s : State) : (endBreaks b s).band b =
    if (s.band b).breaks = [] ∧ (s.band b).prog = .breaking then { (s.band b).restoreContext with prog := .running }
    else s.band b := by
  unfold endBreaks
  by_cases empty : (s.band b).breaks = []
  · by_cases breaking : (s.band b).prog = .breaking
    · rw [if_pos empty, if_pos breaking, if_pos ⟨empty, breaking⟩]
      show ((s.updBand b _).updBand b _).band b = _
      rw [State.updBand_band_self, State.updBand_band_self]
    · rw [if_pos empty, if_neg breaking, if_neg (fun both => breaking both.2)]
      rfl
  · rw [if_neg empty, if_neg (fun both => empty both.1)]

theorem endBreaks_lists (b k : Fin 4) (s : State) : (endBreaks b s).lists k = s.lists k := by
  unfold endBreaks
  split
  · split
    · rfl
    · rfl
  · rfl

/-- RUNNING or BREAKING: the program states of a band that admits. -/
def Band.admits (d : Band) : Prop := d.prog = .running ∨ d.prog = .breaking

theorem Band.admits.drawing {d : Band} (h : d.admits) : d.prog.drawing = true := by
  rcases h with e | e
  · rw [e]
    rfl
  · rw [e]
    rfl

/-- R134: what stays of the break queue is empty only where no context is saved any more. -/
theorem State.ordersOk.endBreaks {b : Fin 4} {t u : State} {l : List BreakEntry} (ok : t.ordersOk) (some : (t.band b).breaks ≠ [])
    (run : (t.band b).admits) (h : u.programme = (t.updBand b (fun d => { d with breaks := l })).programme) :
    (endBreaks b u).ordersOk ∧ ((endBreaks b u).band b).admits := by
  have own : u.band b = { t.band b with breaks := l } := (State.band_of_programme h b).trans (State.updBand_band_self ..)
  have o := Band.orderOk_iff.mp (ok b)
  have apart : t.Beside b (Machine.endBreaks b u) :=
    ((beside_updBand ..).trans (.of_bands (State.bands_of_programme h))).trans (adds_endBreaks b u).others
  have lists : ∀ k, (Machine.endBreaks b u).lists k = t.lists k := fun k =>
    (endBreaks_lists b k u).trans (State.lists_of_programme h k)
  suffices own : ((Machine.endBreaks b u).band b).orderOk (t.lists b) ∧ ((Machine.endBreaks b u).band b).admits by
    refine ⟨ok.of_beside apart (fun k _ => lists k) ?_, own.2⟩
    rw [lists b]
    exact own.1
  rw [endBreaks_band_self, own]
  by_cases empty : l = []
  · subst empty
    rcases run with running | breaking
    · rw [if_neg (fun both => by rw [running] at both; cases both.2)]
      have saved : (t.band b).saved = none := o.saved.trans (by rw [running]; rfl)
      have plain := (ok b).withoutBreaks (p := .running) (by rw [running]; rfl) (.inl rfl)
      rw [← running, ← saved] at plain
      exact ⟨plain, .inl running⟩
    · rw [if_pos ⟨rfl, breaking⟩]
      have restored : ({ t.band b with breaks := [] } : Band).restoreContext = { t.band b with breaks := [], saved := none } :=
        congrArg (fun d : Band => { d with breaks := [] }) (ok b).restoreContext
      rw [restored]
      exact ⟨(ok b).withoutBreaks (p := .running) (by rw [breaking]; rfl) (.inl rfl), .inl rfl⟩
  · rw [if_neg (fun both => empty both.1)]
    exact ⟨Band.orderOk_iff.mpr ⟨o.config, o.cursor, o.saved, o.idle, o.off, fun _ => empty, fun _ => o.crawl some⟩, run⟩

theorem State.ordersOk.considerBreak {b : Fin 4} {s : State} {e : BreakEntry} {rest : List BreakEntry} (c : BandConfig)
    (ok : s.ordersOk) (head : (s.band b).breaks = e :: rest) (run : (s.band b).admits) :
    (considerBreak c b e rest s).ordersOk ∧ ((considerBreak c b e rest s).band b).admits := by
  have some : (s.band b).breaks ≠ [] := by
    rw [head]
    exact List.cons_ne_nil _ _
  unfold Machine.considerBreak
  split
  · refine State.ordersOk.endBreaks (ok.admitInst b _) ?_ ?_ rfl
    · rw [admitInst_band_self]
      exact some
    · rw [admitInst_band_self]
      exact run
  · exact State.ordersOk.endBreaks ok some run (State.raise_programme ..)

theorem State.ordersOk.considerItem {b : Fin 4} {s : State} (c : BandConfig) (i : Item) (ok : s.ordersOk)
    (none : (s.band b).breaks = []) (run : (s.band b).admits) :
    (considerItem c b i s).ordersOk ∧ ((considerItem c b i s).band b).admits := by
  unfold Machine.considerItem
  generalize considered : (if s.admissible i.kind then
    Machine.admitInst b (itemInstance c i (s.placeX b) (s.slotOf c i.kind) 0) s else s.raise .itemSkipped (.band b)) = u
  have before : u.ordersOk ∧ (u.band b).breaks = [] ∧ (u.band b).admits := by
    rw [← considered]
    split
    · rw [admitInst_band_self]
      exact ⟨ok.admitInst b _, none, run⟩
    · exact ⟨ok.of_programme (State.raise_programme ..), none, run⟩
  obtain ⟨ok', none', run'⟩ := before
  refine ⟨ok'.advanceCursor none', ?_⟩
  obtain ⟨k, v, own⟩ := advanceCursor_band_self b u
  rw [own]
  exact run'

theorem State.ordersOk.admitLoop (c : BandConfig) (b : Fin 4) (fuel : Nat) : ∀ (skips : Nat) (s : State), s.ordersOk →
    (s.band b).admits → (admitLoop c b fuel skips s).ordersOk := by
  induction fuel with
  | zero => exact fun _ _ ok _ => ok
  | succ fuel ih =>
    intro skips s ok run
    unfold Machine.admitLoop
    split
    · exact ok
    · split
      · exact ok.deferAdmission b run.drawing
      · split
        · next head =>
          obtain ⟨ok', run'⟩ := ok.considerBreak c head run
          exact ih _ _ ok' run'
        · next none =>
          split
          · split
            · refine ih _ _ (ok.swapBanks b) ?_
              rw [swapBanks_band_self]
              exact run
            · exact ok.of_programme (State.raise_programme ..)
          · split
            · exact ok.of_programme (State.raise_programme ..)
            · split
              · exact ok
              · next i _ =>
                obtain ⟨ok', run'⟩ := ok.considerItem c i none run
                exact ih _ _ ok' run'

theorem State.ordersOk.admissionStep {s : State} (c : BandConfig) (b : Fin 4) (ok : s.ordersOk) :
    (admissionStep c b s).ordersOk := by
  have begun := ok.swapIf (fun m => decide (m = .immediate)) b
  unfold Machine.admissionStep
  dsimp only
  split
  · next run => exact begun.admitLoop c b _ _ _ run
  · exact begun

theorem State.ordersOk.crawlSteps {s : State} (c : BandConfig) (b : Fin 4) (ok : s.ordersOk) : (crawlSteps c b s).ordersOk := by
  have ramped : (rampStep c b s).ordersOk := ok.updated b (fun d => { d with speed := rampToward (d.effectiveTarget c) c.accel d.speed })
  have moved : (moveStep b (rampStep c b s)).ordersOk := (ramped.updated b Band.shifted).removeFront b _
  exact ((moved.admissionStep c b).drainEndStep b).clearingEndStep b

/-! ### A FLIP band -/

/-- The orders hold, and the band has no break entry: a FLIP band never has one. -/
def State.Unbroken (b : Fin 4) (s : State) : Prop := s.ordersOk ∧ (s.band b).breaks = []

theorem State.Unbroken.updated {b : Fin 4} {s : State} (h : s.Unbroken b) (f : Band → Band)
    (own : (s.band b).orderOk (s.lists b) → (f (s.band b)).orderOk (s.lists b) := by exact id)
    (none : (s.band b).breaks = [] → (f (s.band b)).breaks = [] := by exact id) : (s.updBand b f).Unbroken b :=
  ⟨h.1.updated b f own, by rw [State.updBand_band_self]; exact none h.2⟩

theorem State.Unbroken.of_programme {b : Fin 4} {s t : State} (h : s.Unbroken b) (same : t.programme = s.programme) :
    t.Unbroken b :=
  ⟨h.1.of_programme same, by rw [State.band_of_programme same]; exact h.2⟩

theorem State.Unbroken.removeFront {b : Fin 4} {s : State} (h : s.Unbroken b) (n : Nat) : (removeFront b n s).Unbroken b :=
  (h.updated (fun d => { d with window := d.window.drop n })).of_programme (reportRemovals_programme ..)

theorem State.Unbroken.addInstance {b : Fin 4} {s : State} (h : s.Unbroken b) (x : Inst) : (addInstance b x s).Unbroken b :=
  (h.updated (fun d => { d with window := d.window ++ [x] })).of_programme (reportCreation_programme ..)

theorem State.Unbroken.swapIf {b : Fin 4} {s : State} (h : s.Unbroken b) (p : CommitMode → Bool) : (swapIf p b s).Unbroken b := by
  obtain ⟨k, v, own⟩ := swapIf_band_self p b s
  refine ⟨h.1.swapIf p b, ?_⟩
  rw [own]
  exact h.2

theorem State.Unbroken.advanceCursor {b : Fin 4} {s : State} (h : s.Unbroken b) : (advanceCursor b s).Unbroken b := by
  obtain ⟨k, v, own⟩ := advanceCursor_band_self b s
  refine ⟨h.1.advanceCursor h.2, ?_⟩
  rw [own]
  exact h.2

theorem State.Unbroken.buildLoop {b : Fin 4} (c : BandConfig) (voffset : Int) (fuel : Nat) :
    ∀ (taken used lastGap skips : Nat) (s : State), s.Unbroken b →
      (buildLoop c b voffset fuel taken used lastGap skips s).2.Unbroken b := by
  induction fuel with
  | zero => exact fun _ _ _ _ _ h => h
  | succ fuel ih =>
    intro taken used lastGap skips s h
    unfold Machine.buildLoop
    split
    · exact h
    · split
      · exact h
      · split
        · split
          · exact h
          · dsimp only
            split
            · exact (h.addInstance _).advanceCursor
            · exact ih _ _ _ _ _ (h.addInstance _).advanceCursor
        · have skipped := (h.of_programme (State.raise_programme s .itemSkipped (.band b))).advanceCursor
          dsimp only
          split
          · exact skipped
          · exact ih _ _ _ _ _ skipped

theorem State.Unbroken.pageBuild {b : Fin 4} {s : State} (h : s.Unbroken b) (c : BandConfig) (voffset : Int) :
    (pageBuild c b voffset s).2.Unbroken b := by
  unfold Machine.pageBuild
  extract_lets s1 s2 r
  have first : s1.Unbroken b := h.swapIf _
  have second : s2.Unbroken b := by
    show State.Unbroken b (if _ then _ else _)
    split
    · exact first.swapIf _
    · exact first
  have built : r.2.Unbroken b := second.buildLoop c voffset _ _ _ _ _ _
  split
  · exact built.of_programme (State.raise_programme ..)
  · exact built

theorem State.Unbroken.updPage {b : Fin 4} {s : State} (h : s.Unbroken b) (f : Page → Page) : (updPage b f s).Unbroken b :=
  h.updated (fun d => { d with page := f d.page })

theorem State.Unbroken.setRoll {b : Fin 4} {s : State} (h : s.Unbroken b) (c : BandConfig) (k : Nat) : (setRoll c b k s).Unbroken b :=
  h.updated (fun d => { d with page := { d.page with roll := k }, window := rolledWindow c k d.page.outgoing d.window })

theorem State.Unbroken.settlePage {b : Fin 4} {s : State} (h : s.Unbroken b) (c : BandConfig) (n : Nat) :
    (settlePage c b n s).Unbroken b := h.updPage _

theorem State.Unbroken.enterLeaving {b : Fin 4} {s : State} (h : s.Unbroken b) (c : BandConfig) : (enterLeaving c b s).Unbroken b :=
  (h.updPage _).setRoll c 1

theorem State.Unbroken.expirePage {b : Fin 4} {s : State} (h : s.Unbroken b) (c : BandConfig) : (expirePage c b s).Unbroken b := by
  unfold Machine.expirePage
  dsimp only
  split
  · split
    · exact (h.removeFront _).updPage _
    · exact h.enterLeaving c
  · split
    · exact ((h.pageBuild c 0).removeFront _).settlePage c _
    · have built := h.pageBuild c ((c.height : Int) - (rollLines c 1 : Int))
      split
      · exact built.enterLeaving c
      · exact (built.updPage _).setRoll c 1

theorem State.Unbroken.endRoll {b : Fin 4} {s : State} (h : s.Unbroken b) (c : BandConfig) : (endRoll c b s).Unbroken b := by
  have flat := (h.removeFront (s.band b).page.outgoing).updated
    (fun d => { d with window := d.window.map (fun i => { i with voffset := 0 }) })
  exact (flat.updPage _).of_programme (State.bumpFree_programme _)

theorem State.Unbroken.endLeaving {b : Fin 4} {s : State} (h : s.Unbroken b) (c : BandConfig) : (endLeaving c b s).Unbroken b := by
  unfold Machine.endLeaving
  extract_lets k m s' r
  have left : s'.Unbroken b := ((h.removeFront _).updPage _).of_programme (State.bumpFree_programme _)
  split
  · exact (left.pageBuild c 0).settlePage c _
  · exact left

theorem State.Unbroken.pageStep {b : Fin 4} {s : State} (h : s.Unbroken b) (c : BandConfig) : (pageStep c b s).Unbroken b := by
  unfold Machine.pageStep
  split
  · dsimp only
    split
    · exact (h.pageBuild c 0).settlePage c _
    · exact h
  · unfold holdStep
    split
    · exact h
    · split
      · exact h.expirePage c
      · exact h.updPage _
  · unfold rollStep
    split
    · exact h
    · split
      · exact h.setRoll c _
      · exact h.endRoll c
  · unfold leavingStep
    split
    · exact h
    · split
      · exact h.setRoll c _
      · exact h.endLeaving c

/-- R126, R138: a FLIP band has no break entry. -/
theorem State.ordersOk.unbroken {b : Fin 4} {s : State} {c : BandConfig} (ok : s.ordersOk) (config : (s.band b).config = some c)
    (flip : c.presentation = .flip) : s.Unbroken b := by
  refine ⟨ok, ?_⟩
  by_contra some
  have crawls := ((Band.orderOk_iff.mp (ok b)).crawl some).1
  rw [Band.presentation, config, Option.map_some, flip] at crawls
  cases crawls

/-! ### Requests -/

/-- R102, R103: a record without a bad row gives a configuration. -/
theorem storedConfig_ne_none {c : ConfigRecord} {s : State} (h : firstBadRow s.lines (s.faceLoaded c.face) c = none) :
    storedConfig c ≠ none := by
  have good : ∀ t ∈ configTests s.lines (s.faceLoaded c.face) c, t.2 = true := by
    simpa [firstBadRow] using h
  simp only [configTests, List.forall_mem_cons] at good
  obtain ⟨presentation, _, _, loaded, _, style, smooth, _, transition, _⟩ := good
  obtain ⟨f, face, _⟩ := (Option.any_eq_true ..).mp loaded
  obtain ⟨_, ep⟩ := Option.isSome_iff_exists.mp presentation
  obtain ⟨_, est⟩ := Option.isSome_iff_exists.mp style
  obtain ⟨_, esm⟩ := Option.isSome_iff_exists.mp smooth
  obtain ⟨_, etr⟩ := Option.isSome_iff_exists.mp transition
  unfold storedConfig
  rw [ep, face, est, esm, etr]
  exact Option.some_ne_none _

theorem Band.Orderly.configured {d : Band} {r : RunLists} (o : d.Orderly r) (on : d.prog ≠ .off) : d.config ≠ none :=
  fun none => on (o.config.mp none)

/-- R126: no break entry stands in a band that is OFF, READY or DRAINING. -/
theorem Band.Orderly.breaks_nil {d : Band} {r : RunLists} (o : d.Orderly r)
    (h : ¬ (d.prog = .running ∨ d.prog = .clearing ∨ d.prog = .breaking)) : d.breaks = [] := by
  by_contra some
  exact h (o.crawl some).2

theorem State.ordersOk.changedProg {b : Fin 4} {s : State} {p : Prog} {f : Band → Band} (ok : s.ordersOk)
    (own : ({ f (s.band b) with prog := p } : Band).orderOk (s.lists b)) : (changeProg b p (s.updBand b f)).ordersOk := by
  have both := ok.updBand (f := fun d => { f d with prog := p }) own
  have merged := State.updBand_updBand s b f (fun d => { d with prog := p })
  exact (merged ▸ both : State.ordersOk _).of_programme (State.raise_programme ..)

theorem State.ordersOk.takeConfigure {s : State} (ok : s.ordersOk) (b : Fin 4) (c : ConfigRecord) :
    (takeConfigure b c s).2.ordersOk := by
  have o := Band.orderOk_iff.mp (ok b)
  unfold Machine.takeConfigure
  split
  · exact ok
  · next free =>
    split
    · exact ok
    · next good =>
      split
      · exact ok
      · have config := storedConfig_ne_none good
        have idle : (s.band b).prog = .off ∨ (s.band b).prog = .ready := by
          by_contra neither
          exact free (not_or.mp neither)
        have drawing : (s.band b).prog.drawing = false := by
          rcases idle with e | e <;> rw [e] <;> rfl
        have none : (s.band b).breaks = [] := o.breaks_nil (by rcases idle with e | e <;> rw [e] <;> simp)
        obtain ⟨_, saved⟩ := (ok b).plain none
        show State.ordersOk (if _ then _ else _)
        split
        · refine ok.enterReady (beside_updBand ..) (fun _ => rfl) ?_ ?_ ?_ ?_ ?_ <;> rw [State.updBand_band_self]
          · exact config
          · exact o.cursor
          · exact saved
          · exact (o.idle drawing).2
          · exact none
        · next on =>
          refine ok.updBand (Band.orderOk_iff.mpr ⟨⟨fun no => absurd no config, fun off => absurd off on⟩, o.cursor, o.saved,
            o.idle, o.off, o.waiting, fun some => absurd none some⟩)

theorem State.ordersOk.takeRelease {s : State} (ok : s.ordersOk) (b : Fin 4) : (takeRelease b s).2.ordersOk := by
  have o := Band.orderOk_iff.mp (ok b)
  unfold Machine.takeRelease
  split
  · next ready =>
    have none : (s.band b).breaks = [] := o.breaks_nil (by rw [ready]; simp)
    obtain ⟨_, saved⟩ := (ok b).plain none
    exact ok.changedProg (Band.orderOk_iff.mpr ⟨⟨fun _ => rfl, fun _ => rfl⟩, .inr rfl, saved,
      fun _ => o.idle (by rw [ready]; rfl), fun _ => rfl, nofun, fun some => absurd none some⟩)
  · exact ok

theorem State.ordersOk.takeTakeOn {s : State} (ok : s.ordersOk) (sampled : Bool) (b : Fin 4) (fromTop : Bool) :
    (takeTakeOn sampled b fromTop s).2.ordersOk := by
  have o := Band.orderOk_iff.mp (ok b)
  have started : ∀ v : Nat, ¬ ((s.band b).prog = .running ∨ (s.band b).prog = .clearing ∨ (s.band b).prog = .breaking) →
      (s.band b).config ≠ none →
      ({ s.band b with cursor := if fromTop then 0 else (s.band b).cursor, speed := v, prog := .running } : Band).orderOk
        (s.lists b) := fun v apart config => by
    have none := o.breaks_nil apart
    refine Band.orderOk_iff.mpr ⟨⟨fun no => absurd no config, nofun⟩, ?_, ((ok b).plain none).2, nofun, nofun, by simp,
      fun some => absurd none some⟩
    dsimp only
    split
    · exact .inr rfl
    · exact o.cursor
  unfold Machine.takeTakeOn
  extract_lets top
  split
  case h_1 ready =>
    split
    · exact ok
    · next c config =>
      have own := started (takeOnSpeed (s.band b) c) (by rw [ready]; simp) (by rw [config]; exact Option.some_ne_none _)
      exact (ok.changedProg (f := fun d => { top d with speed := takeOnSpeed d c }) own).of_programme rfl
  case h_2 draining =>
    exact ok.changedProg (f := top)
      (started (s.band b).speed (by rw [draining]; simp) (o.configured (by rw [draining]; nofun)))
  all_goals exact ok

/-- R129, R135, R136: a drawing band whose context is restored and whose break queue is emptied. -/
theorem State.ordersOk.endedBreaks {s : State} (ok : s.ordersOk) (b : Fin 4) {p : Prog} (drawing : (s.band b).prog.drawing = true)
    (run : p = .running ∨ p = .draining) :
    (changeProg b p (s.updBand b (fun d => { d.restoreContext with breaks := [] }))).ordersOk := by
  refine ok.changedProg ?_
  rw [(ok b).restoreContext]
  exact (ok b).withoutBreaks drawing run

/-- A band in which no context is saved. -/
theorem Band.orderOk.withoutContext {d : Band} {r : RunLists} (h : d.orderOk r) (running : d.prog = .running) : d.saved = none :=
  (Band.orderOk_iff.mp h).saved.trans (by rw [running]; rfl)

theorem State.ordersOk.takeTakeOffDrain {s : State} (ok : s.ordersOk) (b : Fin 4) : (takeTakeOffDrain b s).2.ordersOk := by
  unfold Machine.takeTakeOffDrain
  split
  case h_1 running =>
    have plain := (ok b).withoutBreaks (p := .draining) (by rw [running]; rfl) (.inr rfl)
    rw [← (ok b).withoutContext running] at plain
    exact ok.changedProg plain
  case h_2 clearing => exact ok.endedBreaks b (by rw [clearing]; rfl) (.inr rfl)
  case h_3 breaking => exact ok.endedBreaks b (by rw [breaking]; rfl) (.inr rfl)
  all_goals exact ok

theorem State.ordersOk.takeTakeOffCut {s : State} (ok : s.ordersOk) (b : Fin 4) : (takeTakeOffCut b s).2.ordersOk := by
  have o := Band.orderOk_iff.mp (ok b)
  unfold Machine.takeTakeOffCut
  split
  · next drawing =>
    have on : (s.band b).prog ≠ .off := fun off => by
      rw [off] at drawing
      cases drawing
    refine ok.enterReady ((beside_removeFront ..).trans (beside_updBand ..)) (fun k => removeFront_lists ..) ?_ ?_ ?_ ?_ ?_
    · rw [State.updBand_band_self, removeFront_band_self]
      exact o.configured on
    · rw [State.updBand_band_self, removeFront_band_self]
      exact (removeFront_lists b b _ s).symm ▸ o.cursor
    all_goals rw [State.updBand_band_self]
  · exact ok

theorem State.ordersOk.takeHalted {s : State} (ok : s.ordersOk) (b : Fin 4) (halted : Bool) :
    (takeHalted b halted s).2.ordersOk := by
  unfold Machine.takeHalted
  split
  · exact ok
  · next on =>
    have o := Band.orderOk_iff.mp (ok b)
    exact ok.updBand (Band.orderOk_iff.mpr ⟨o.config, o.cursor, o.saved, o.idle, fun off => absurd off on, o.waiting, o.crawl⟩)

theorem State.ordersOk.takeTarget {s : State} (ok : s.ordersOk) (b : Fin 4) (f : Nat → Nat) :
    (takeTarget b f s).2.ordersOk := by
  unfold Machine.takeTarget
  split
  · exact ok
  · have o := Band.orderOk_iff.mp (ok b)
    have same : (Option.map (fun c => { c with speedTarget := f c.speedTarget }) (s.band b).config).map
        BandConfig.presentation = (s.band b).config.map BandConfig.presentation := by
      rw [Option.map_map]
      rfl
    refine ok.updBand (Band.orderOk_iff.mpr ⟨Option.map_eq_none_iff.trans o.config, o.cursor, o.saved, o.idle, o.off, o.waiting,
      fun some => ⟨?_, (o.crawl some).2⟩⟩)
    exact same.trans (o.crawl some).1

theorem State.ordersOk.takeCommit {s : State} (ok : s.ordersOk) (b : Fin 4) (m : CommitMode) : (takeCommit b m s).ordersOk := by
  unfold Machine.takeCommit
  split
  · next drawing =>
    have o := Band.orderOk_iff.mp (ok b)
    refine ok.of_beside (.of_bands rfl) (fun k other => by rw [State.updLists_lists, if_neg (fun e => other e.symm)]) ?_
    rw [State.updLists_lists_self]
    exact Band.orderOk_iff.mpr ⟨o.config, o.cursor, o.saved, fun idle => absurd (drawing.symm.trans idle) nofun, o.off,
      o.waiting, o.crawl⟩
  · exact ok.swapBanks b

theorem placeBreak_ne_nil (e : BreakEntry) (l : List BreakEntry) : placeBreak e l ≠ [] := by
  unfold placeBreak
  split <;> simp

theorem State.ordersOk.takeBreak {s : State} (ok : s.ordersOk) (b : Fin 4) (e : BreakEntry) :
    (takeBreak b e s).2.ordersOk := by
  have o := Band.orderOk_iff.mp (ok b)
  unfold Machine.takeBreak
  split
  · exact ok
  · next allowed =>
    obtain ⟨notFlip, notOff, notReady, notDraining⟩ : ¬ (s.band b).presentation = some .flip ∧ ¬ (s.band b).prog = .off ∧
        ¬ (s.band b).prog = .ready ∧ ¬ (s.band b).prog = .draining := by
      simpa [not_or] using allowed
    have crawl : (s.band b).presentation = some .crawl := by
      obtain ⟨c, config⟩ := Option.ne_none_iff_exists'.mp (o.configured notOff)
      rw [Band.presentation, config, Option.map_some] at notFlip ⊢
      cases e : c.presentation with
      | crawl => rfl
      | flip => exact absurd (congrArg some e) notFlip
    have run : (s.band b).prog = .running ∨ (s.band b).prog = .clearing ∨ (s.band b).prog = .breaking := by
      cases e : (s.band b).prog with
      | off => exact absurd e notOff
      | ready => exact absurd e notReady
      | draining => exact absurd e notDraining
      | running => exact .inl rfl
      | clearing => exact .inr (.inl rfl)
      | breaking => exact .inr (.inr rfl)
    split
    · exact ok
    · split
      · exact ok
      · show State.ordersOk (if _ then _ else _)
        split
        · rw [State.updBand_updBand]
          exact ok.changedProg (Band.orderOk_iff.mpr ⟨⟨fun none => absurd none (o.configured notOff), nofun⟩, o.cursor, rfl,
            nofun, nofun, fun _ => placeBreak_ne_nil _ _, fun _ => ⟨crawl, .inr (.inl rfl)⟩⟩)
        · exact ok.updBand (Band.orderOk_iff.mpr ⟨o.config, o.cursor, o.saved, o.idle, o.off, fun _ => placeBreak_ne_nil _ _,
            fun _ => ⟨crawl, run⟩⟩)

theorem State.ordersOk.takeBreakClear {s : State} (ok : s.ordersOk) (b : Fin 4) : (takeBreakClear b s).2.ordersOk := by
  unfold Machine.takeBreakClear
  split
  · exact ok
  · split
    case h_1 clearing => exact ok.endedBreaks b (by rw [clearing]; rfl) (.inl rfl)
    case h_2 breaking => exact ok.endedBreaks b (by rw [breaking]; rfl) (.inl rfl)
    case h_3 running =>
      have plain := (ok b).withoutBreaks (p := .running) (by rw [running]; rfl) (.inl rfl)
      rw [← running, ← (ok b).withoutContext running] at plain
      exact ok.updBand plain
    all_goals exact ok

theorem State.ordersOk.judgeRequest {s : State} (ok : s.ordersOk) (sampled : Bool) (b : Fin 4) (r : BandRequest) :
    (judgeRequest sampled b r s).2.ordersOk := by
  cases r with
  | configure c => exact ok.takeConfigure b c
  | release => exact ok.takeRelease b
  | takeOn fromTop => exact ok.takeTakeOn sampled b fromTop
  | takeOffDrain => exact ok.takeTakeOffDrain b
  | takeOffCut => exact ok.takeTakeOffCut b
  | halt => exact ok.takeHalted b true
  | resume => exact ok.takeHalted b false
  | setSpeed v => exact ok.takeTarget b _
  | nudge up => exact ok.takeTarget b _
  | commit m => exact ok.takeCommit b m
  | brk story repeats urgency => exact ok.takeBreak b _
  | breakClear => exact ok.takeBreakClear b

/-! ### Every step of the bands -/

theorem State.Still.ordersOk {s t : State} (h : s.Still t) (ok : s.ordersOk) : t.ordersOk := fun b => by
  obtain ⟨q, own⟩ := h.band b
  have o := Band.orderOk_iff.mp (ok b)
  have commit := h.commit b
  have onAir := h.onAir b
  rw [own]
  refine Band.orderOk_iff.mpr ⟨o.config, ?_, o.saved, ?_, o.off, o.waiting, o.crawl⟩
  · rw [onAir]
    exact o.cursor
  · rw [commit]
    exact o.idle

theorem Band.reset_orderOk : Band.reset.orderOk RunLists.reset := by
  refine Band.orderOk_iff.mpr ⟨⟨fun _ => rfl, fun _ => rfl⟩, .inr rfl, rfl, fun _ => ⟨rfl, rfl⟩, fun _ => rfl, nofun, ?_⟩
  exact fun some => absurd rfl some

theorem BandStep.ordersOk {s t : State} (step : BandStep s t) (ok : s.ordersOk) : t.ordersOk := by
  cases step with
  | still h => exact h.ordersOk ok
  | reset bands rls =>
    intro b
    rw [State.band, State.lists, bands, rls, tget_replicate, tget_replicate]
    exact Band.reset_orderOk
  | request sampled b r => exact ok.judgeRequest sampled b r
  | swap b => exact ok.swapBanks b
  | crawl b config crawl drawing => exact ok.crawlSteps _ b
  | page b config flip drawing => exact ((ok.unbroken config flip).pageStep _).1
  | drainEnd b => exact ok.drainEndStep b
  | clearingEnd b => exact ok.clearingEndStep b

/-- Settles O56: each of the two invariants is kept by every single step of the bands (`BandStep`), and so by every step. -/
theorem everyStepKeepsWindows : Obligations.EveryStepKeepsWindows := by
  unfold Obligations.EveryStepKeepsWindows
  exact ⟨fun _ _ ok h => step_keeps_bands BandStep.windowsOk h ok, fun _ _ ok h => step_keeps_bands BandStep.ordersOk h ok⟩

end Sys2Proof.Machine

/-! SUPPORT for O43, O44 and O46. What a removal of instances makes of the records, and what a request makes of its band. -/

namespace Sys2Proof.Machine

/-! ### Removals, reported one after another -/

/-- R72: the store counts one instance of the story less; a DELETING story whose count is then 0 becomes FREE. -/
def Story.dropInstance (st : Story) : Story :=
  if st.state = .deleting ∧ st.count - 1 = 0 then Story.free st.gen else { st with count := st.count - 1 }

/-- Between `s` and `t` no more changes than reports of instances do. -/
def State.Reported (s t : State) : Prop :=
  t = { s with quotes := t.quotes, ts := { s.ts with stories := t.ts.stories, freeBlocks := t.ts.freeBlocks } }

theorem State.Reported.refl (s : State) : s.Reported s := rfl

theorem State.Reported.trans {s t u : State} (h : s.Reported t) (k : t.Reported u) : s.Reported u := by
  unfold State.Reported at *
  rw [k, h]

theorem reported_updQuoteAt (s : State) (i : Nat) (f : Quote → Quote) : s.Reported (s.updQuoteAt i f) := by
  unfold State.updQuoteAt
  split <;> rfl

theorem reported_freeStoryIfGone (i : Fin 256) (s : State) : s.Reported (freeStoryIfGone i s) := by
  unfold freeStoryIfGone
  dsimp only
  split <;> rfl

theorem reported_dropStory (i : Nat) (s : State) : s.Reported (dropStory i s) := by
  unfold dropStory
  split
  · exact State.Reported.trans (t := s.updStory _ _) rfl (reported_freeStoryIfGone ..)
  · exact .refl s

theorem reported_reportRemoval (x : Inst) (s : State) : s.Reported (reportRemoval x s) := by
  unfold reportRemoval
  split
  · exact reported_updQuoteAt ..
  · exact reported_dropStory ..
  · exact .refl s
  · exact .refl s

theorem reported_reportRemovals (l : List Inst) : ∀ s : State, s.Reported (reportRemovals l s) := by
  induction l with
  | nil => exact .refl
  | cons x l ih => exact fun s => (reported_reportRemoval x s).trans (ih _)

theorem updQuoteAt_quote (s : State) (n : Nat) (i : Fin 1024) (f : Quote → Quote) :
    (s.updQuoteAt n f).quote i = if n = i.val then f (s.quote i) else s.quote i := by
  unfold State.updQuoteAt
  split
  · rw [State.updQuote_quote]
    simp only [Fin.ext_iff]
    split
    · next e => rw [show (⟨n, _⟩ : Fin 1024) = i from Fin.ext e]
    · rfl
  · next outside => rw [if_neg (fun e : n = i.val => outside (e ▸ i.isLt))]

theorem dropStory_story (n : Nat) (i : Fin 256) (s : State) :
    (dropStory n s).story i = if n = i.val then (s.story i).dropInstance else s.story i := by
  unfold dropStory
  split
  · next inRange =>
    by_cases e : (⟨n, inRange⟩ : Fin 256) = i
    · subst e
      have dropped : (s.updStory ⟨n, inRange⟩ (fun st => { st with count := st.count - 1 })).story ⟨n, inRange⟩ =
          { s.story ⟨n, inRange⟩ with count := (s.story ⟨n, inRange⟩).count - 1 } := by
        rw [State.updStory_story, if_pos rfl]
      rw [if_pos rfl]
      unfold freeStoryIfGone Story.dropInstance
      rw [dropped]
      dsimp only
      split
      · show ((s.updStory _ _).updStory _ _).story _ = _
        rw [State.updStory_story, if_pos rfl, dropped]
      · exact dropped
    · have other : n ≠ i.val := fun same => e (Fin.ext same)
      rw [if_neg other]
      have kept : (s.updStory ⟨n, inRange⟩ (fun st => { st with count := st.count - 1 })).story i = s.story i := by
        rw [State.updStory_story, if_neg e]
      unfold freeStoryIfGone
      dsimp only
      split
      · show ((s.updStory _ _).updStory _ _).story _ = _
        rw [State.updStory_story, if_neg e, kept]
      · exact kept
  · next outside => rw [if_neg (fun e : n = i.val => outside (e ▸ i.isLt))]

theorem reportRemoval_quote (x : Inst) (i : Fin 1024) (s : State) :
    (reportRemoval x s).quote i = if x.kind.isQuote i.val then (s.quote i).dropInstance else s.quote i := by
  unfold reportRemoval
  cases x.kind with
  | quote r => simp [updQuoteAt_quote, InstKind.isQuote]
  | story r =>
    rw [show (dropStory r.index s).quote i = s.quote i from ?_]
    · rfl
    · unfold dropStory
      split
      · rw [State.quote, freeStoryIfGone_quotes]
        rfl
      · rfl
  | glyph c => rfl
  | spacer => rfl

theorem reportRemoval_story (x : Inst) (i : Fin 256) (s : State) :
    (reportRemoval x s).story i = if x.kind.isStory i.val then (s.story i).dropInstance else s.story i := by
  unfold reportRemoval
  cases x.kind with
  | quote r =>
    show (s.updQuoteAt r.index Quote.dropInstance).story i = s.story i
    unfold State.updQuoteAt
    split <;> rfl
  | story r => simp [dropStory_story, InstKind.isStory]
  | glyph c => rfl
  | spacer => rfl

/-- R10: each instance reported as removed is counted down from its quote. -/
theorem reportRemovals_quote (l : List Inst) (i : Fin 1024) : ∀ s : State,
    (reportRemovals l s).quote i = Quote.dropInstance^[quoteInstances i.val l] (s.quote i) := by
  induction l with
  | nil => exact fun _ => rfl
  | cons x l ih =>
    intro s
    rw [reportRemovals, ih, reportRemoval_quote, quoteInstances_cons]
    split
    · rw [Nat.add_comm, Function.iterate_succ_apply]
    · rw [Nat.zero_add]

/-- R72: each instance reported as removed is counted down from its story. -/
theorem reportRemovals_story (l : List Inst) (i : Fin 256) : ∀ s : State,
    (reportRemovals l s).story i = Story.dropInstance^[storyInstances i.val l] (s.story i) := by
  induction l with
  | nil => exact fun _ => rfl
  | cons x l ih =>
    intro s
    rw [reportRemovals, ih, reportRemoval_story, storyInstances_cons]
    split
    · rw [Nat.add_comm, Function.iterate_succ_apply]
    · rw [Nat.zero_add]

/-- R8: a record that is not RETIRING, or has instances left, only counts. -/
theorem Quote.dropInstances {q : Quote} {n : Nat} (h : q.state ≠ .retiring ∨ n < q.count) :
    Quote.dropInstance^[n] q = { q with count := q.count - n } := by
  induction n with
  | zero => rfl
  | succ n ih =>
    rw [Function.iterate_succ_apply', ih (h.imp_right (fun lt => by omega))]
    refine if_neg (fun gone => ?_)
    obtain ⟨retiring, zero⟩ := gone
    rcases h with no | lt
    · exact no retiring
    · dsimp only at zero
      omega

/-- R8: a RETIRING record whose instances all go becomes FREE. -/
theorem Quote.dropAllInstances {q : Quote} (retiring : q.state = .retiring) (shown : 0 < q.count) :
    Quote.dropInstance^[q.count] q = Quote.free q.gen := by
  obtain ⟨n, e⟩ : ∃ n, q.count = n + 1 := ⟨q.count - 1, by omega⟩
  rw [e, Function.iterate_succ_apply', Quote.dropInstances (.inr (by omega))]
  exact if_pos ⟨retiring, by dsimp only; omega⟩

theorem Story.dropInstances {st : Story} {n : Nat} (h : st.state ≠ .deleting ∨ n < st.count) :
    Story.dropInstance^[n] st = { st with count := st.count - n } := by
  induction n with
  | zero => rfl
  | succ n ih =>
    rw [Function.iterate_succ_apply', ih (h.imp_right (fun lt => by omega))]
    refine if_neg (fun gone => ?_)
    obtain ⟨deleting, zero⟩ := gone
    rcases h with no | lt
    · exact no deleting
    · dsimp only at zero
      omega

/-- R72: a DELETING story whose instances all go becomes FREE. -/
theorem Story.dropAllInstances {st : Story} (deleting : st.state = .deleting) (shown : 0 < st.count) :
    Story.dropInstance^[st.count] st = Story.free st.gen := by
  obtain ⟨n, e⟩ : ∃ n, st.count = n + 1 := ⟨st.count - 1, by omega⟩
  rw [e, Function.iterate_succ_apply', Story.dropInstances (.inr (by omega))]
  exact if_pos ⟨deleting, by dsimp only; omega⟩

/-! ### Blocks that return to the free set -/

theorem freeStoryIfGone_freeBlocks {k : Nat} (i : Fin 256) {s : State} (h : k ∈ s.ts.freeBlocks) :
    k ∈ (freeStoryIfGone i s).ts.freeBlocks := by
  unfold freeStoryIfGone
  dsimp only
  split
  · exact mem_insertBlocks.mpr (.inr h)
  · exact h

theorem reportRemoval_freeBlocks {k : Nat} (x : Inst) {s : State} (h : k ∈ s.ts.freeBlocks) :
    k ∈ (reportRemoval x s).ts.freeBlocks := by
  unfold reportRemoval
  split
  · unfold State.updQuoteAt
    split <;> exact h
  · unfold dropStory
    split
    · exact freeStoryIfGone_freeBlocks _ h
    · exact h
  · exact h
  · exact h

theorem reportRemovals_freeBlocks {k : Nat} (l : List Inst) : ∀ {s : State}, k ∈ s.ts.freeBlocks →
    k ∈ (reportRemovals l s).ts.freeBlocks := by
  induction l with
  | nil => exact id
  | cons x l ih => exact fun h => ih (reportRemoval_freeBlocks x h)

/-- R67, R72: the last instance of a DELETING story frees its blocks. -/
theorem reportRemoval_frees {x : Inst} {i : Fin 256} {s : State} (shows : x.kind.isStory i.val = true)
    (deleting : (s.story i).state = .deleting) (last : (s.story i).count = 1) :
    ∀ k ∈ (s.story i).blocks, k ∈ (reportRemoval x s).ts.freeBlocks := by
  intro k hk
  unfold reportRemoval
  cases kind : x.kind with
  | quote r => rw [kind] at shows; cases shows
  | glyph c => rw [kind] at shows; cases shows
  | spacer => rw [kind] at shows; cases shows
  | story r =>
    rw [kind] at shows
    have index : r.index = i.val := by simpa [InstKind.isStory] using shows
    dsimp only
    rw [index]
    unfold dropStory
    rw [dif_pos i.isLt]
    have dropped : (s.updStory i (fun st => { st with count := st.count - 1 })).story i =
        { s.story i with count := (s.story i).count - 1 } := by rw [State.updStory_story, if_pos rfl]
    unfold freeStoryIfGone
    dsimp only [Fin.eta]
    rw [dropped, if_pos ⟨deleting, by dsimp only; omega⟩]
    exact mem_insertBlocks.mpr (.inl hk)

theorem reportRemovals_frees {i : Fin 256} : ∀ (l : List Inst) (s : State), (s.story i).state = .deleting →
    0 < storyInstances i.val l → (s.story i).count = storyInstances i.val l →
    ∀ k ∈ (s.story i).blocks, k ∈ (reportRemovals l s).ts.freeBlocks := by
  intro l
  induction l with
  | nil => exact fun _ _ none => absurd none (Nat.lt_irrefl 0)
  | cons x l ih =>
    intro s deleting some all k hk
    rw [storyInstances_cons] at some all
    by_cases shows : x.kind.isStory i.val = true
    · rw [if_pos shows] at all
      by_cases last : storyInstances i.val l = 0
      · exact reportRemovals_freeBlocks l (reportRemoval_frees shows deleting (by omega) k hk)
      · have step : (reportRemoval x s).story i = { s.story i with count := (s.story i).count - 1 } := by
          rw [reportRemoval_story, if_pos shows]
          exact if_neg (fun gone => by omega)
        refine ih (reportRemoval x s) ?_ (Nat.pos_of_ne_zero last) ?_ k ?_
        · rw [step]
          exact deleting
        · rw [step]
          dsimp only
          omega
        · rw [step]
          exact hk
    · rw [if_neg shows, Nat.zero_add] at some all
      have step : (reportRemoval x s).story i = s.story i := by rw [reportRemoval_story, if_neg shows]
      exact ih (reportRemoval x s) (by rwa [step]) some (by rwa [step]) k (by rwa [step])

/-! ### What a request makes of its band -/

theorem State.updBand_congr {s : State} {b : Fin 4} {f g : Band → Band} (h : f (s.band b) = g (s.band b)) :
    s.updBand b f = s.updBand b g := by
  unfold State.updBand
  congr 1
  refine table_ext fun k => ?_
  by_cases e : b = k
  · subst e
    rw [tget_tupd_self, tget_tupd_self]
    exact h
  · rw [tget_tupd_ne _ e, tget_tupd_ne _ e]

theorem State.updLists_updLists (s : State) (b : Fin 4) (f g : RunLists → RunLists) :
    (s.updLists b f).updLists b g = s.updLists b (fun r => g (f r)) := by
  unfold State.updLists
  congr 1
  refine table_ext fun k => ?_
  by_cases e : b = k
  · subst e
    simp
  · rw [tget_tupd_ne _ e, tget_tupd_ne _ e, tget_tupd_ne _ e]

theorem State.setVis_updBand (s : State) (b c : Fin 4) (v : Visibility) (f : Band → Band) :
    (s.setVis b v).updBand c f = (s.updBand c f).setVis b v := rfl

/-- R107: a change of the band that comes with a change of its program state. -/
theorem changeProg_updBand (b : Fin 4) (p : Prog) (f : Band → Band) (s : State) :
    changeProg b p (s.updBand b f) = (s.updBand b (fun d => { f d with prog := p })).raise .bandState (.band b) := by
  rw [changeProg, State.updBand_updBand]

/-- R96: the band as it stands READY, before a pending commit is carried out. -/
def State.readied (b : Fin 4) (f : Band → Band) (s : State) : State :=
  ((s.updBand b (fun d => { f d with page := Page.initial, prog := .ready })).setVis b Visibility.off).raise .bandState (.band b)

theorem enterReady_updBand (b : Fin 4) (f : Band → Band) (s : State) : enterReady b (s.updBand b f) =
    if (s.lists b).commit ≠ none then (s.readied b f).swapped b else s.readied b f := by
  have ready : changeProg b .ready (((s.updBand b f).updBand b (fun d => { d with page := Page.initial })).setVis b
      Visibility.off) = s.readied b f := by
    rw [changeProg, State.updBand_updBand, State.setVis_updBand, State.updBand_updBand]
    rfl
  rw [enterReady, ready, swapIf_any]
  rfl

/-- R107: outside a frame start a request is judged in the band's present state. -/
theorem takeAlone_of_running {s : State} (o : Origin) (b : Fin 4) (r : BandRequest) (h : s.run = .running) :
    takeAlone o b r s = deliver o b (judgeRequest false b r s).1.1 (judgeRequest false b r s).1.2 (judgeRequest false b r s).2 :=
  if_pos h

theorem exec_bankSwap {s : State} (b : Fin 4) (h : s.run = .running) : exec (.bankSwap b) s = .next (s.swapped b) :=
  congrArg Host.Outcome.next (if_pos h)

/-! ### A swap -/

theorem swapped_onAir (b : Fin 4) (s : State) : ((s.swapped b).lists b).onAir = (s.lists b).shadow := by
  rw [← swapBanks_eq, swapBanks_lists_self]
  unfold RunLists.onAir RunLists.shadow
  cases (s.lists b).onAirB <;> rfl

theorem swapped_shadow (b : Fin 4) (s : State) : ((s.swapped b).lists b).shadow = (s.lists b).onAir := by
  rw [← swapBanks_eq, swapBanks_lists_self]
  unfold RunLists.onAir RunLists.shadow
  cases (s.lists b).onAirB <;> rfl

/-- A swap takes no notice of the record that it removes. -/
theorem swapped_withoutCommit (b : Fin 4) (s : State) :
    (s.updLists b (fun r => { r with commit := none })).swapped b = s.swapped b := by
  unfold State.swapped
  rw [State.updLists_updLists]

/-! ### The three statements -/

/-- Settles O46: the end of a drain by the pending commit, and the end of a clearing. -/
theorem drainAndClearingEnd : Obligations.DrainAndClearingEnd := by
  unfold Obligations.DrainAndClearingEnd
  intro s b ended cleared ready
  have drained : ended → drainEndStep b s = if (s.lists b).commit ≠ none then ready.swapped b else ready := fun h => by
    rw [drainEndStep, if_pos h, enterReady_updBand]
    rfl
  refine ⟨fun h none => ?_, fun h some running => ?_, fun h => ?_, fun h => ?_, fun h => ?_⟩
  · exact congrArg Host.Outcome.next ((drained h).trans (if_neg (not_not.mpr none)))
  · rw [exec_bankSwap b (show ready.run = .running from running)]
    exact congrArg Host.Outcome.next ((drained h).trans (if_pos some))
  · exact congrArg Host.Outcome.next (if_neg h)
  · exact congrArg Host.Outcome.next (if_pos h)
  · exact congrArg Host.Outcome.next (if_neg h)

/-- Settles O44: the requests on the motion, COMMIT, and the effects of a swap. -/
theorem motionAndCommit : Obligations.MotionAndCommit := by
  unfold Obligations.MotionAndCommit
  refine ⟨fun s o ticket b running => ?_, fun s b running => ?_⟩
  · have taken : ∀ (o : Origin) (r : BandRequest), takeAlone o b r s = deliver o b (judgeRequest false b r s).1.1
        (judgeRequest false b r s).1.2 (judgeRequest false b r s).2 := fun o r => takeAlone_of_running o b r running
    refine ⟨fun on => ?_, fun off => ?_, fun m => ⟨fun drawing => ?_, fun idle => ?_⟩⟩
    · have halted : ∀ v, takeHalted b v s = resultOnly .good (s.updBand b (fun d => { d with halted := v })) :=
        fun v => if_neg on
      have target : ∀ f, takeTarget b f s = resultOnly .good (s.updBand b (fun d =>
          { d with config := d.config.map (fun c => { c with speedTarget := f c.speedTarget }) })) := fun f => if_neg on
      refine ⟨?_, ?_, fun v => ?_, ?_, ?_⟩ <;> refine congrArg Host.Outcome.next ((taken _ _).trans ?_) <;>
        simp only [judgeRequest, halted, target] <;> rfl
    · have halted : ∀ v, takeHalted b v s = resultOnly .wrongMode s := fun v => if_pos off
      have target : ∀ f, takeTarget b f s = resultOnly .wrongMode s := fun f => if_pos off
      refine ⟨?_, ?_, fun v => ?_, fun up => ?_⟩ <;> refine congrArg Host.Outcome.next ((taken _ _).trans ?_) <;>
        simp only [judgeRequest, halted, target] <;> rfl
    · refine congrArg Host.Outcome.next ((taken _ _).trans ?_)
      simp only [judgeRequest, takeCommitRequest, takeCommit, if_pos drawing]
      rfl
    · refine ⟨_, exec_bankSwap b running, congrArg Host.Outcome.next ((taken _ _).trans ?_)⟩
      simp only [judgeRequest, takeCommitRequest, takeCommit, idle, Bool.false_eq_true, if_false]
      rfl
  · have band : (s.swapped b).band b = { s.band b with cursor := 0, saved := (s.band b).saved.map (fun _ => 0) } :=
      swapBanks_band_self b s
    have lists : (s.swapped b).lists b = { s.lists b with onAirB := !(s.lists b).onAirB, commit := none } :=
      swapBanks_lists_self b s
    refine ⟨_, exec_bankSwap b running, rfl, swapped_onAir b s, swapped_shadow b s, ?_, ?_, ?_, ?_, fun k saved => ?_,
      fun unsaved => ?_, ?_, fun c other => ⟨swapBanks_lists_other s other, (adds_swapBanks b s).others.band c other⟩, rfl⟩
    · rw [lists]
    · rw [lists]
    · rw [lists]
    · rw [band]
    · rw [band, saved]
      rfl
    · rw [band, unsaved]
      rfl
    · rw [band]

/-! ### TAKE ON and TAKE OFF -/

/-- R108: a band taken on from READY starts at its target speed, or at 0 in FLIP or halted. -/
theorem takeOnSpeed_of_ready {d : Band} {c : BandConfig} (ready : d.prog = .ready) :
    takeOnSpeed d c = if c.presentation = .crawl ∧ d.halted = false then c.speedTarget else 0 := by
  unfold takeOnSpeed Band.effectiveTarget
  rw [ready]
  cases c.presentation <;> cases d.halted <;> rfl

/-- R161: before the compositor has sampled, the clean request stands for itself. -/
theorem takeOnVisibility_unsampled (fade : Nat) (s : State) : takeOnVisibility false fade s =
    if s.cleanRequested then ⟨.hidden, 0⟩ else ⟨.shown, if fade = 0 then 1 else fade⟩ := by
  have full : fullStep fade = if fade = 0 then 1 else fade := by
    unfold fullStep
    split <;> omega
  rw [← full]
  rfl

/-- R110: what a cut sets in its band, once the window has gone. -/
def Band.cut (d : Band) : Band := { d with breaks := [], saved := none, deferral := false, speed := 0 }

theorem takeTakeOffCut_of_drawing {s : State} {b : Fin 4} (drawing : (s.band b).prog.drawing = true) :
    takeTakeOffCut b s = resultOnly .good
      (if (s.lists b).commit ≠ none then ((removeFront b (s.band b).window.length s).readied b Band.cut).swapped b
       else (removeFront b (s.band b).window.length s).readied b Band.cut) := by
  rw [takeTakeOffCut, if_pos drawing, enterReady_updBand, removeFront_lists]
  rfl

theorem takeTakeOffCut_of_idle {s : State} {b : Fin 4} (idle : (s.band b).prog = .off ∨ (s.band b).prog = .ready) :
    takeTakeOffCut b s = resultOnly .wrongMode s := by
  refine if_neg (fun drawing => ?_)
  rcases idle with e | e <;> rw [e] at drawing <;> cases drawing

/-! ### A cut -/

theorem readied_quote (b : Fin 4) (f : Band → Band) (i : Fin 1024) (s : State) : (s.readied b f).quote i = s.quote i := rfl

theorem readied_ts (b : Fin 4) (f : Band → Band) (s : State) : (s.readied b f).ts = s.ts := rfl

theorem readied_story (b : Fin 4) (f : Band → Band) (i : Fin 256) (s : State) : (s.readied b f).story i = s.story i := rfl

theorem readied_band_self (b : Fin 4) (f : Band → Band) (s : State) :
    (s.readied b f).band b = { f (s.band b) with page := Page.initial, prog := .ready } :=
  State.updBand_band_self s b (fun d => { f d with page := Page.initial, prog := .ready })

theorem readied_vis (b k : Fin 4) (f : Band → Band) (s : State) :
    (s.readied b f).vis k = if b = k then Visibility.off else s.vis k :=
  State.setVis_vis (s.updBand b (fun d => { f d with page := Page.initial, prog := .ready })) b k Visibility.off

theorem readied_updLists (b : Fin 4) (f : Band → Band) (g : RunLists → RunLists) (s : State) :
    (s.updLists b g).readied b f = (s.readied b f).updLists b g := rfl

theorem beside_readied (b : Fin 4) (f : Band → Band) (s : State) : s.Beside b (s.readied b f) :=
  ⟨fun k other => (beside_updBand s b (fun d => { f d with page := Page.initial, prog := .ready })).band k other⟩

/-- R110: the band that has been cut, with every instance of its window reported as removed. -/
def State.cutOff (b : Fin 4) (s : State) : State := (removeFront b (s.band b).window.length s).readied b Band.cut

theorem removeAll_eq (b : Fin 4) (s : State) : removeFront b (s.band b).window.length s =
    reportRemovals (s.band b).window (s.updBand b (fun d => { d with window := d.window.drop (s.band b).window.length })) := by
  rw [removeFront, List.take_length]

theorem cutOff_band_self (b : Fin 4) (s : State) : (s.cutOff b).band b = { s.band b with
    window := [], breaks := [], saved := none, deferral := false, speed := 0, prog := .ready, page := Page.initial } := by
  rw [State.cutOff, readied_band_self, removeFront_band_self, List.drop_length]
  rfl

theorem beside_cutOff (b : Fin 4) (s : State) : s.Beside b (s.cutOff b) :=
  (beside_removeFront b (s.band b).window.length s).trans (beside_readied ..)

/-- What a cut changes outside the bands. -/
theorem cutOff_frame (b : Fin 4) (s : State) : s.cutOff b = { s with
    quotes := (s.cutOff b).quotes,
    ts := { s.ts with stories := (s.cutOff b).ts.stories, freeBlocks := (s.cutOff b).ts.freeBlocks },
    bands := (s.cutOff b).bands, cmp := { s.cmp with vis := (s.cutOff b).cmp.vis }, au := (s.cutOff b).au } := by
  have removed : State.Reported _ (removeFront b (s.band b).window.length s) := reported_reportRemovals ..
  unfold State.cutOff State.readied
  rw [removed]
  rfl

theorem cutOff_vis (b k : Fin 4) (s : State) : (s.cutOff b).vis k = if b = k then Visibility.off else s.vis k := by
  have removed : State.Reported _ (removeFront b (s.band b).window.length s) := reported_reportRemovals ..
  rw [State.cutOff, readied_vis, removed]
  rfl

theorem cutOff_au (b : Fin 4) (s : State) : (s.cutOff b).au = s.au.raise ⟨.bandState, .band b⟩ := by
  have removed : State.Reported _ (removeFront b (s.band b).window.length s) := reported_reportRemovals ..
  unfold State.cutOff
  rw [removed]
  rfl

theorem cutOff_quote (b : Fin 4) (i : Fin 1024) (s : State) :
    (s.cutOff b).quote i = Quote.dropInstance^[quoteInstances i.val (s.band b).window] (s.quote i) := by
  rw [State.cutOff, readied_quote, removeAll_eq, reportRemovals_quote]
  rfl

theorem cutOff_story (b : Fin 4) (i : Fin 256) (s : State) :
    (s.cutOff b).story i = Story.dropInstance^[storyInstances i.val (s.band b).window] (s.story i) := by
  rw [State.cutOff, readied_story, removeAll_eq, reportRemovals_story]
  rfl

theorem cutOff_frees {b : Fin 4} {i : Fin 256} {s : State} (deleting : (s.story i).state = .deleting)
    (shown : 0 < storyInstances i.val (s.band b).window) (all : (s.story i).count = storyInstances i.val (s.band b).window) :
    ∀ k ∈ (s.story i).blocks, k ∈ (s.cutOff b).ts.freeBlocks := by
  rw [State.cutOff, readied_ts, removeAll_eq]
  exact reportRemovals_frees (s.band b).window
    (s.updBand b (fun d => { d with window := d.window.drop (s.band b).window.length })) deleting shown all

/-! ### Removals beside a change of a run list -/

theorem reportRemoval_updLists (x : Inst) (s : State) (b : Fin 4) (f : RunLists → RunLists) :
    reportRemoval x (s.updLists b f) = (reportRemoval x s).updLists b f := by
  unfold reportRemoval
  split
  · unfold State.updQuoteAt
    split <;> rfl
  · unfold dropStory
    split
    · unfold freeStoryIfGone
      dsimp only
      rw [show ∀ (i : Fin 256) (g : Story → Story), ((s.updLists b f).updStory i g).story i = (s.updStory i g).story i from
        fun _ _ => rfl]
      split <;> rfl
    · rfl
  · rfl
  · rfl

theorem reportRemovals_updLists (l : List Inst) (b : Fin 4) (f : RunLists → RunLists) : ∀ s : State,
    reportRemovals l (s.updLists b f) = (reportRemovals l s).updLists b f := by
  induction l with
  | nil => exact fun _ => rfl
  | cons x l ih => exact fun s => by rw [reportRemovals, reportRemoval_updLists, ih, reportRemovals]

theorem cutOff_updLists (b : Fin 4) (f : RunLists → RunLists) (s : State) :
    (s.updLists b f).cutOff b = (s.cutOff b).updLists b f := by
  have removed : removeFront b (s.band b).window.length (s.updLists b f) =
      (removeFront b (s.band b).window.length s).updLists b f :=
    reportRemovals_updLists ((s.band b).window.take _) b f (s.updBand b (fun d => { d with window := d.window.drop _ }))
  rw [State.cutOff, State.updLists_band, removed, readied_updLists, State.cutOff]

/-- Settles O43: TAKE ON by the program state, a drain, and a cut without and with a pending commit. -/
theorem takeOnAndOff : Obligations.TakeOnAndOff := by
  unfold Obligations.TakeOnAndOff
  intro s o b running d answer becomes
  have taken : ∀ (s : State) (r : BandRequest), s.run = .running → takeAlone o b r s = deliver o b (judgeRequest false b r s).1.1
      (judgeRequest false b r s).1.2 (judgeRequest false b r s).2 := fun s r h => takeAlone_of_running o b r h
  have answers : ∀ {s : State} {r : BandRequest} {q : Result} {t : State}, s.run = .running →
      judgeRequest false b r s = resultOnly q t → Host.Outcome.next (takeAlone o b r s) = answer q t := fun h e =>
    congrArg Host.Outcome.next ((taken _ _ h).trans (by rw [e]; rfl))
  refine ⟨fun fromTop => ⟨fun c ready config => ?_, fun draining => ?_, fun notReady notDraining => ?_⟩, fun run => ?_,
    fun wait => ?_, fun idle => ?_, fun idle => ?_, fun drawing none => ?_, fun drawing some => ?_⟩
  · refine answers running ?_
    unfold judgeRequest takeTakeOn
    rw [ready, config]
    dsimp only
    rw [takeOnVisibility_unsampled, changeProg, State.setVis_updBand, State.updBand_updBand]
    refine congrArg (resultOnly .good) ?_
    refine congrArg (fun t : State => (t.setVis b _).raise .bandState (.band b)) (State.updBand_congr ?_)
    dsimp only
    rw [takeOnSpeed_of_ready ready]
  · refine answers running ?_
    unfold judgeRequest takeTakeOn
    rw [draining]
    dsimp only
    rw [changeProg_updBand]
  · refine answers running ?_
    unfold judgeRequest takeTakeOn
    cases e : (s.band b).prog with
    | ready => exact absurd e notReady
    | draining => exact absurd e notDraining
    | off => rfl
    | running => rfl
    | clearing => rfl
    | breaking => rfl
  · refine answers running ?_
    unfold judgeRequest takeTakeOffDrain
    rw [run]
    dsimp only
    rw [changeProg_updBand]
  · refine answers running ?_
    unfold judgeRequest takeTakeOffDrain
    rcases wait with e | e <;> rw [e] <;> dsimp only <;> rw [changeProg_updBand] <;> rfl
  · refine answers running ?_
    unfold judgeRequest takeTakeOffDrain
    rcases idle with e | e | e <;> rw [e]
  · exact answers running (takeTakeOffCut_of_idle idle)
  · refine ⟨s.cutOff b, answers running ((takeTakeOffCut_of_drawing drawing).trans
      (congrArg (resultOnly .good) (if_neg (not_not.mpr none)))), cutOff_frame b s, cutOff_band_self b s,
      fun k other => ⟨(beside_cutOff b s).band k other, ?_⟩, ?_, cutOff_au b s, fun i => ?_, fun i => ?_⟩
    · rw [cutOff_vis, if_neg (fun e => other e.symm)]
    · rw [cutOff_vis, if_pos rfl]
      rfl
    · rw [cutOff_quote]
      refine ⟨fun live => Quote.dropInstances (.inl (by rw [live]; nofun)), fun _ more => Quote.dropInstances (.inr more),
        fun retiring shown all => ?_⟩
      rw [← all] at shown ⊢
      exact Quote.dropAllInstances retiring shown
    · rw [cutOff_story]
      refine ⟨fun loaded => Story.dropInstances (.inl (by rw [loaded]; nofun)), fun deleting shown all =>
        ⟨?_, cutOff_frees deleting shown all⟩⟩
      rw [← all] at shown ⊢
      exact Story.dropAllInstances deleting shown
  · have without : ((s.updLists b (fun r => { r with commit := Option.none })).lists b).commit = Option.none := by
      rw [State.updLists_lists_self]
    have cut := cutOff_updLists b (fun r => { r with commit := Option.none }) s
    have frame := cutOff_frame b s
    refine ⟨(s.cutOff b).updLists b (fun r => { r with commit := Option.none }), (s.cutOff b).swapped b, ?_, ?_, ?_, ?_⟩
    · rw [← cut]
      exact answers (s := s.updLists b _) running ((takeTakeOffCut_of_drawing (s := s.updLists b _) drawing).trans
        (congrArg (resultOnly .good) (if_neg (not_not.mpr without))))
    · show (s.cutOff b).eli = s.eli
      have same := congrArg State.eli frame
      exact same
    · rw [exec_bankSwap b ?_, swapped_withoutCommit]
      have same := congrArg State.run frame
      exact same.trans running
    · exact answers running ((takeTakeOffCut_of_drawing drawing).trans (congrArg (resultOnly .good) (if_pos some)))

end Sys2Proof.Machine

/-! SUPPORT for O29 and O30. EDIT RUN LIST and COPY BANK: the checks in their order, the shadow bank they write, and the item entries
of an INSERT or a REPLACE. -/

namespace Sys2Proof.Machine

/-! ### EDIT RUN LIST at its command phase (R87) -/

theorem four_of_large {n : Nat} (h : 3 < n) : four n = none := dif_neg (by omega)

theorem editRunList_of_large {band op pos count n : Nat} (s : State) (h : 3 < band) :
    editRunList band op pos count n s = (badParam, s) := by
  rw [editRunList, four_of_large h]

theorem editRunList_of_badParams {band op pos count n : Nat} (s : State) (h : editParamsOk op count n = false) :
    editRunList band op pos count n s = (badParam, s) := by
  unfold editRunList
  split
  · rfl
  · rw [h]
    rfl

theorem editRunList_of_pending {b : Fin 4} {op pos count n : Nat} {s : State} (params : editParamsOk op count n = true)
    (pending : (s.lists b).commit ≠ none) : editRunList b.val op pos count n s = (.answer .busy noValues, s) := by
  rw [editRunList, four_fin]
  dsimp only
  rw [params, Option.isSome_iff_ne_none.mpr pending]
  rfl

theorem editRunList_of_misfit {b : Fin 4} {op pos count n : Nat} {s : State} {r : Result} (params : editParamsOk op count n = true)
    (free : (s.lists b).commit = none) (fit : editFit op pos count (s.lists b).shadow.length = some r) :
    editRunList b.val op pos count n s = (.answer r noValues, s) := by
  rw [editRunList, four_fin]
  dsimp only
  rw [params, free, fit]
  rfl

theorem editRunList_receives {b : Fin 4} {op pos count n : Nat} {s : State} (params : editParamsOk op count n = true)
    (free : (s.lists b).commit = none) (fit : editFit op pos count (s.lists b).shadow.length = none)
    (items : op = opInsert ∨ op = opReplace) : editRunList b.val op pos count n s = (.receive, s) := by
  rw [editRunList, four_fin]
  dsimp only
  rw [params, free, fit]
  exact if_pos items

theorem editRunList_applies {b : Fin 4} {op pos count n : Nat} {s : State} (params : editParamsOk op count n = true)
    (free : (s.lists b).commit = none) (fit : editFit op pos count (s.lists b).shadow.length = none)
    (plain : ¬ (op = opInsert ∨ op = opReplace)) : editRunList b.val op pos count n s =
      (.answer .good (applyEdit b op pos count [] s).1, (applyEdit b op pos count [] s).2) := by
  rw [editRunList, four_fin]
  dsimp only
  rw [params, free, fit]
  exact if_neg plain

/-- An edit that its owner answers ends the exchange on the state that the owner left. -/
theorem edit_answers {s t : State} {h : EdHeader} {band op pos count : Nat} {r : Result} {v : List Byte} (k : s.takesCommand)
    (phase : editRunList band op pos count h.dataLength (s.takes .idle h (.edit band op pos count)) =
      (.answer r v, t.takes .idle h (.edit band op pos count))) :
    edCommand h (.edit band op pos count) s = t.answers h (.edit band op pos count) r v := by
  rw [edCommand_eq (c := .edit band op pos count) k rfl phase, settle_answer_takes]

theorem edit_receives {s : State} {h : EdHeader} {band op pos count : Nat} (k : s.takesCommand) (some_data : h.dataLength ≠ 0)
    (phase : editRunList band op pos count h.dataLength (s.takes .idle h (.edit band op pos count)) =
      (.receive, s.takes .idle h (.edit band op pos count))) :
    edCommand h (.edit band op pos count) s = s.takes .dataOut h (.edit band op pos count) := by
  rw [edCommand_eq (c := .edit band op pos count) k rfl phase, settle_receive_takes some_data]

/-- R87 check 1: before the band is looked at. -/
theorem edit_badParams {s : State} {h : EdHeader} {band op pos count : Nat} (k : s.takesCommand)
    (bad : 3 < band ∨ editParamsOk op count h.dataLength = false) :
    edCommand h (.edit band op pos count) s = s.answers h (.edit band op pos count) .badParam noValues :=
  edit_answers k (bad.elim (editRunList_of_large _) (editRunList_of_badParams _))

theorem edit_pending {s : State} {h : EdHeader} {b : Fin 4} {op pos count : Nat} (k : s.takesCommand)
    (params : editParamsOk op count h.dataLength = true) (pending : (s.lists b).commit ≠ none) :
    edCommand h (.edit b.val op pos count) s = s.answers h (.edit b.val op pos count) .busy noValues :=
  edit_answers k (editRunList_of_pending params pending)

theorem edit_misfit {s : State} {h : EdHeader} {b : Fin 4} {op pos count : Nat} {r : Result} (k : s.takesCommand)
    (params : editParamsOk op count h.dataLength = true) (free : (s.lists b).commit = none)
    (fit : editFit op pos count (s.lists b).shadow.length = some r) :
    edCommand h (.edit b.val op pos count) s = s.answers h (.edit b.val op pos count) r noValues :=
  edit_answers k (editRunList_of_misfit params free fit)

/-- R89: an edit without items is applied at once. -/
theorem edit_applies {s : State} {h : EdHeader} {b : Fin 4} {op pos count : Nat} (k : s.takesCommand)
    (params : editParamsOk op count h.dataLength = true) (free : (s.lists b).commit = none)
    (fit : editFit op pos count (s.lists b).shadow.length = none) (plain : ¬ (op = opInsert ∨ op = opReplace)) :
    edCommand h (.edit b.val op pos count) s =
      (s.updLists b (fun r => r.setShadow (editedBank op pos count [] (s.lists b).shadow))).answers h (.edit b.val op pos count) .good
        (numberValues (editedBank op pos count [] (s.lists b).shadow).length) :=
  edit_answers k (editRunList_applies params free fit plain)

/-! ### DELETE, CLEAR and COPY BANK -/

theorem deleteParamsOk_iff {count n : Nat} : editParamsOk opDelete count n = true ↔ 1 ≤ count ∧ count ≤ 256 ∧ n = 0 := by
  simp [editParamsOk, opDelete, opInsert, opReplace, and_assoc]

theorem clearParamsOk_iff {count n : Nat} : editParamsOk opClear count n = true ↔ n = 0 := by
  simp [editParamsOk, opDelete, opInsert, opReplace, opClear]

theorem deleteFit {pos count n : Nat} : editFit opDelete pos count n = if n < pos + count then some .badParam else none := rfl

theorem copyBank_fin {b : Fin 4} {s : State} : copyBank b.val s = if (s.lists b).commit.isSome then (.answer .busy noValues, s)
    else (.answer .good (numberValues (s.lists b).onAir.length), s.updLists b (fun r => r.setShadow r.onAir)) := by
  rw [copyBank, four_fin]

theorem copyBank_of_large {band : Nat} (s : State) (h : 3 < band) : copyBank band s = (badParam, s) := by
  rw [copyBank, four_of_large h]

/-- Settles O29: the two edits without items by the checks in their order, and the copy. -/
theorem shadowBankEdits : Obligations.ShadowBankEdits := by
  unfold Obligations.ShadowBankEdits
  refine ⟨fun s h b k zero => ?_, fun s h band k => ⟨fun pos count bad => ?_, fun bad => ⟨fun pos count => ?_, ?_⟩⟩⟩
  · intro bank other wrote
    have clear : ∀ {count}, editParamsOk opClear count h.dataLength = true := clearParamsOk_iff.mpr zero
    have delete : ∀ {count}, 1 ≤ count → count ≤ 256 → editParamsOk opDelete count h.dataLength = true := fun low high =>
      deleteParamsOk_iff.mpr ⟨low, high, zero⟩
    refine ⟨fun free => ⟨fun pos count low high fits => ?_, fun pos count bad => ?_, fun pos count => ?_, ?_⟩,
      fun pending => ⟨fun pos count low high => ?_, fun pos count => ?_, ?_⟩⟩
    · have fit := deleteFit.trans (if_neg (not_lt.mpr fits))
      exact congrArg Host.Outcome.next (edit_applies k (delete low high) free fit (by decide))
    · refine congrArg Host.Outcome.next ?_
      by_cases params : editParamsOk opDelete count h.dataLength = true
      · obtain ⟨low, high, _⟩ := deleteParamsOk_iff.mp params
        have past : bank.length < pos + count := by omega
        exact edit_misfit k params free (deleteFit.trans (if_pos past))
      · exact edit_badParams k (.inr (by simpa using params))
    · exact congrArg Host.Outcome.next (edit_applies k clear free rfl (by decide))
    · have copied := copyBank_fin (s := s.takes .idle h (.copyBank b.val)) (b := b)
      have none : ((s.takes .idle h (.copyBank b.val)).lists b).commit.isSome ≠ true := by
        rw [show ((s.takes .idle h (.copyBank b.val)).lists b).commit = none from free]
        nofun
      exact congrArg Host.Outcome.next (edCommand_answer (t := s.updLists b (fun r => r.setShadow r.onAir)) k rfl zero
        (copied.trans (if_neg none)))
    · exact congrArg Host.Outcome.next (edit_pending k (delete low high) pending)
    · exact congrArg Host.Outcome.next (edit_pending k clear pending)
    · have copied := copyBank_fin (s := s.takes .idle h (.copyBank b.val)) (b := b)
      exact congrArg Host.Outcome.next (edCommand_answer k rfl zero
        (copied.trans (if_pos (Option.isSome_iff_ne_none.mpr pending))))
  · refine congrArg Host.Outcome.next (edit_badParams k (bad.imp_right (fun bad => ?_)))
    refine Bool.eq_false_iff.mpr (fun params => ?_)
    obtain ⟨low, high, zero⟩ := deleteParamsOk_iff.mp params
    omega
  · refine congrArg Host.Outcome.next (edit_badParams k (bad.imp_right (fun bad => ?_)))
    exact Bool.eq_false_iff.mpr (fun params => bad (clearParamsOk_iff.mp params))
  · refine congrArg Host.Outcome.next ?_
    by_cases zero : h.dataLength = 0
    · exact edCommand_answer k rfl zero (copyBank_of_large _ (bad.resolve_right (not_not.mpr zero)))
    · exact edCommand_of_badLength k (decide_eq_false zero)

/-! ### Item entries (R85, R88 check 3, R183) -/

/-- R183: two bytes spell a number. -/
theorem natOf_pair (a b : Byte) : natOf [a, b] = 256 * a.toNat + b.toNat := by
  simp [natOf]
  omega

/-- R88 check 3: the fields of an entry that are no item's. -/
def entryRefused (kind : Byte) (first gen : Nat) (gap colour : Option Nat) : Prop :=
  kind ∉ [(1 : Byte), 2, 3, 4] ∨ (kind = 1 ∧ (1023 < first ∨ gen = 0)) ∨ (kind = 2 ∧ (255 < first ∨ gen = 0)) ∨
    (kind = 3 ∧ gen ≠ 0) ∨ (kind = 4 ∧ (first = 0 ∨ 4096 < first ∨ gen ≠ 0)) ∨ (∃ g, gap = some g ∧ 1024 < g) ∨
    (∃ k, colour = some k ∧ (kind ≠ 2 ∨ 9 < k))

/-- R85: what the fields of an entry spell. -/
def entryItem (kind : Byte) (first gen : Nat) (gap colour : Option Nat) : Item :=
  ⟨if kind = 1 then .quote ⟨first, gen⟩ else if kind = 2 then .story ⟨first, gen⟩
    else if kind = 3 then .glyph first else .spacer first, gap, colour⟩

/-- R85: the kind that an entry's first fields spell, or none. -/
def entryKind (kind : Byte) (first gen : Nat) : Option ItemKind :=
  match kind.toNat with
  | 1 => if first ≤ 1023 ∧ 1 ≤ gen then some (.quote ⟨first, gen⟩) else none
  | 2 => if first ≤ 255 ∧ 1 ≤ gen then some (.story ⟨first, gen⟩) else none
  | 3 => if gen = 0 then some (.glyph first) else none
  | 4 => if gen = 0 ∧ 1 ≤ first ∧ first ≤ 4096 then some (.spacer first) else none
  | _ => none

/-- R85, R88 check 3: the gap and the colour that an entry may carry. -/
def entryExtrasOk (kind : Byte) (gap colour : Option Nat) : Prop :=
  (∀ g, gap = some g → g ≤ 1024) ∧ ∀ k, colour = some k → kind = 2 ∧ k ≤ 9

/-- R88 check 3: the kinds and numbers that are no item's. -/
theorem entryKind_eq_none_iff {kind : Byte} {first gen : Nat} : entryKind kind first gen = none ↔
    kind ∉ [(1 : Byte), 2, 3, 4] ∨ (kind = 1 ∧ (1023 < first ∨ gen = 0)) ∨ (kind = 2 ∧ (255 < first ∨ gen = 0)) ∨
      (kind = 3 ∧ gen ≠ 0) ∨ (kind = 4 ∧ (first = 0 ∨ 4096 < first ∨ gen ≠ 0)) := by
  by_cases known : kind ∈ [(1 : Byte), 2, 3, 4]
  · simp only [List.mem_cons, List.not_mem_nil, or_false] at known
    rcases known with rfl | rfl | rfl | rfl <;> simp [entryKind] <;> omega
  · refine iff_of_true ?_ (.inl known)
    simp only [List.mem_cons, List.not_mem_nil, or_false, not_or] at known
    obtain ⟨one, two, three, four⟩ := known
    unfold entryKind
    split
    · next e => exact absurd (BitVec.eq_of_toNat_eq e) one
    · next e => exact absurd (BitVec.eq_of_toNat_eq e) two
    · next e => exact absurd (BitVec.eq_of_toNat_eq e) three
    · next e => exact absurd (BitVec.eq_of_toNat_eq e) four
    · rfl

theorem entryKind_eq_some {kind : Byte} {first gen : Nat} {k : ItemKind} (h : entryKind kind first gen = some k) :
    k = (if kind = 1 then .quote ⟨first, gen⟩ else if kind = 2 then .story ⟨first, gen⟩
      else if kind = 3 then .glyph first else .spacer first) := by
  have known : kind ∈ [(1 : Byte), 2, 3, 4] := by
    by_contra other
    rw [entryKind_eq_none_iff.mpr (.inl other)] at h
    cases h
  simp only [List.mem_cons, List.not_mem_nil, or_false] at known
  rcases known with rfl | rfl | rfl | rfl <;> simp [entryKind] at h <;> exact h.2.symm

/-- R88 check 3: an entry is refused for its kind and numbers, or for its gap or colour. -/
theorem entryRefused_iff {kind : Byte} {first gen : Nat} {gap colour : Option Nat} : entryRefused kind first gen gap colour ↔
    entryKind kind first gen = none ∨ ¬ entryExtrasOk kind gap colour := by
  have extras : ¬ entryExtrasOk kind gap colour ↔
      (∃ g, gap = some g ∧ 1024 < g) ∨ (∃ k, colour = some k ∧ (kind ≠ 2 ∨ 9 < k)) := by
    simp only [entryExtrasOk, not_and_or, not_forall, exists_prop, not_le, ne_eq]
  rw [extras, entryKind_eq_none_iff]
  simp only [entryRefused, or_assoc]

/-- R85: the item is a story. -/
def ItemKind.isStory : ItemKind → Bool
  | .story _ => true
  | .quote _ => false
  | .glyph _ => false
  | .spacer _ => false

/-- R88 check 3: the tests of the gap and the colour, as the entry's reader makes them. -/
theorem entryExtrasOk_iff {kind : Byte} {first gen : Nat} {k : ItemKind} {gap colour : Option Nat}
    (h : entryKind kind first gen = some k) : (gap.all (fun v => decide (v ≤ 1024)) && colour.all (fun v => decide (v ≤ 9)) &&
      (k.isStory || !colour.isSome)) = true ↔ entryExtrasOk kind gap colour := by
  have story : k.isStory = true ↔ kind = 2 := by
    rw [entryKind_eq_some h]
    split_ifs with one two three
    · exact iff_of_false nofun (fun two => by rw [one] at two; cases two)
    · exact iff_of_true rfl two
    · exact iff_of_false nofun two
    · exact iff_of_false nofun two
  unfold entryExtrasOk
  cases gap <;> cases colour <;> simp [story, and_assoc]
  · exact and_comm
  · exact fun _ => and_comm

theorem itemOf_entry (k fl a1 a2 g1 g2 p1 p2 c : Byte) {first gen : Nat} {gap colour : Option Nat}
    (hf : first = 256 * a1.toNat + a2.toNat) (hg : gen = 256 * g1.toNat + g2.toNat)
    (hp : gap = if fl.getLsbD 0 then some (256 * p1.toNat + p2.toNat) else none)
    (hc : colour = if fl.getLsbD 1 then some c.toNat else none) :
    (entryRefused k first gen gap colour → itemOf [k, fl, a1, a2, g1, g2, p1, p2, c] = none) ∧
    (¬ entryRefused k first gen gap colour →
      itemOf [k, fl, a1, a2, g1, g2, p1, p2, c] = some (entryItem k first gen gap colour)) := by
  have read : itemOf [k, fl, a1, a2, g1, g2, p1, p2, c] = match entryKind k first gen with
      | none => none
      | some kind =>
        if gap.all (fun v => decide (v ≤ 1024)) && colour.all (fun v => decide (v ≤ 9)) &&
          (kind.isStory || !colour.isSome) then some ⟨kind, gap, colour⟩ else none := by
    have f2 : field [k, fl, a1, a2, g1, g2, p1, p2, c] 2 2 = first := (natOf_pair a1 a2).trans hf.symm
    have f4 : field [k, fl, a1, a2, g1, g2, p1, p2, c] 4 2 = gen := (natOf_pair g1 g2).trans hg.symm
    have f6 : field [k, fl, a1, a2, g1, g2, p1, p2, c] 6 2 = 256 * p1.toNat + p2.toNat := natOf_pair p1 p2
    have coloured : colour.isSome = fl.getLsbD 1 := by
      rw [hc]
      cases fl.getLsbD 1 <;> rfl
    unfold itemOf
    rw [f2, f4, f6, coloured, hp, hc]
    show (match entryKind k first gen with
      | none => none
      | some kind => if _ && _ && ((match kind with | .story _ => true | _ => false) || !fl.getLsbD 1) then
        some (Item.mk kind _ _) else none) = _
    cases entryKind k first gen with
    | none => rfl
    | some kind => cases kind <;> rfl
  rw [read, entryRefused_iff]
  cases kind : entryKind k first gen with
  | none => exact ⟨fun _ => rfl, fun ok => absurd (.inl rfl) ok⟩
  | some kd =>
    dsimp only
    rw [entryItem, ← entryKind_eq_some kind]
    by_cases ok : entryExtrasOk k gap colour
    · exact ⟨fun bad => absurd ok (by simpa using bad), fun _ => if_pos ((entryExtrasOk_iff kind).mpr ok)⟩
    · exact ⟨fun _ => if_neg (fun t => ok ((entryExtrasOk_iff kind).mp t)), fun fine => absurd (.inr ok) fine⟩

/-- R181: the two bytes of a number spell it. -/
theorem bytesOf_two {v : Nat} (h : v ≤ 65535) :
    v = 256 * (BitVec.ofNat 8 (v / 256 ^ 1)).toNat + (BitVec.ofNat 8 (v / 256 ^ 0)).toNat := by
  simp only [BitVec.toNat_ofNat]
  omega

theorem entryFlags_bits (gap colour : Bool) : (byteOf (bit gap + 2 * bit colour)).getLsbD 0 = gap ∧
    (byteOf (bit gap + 2 * bit colour)).getLsbD 1 = colour := by
  cases gap <;> cases colour <;> decide

theorem itemOf_spelled {kind first gen : Nat} {gap colour : Option Nat} (firstFits : first ≤ 65535) (genFits : gen ≤ 65535)
    {k : ItemKind} (known : entryKind (byteOf kind) first gen = some k) (extras : entryExtrasOk (byteOf kind) gap colour) :
    itemOf (byteOf kind :: byteOf (bit gap.isSome + 2 * bit colour.isSome) ::
      (bytesOf 2 first ++ bytesOf 2 gen ++ bytesOf 2 (gap.getD 0) ++ [byteOf (colour.getD 0)])) = some ⟨k, gap, colour⟩ := by
  obtain ⟨hasGap, hasColour⟩ := entryFlags_bits gap.isSome colour.isSome
  obtain ⟨gapFits, colourFits⟩ := extras
  have fine : ¬ entryRefused (byteOf kind) first gen gap colour := fun refused =>
    (entryRefused_iff.mp refused).elim (by rw [known]; nofun) (absurd ⟨gapFits, colourFits⟩)
  refine ((itemOf_entry _ _ _ _ _ _ _ _ _ (bytesOf_two firstFits) (bytesOf_two genFits) ?_ ?_).2 fine).trans ?_
  · rw [hasGap]
    cases gap with
    | none => rfl
    | some g => exact congrArg some (bytesOf_two (by have := gapFits g rfl; omega))
  · rw [hasColour]
    cases colour with
    | none => rfl
    | some c =>
      have := (colourFits c rfl).2
      exact congrArg some (by simp only [Option.getD_some, byteOf, BitVec.toNat_ofNat]; omega)
  · rw [entryItem, ← entryKind_eq_some known]

theorem itemBytes_length (i : Item) : (itemBytes i).length = 9 := by
  unfold itemBytes
  cases i.kind <;> rfl

/-- R85, R183: the bytes of an item in range spell it. -/
theorem itemOf_itemBytes {i : Item} (gap : ∀ g, i.gap = some g → g ≤ 1024)
    (kind : match i.kind with
      | .quote r => r.index ≤ 1023 ∧ 1 ≤ r.gen ∧ r.gen ≤ 65535 ∧ i.colour = none
      | .story r => r.index ≤ 255 ∧ 1 ≤ r.gen ∧ r.gen ≤ 65535 ∧ ∀ c, i.colour = some c → c ≤ 9
      | .glyph c => c ≤ 65535 ∧ i.colour = none
      | .spacer w => 1 ≤ w ∧ w ≤ 4096 ∧ i.colour = none) : itemOf (itemBytes i) = some i := by
  obtain ⟨k, g, c⟩ := i
  have plain : ∀ {kind : Byte}, c = none → entryExtrasOk kind g c := fun none => ⟨gap, fun v some => by
    rw [none] at some
    cases some⟩
  cases k with
  | quote r =>
    obtain ⟨index, some_gen, gen, none⟩ := kind
    exact itemOf_spelled (kind := 1) (first := r.index) (gen := r.gen) (by omega) gen (if_pos ⟨index, some_gen⟩) (plain none)
  | story r =>
    obtain ⟨index, some_gen, gen, colour⟩ := kind
    exact itemOf_spelled (kind := 2) (first := r.index) (gen := r.gen) (by omega) gen (if_pos ⟨index, some_gen⟩)
      ⟨gap, fun v some => ⟨rfl, colour v some⟩⟩
  | glyph code =>
    obtain ⟨fits, none⟩ := kind
    exact itemOf_spelled (kind := 3) (first := code) (gen := 0) fits (by omega) rfl (plain none)
  | spacer w =>
    obtain ⟨some_width, width, none⟩ := kind
    exact itemOf_spelled (kind := 4) (first := w) (gen := 0) (by omega) (by omega) (if_pos ⟨rfl, some_width, width⟩) (plain none)

/-! ### The last byte of an edit's items (R88, R89) -/

theorem findIdx?_first {α : Type} {p : α → Bool} {before after : List α} {x : α} (pass : ∀ y ∈ before, p y = false)
    (stop : p x = true) : (before ++ x :: after).findIdx? p = some before.length := by
  rw [List.findIdx?_append, List.findIdx?_eq_none_iff.mpr pass, List.findIdx?_cons, stop]
  simp

/-- The state with the last byte of an edit's items taken into the staging area. -/
def State.stagesItem (s : State) (last : Byte) : State :=
  { s with
    editStaging := s.editStaging ++ [last]
    eli := { s.eli with counter := s.eli.counter + 1, dout := [0, 0] } }

/-- The state in which the last byte of an edit's items ended the command with `r`. -/
def State.endsEdit (s : State) (r : Result) (v : List Byte) : State :=
  { s with editStaging := [], eli := s.eli.completed ⟨r, 0, v⟩ }

theorem exec_editDataComplete {s t : State} {band op pos count : Nat} {last : Byte} {st : Status}
    (await : s.awaitsLast (.edit band op pos count)) (judged : completeEdit band op pos count (s.stagesItem last) = (st, t)) :
    exec (.editDataComplete last) s = .next (finish st t) := by
  have run : exec (.editDataComplete last) s = .next (completeData (.edit band op pos count) (s.stagesItem last)) :=
    congrArg Host.Outcome.next (lastByte_of_awaitsLast last await rfl)
  have ended : completeData (.edit band op pos count) (s.stagesItem last) =
      finish (completeEdit band op pos count (s.stagesItem last)).1 (completeEdit band op pos count (s.stagesItem last)).2 := rfl
  rw [run, ended, judged]

/-- R88: the end of an edit whose owner leaves the bank as it is. -/
theorem exec_editDataComplete_kept {s : State} {band op pos count : Nat} {last : Byte} {r : Result} {v : List Byte}
    (await : s.awaitsLast (.edit band op pos count))
    (judged : completeEdit band op pos count (s.stagesItem last) = (⟨r, 0, v⟩, { s.stagesItem last with editStaging := [] })) :
    exec (.editDataComplete last) s = .next (s.endsEdit r v) := exec_editDataComplete await judged

theorem completeEdit_of_pending {s : State} {b : Fin 4} {op pos count : Nat} (pending : (s.lists b).commit ≠ none) :
    completeEdit b.val op pos count s = (⟨.busy, 0, noValues⟩, { s with editStaging := [] }) := by
  rw [completeEdit, four_fin]
  exact if_pos (Option.isSome_iff_ne_none.mpr pending)

theorem completeEdit_of_misfit {s : State} {b : Fin 4} {op pos count : Nat} {r : Result} (free : (s.lists b).commit = none)
    (fit : editFit op pos count (s.lists b).shadow.length = some r) :
    completeEdit b.val op pos count s = (⟨r, 0, noValues⟩, { s with editStaging := [] }) := by
  rw [completeEdit, four_fin]
  dsimp only
  rw [free, fit]
  rfl

section
variable {s : State} {b : Fin 4} {op pos count : Nat} {entries : List (List Byte)} (free : (s.lists b).commit = none)
  (fit : editFit op pos count (s.lists b).shadow.length = none) (cut : entriesOf itemEntryBytes count s.editStaging = entries)
include free fit cut

theorem completeEdit_of_badEntry {k : Nat} (bad : entries.findIdx? (fun e => (itemOf e).isNone) = some k) :
    completeEdit b.val op pos count s = (⟨.badParam, 0, numberValues k⟩, { s with editStaging := [] }) := by
  rw [completeEdit, four_fin]
  dsimp only
  rw [free, fit, cut, bad]
  rfl

end

section
variable {entries : List (List Byte)} {items : List Item} (spelled : entries.map itemOf = items.map some)
include spelled

theorem findIdx?_badEntry_of_items : entries.findIdx? (fun e => (itemOf e).isNone) = none := by
  have same := List.findIdx?_map (p := fun o : Option Item => o.isNone) (f := itemOf) (l := entries)
  rw [spelled] at same
  refine same.symm.trans (List.findIdx?_eq_none_iff.mpr (fun o mem => ?_))
  obtain ⟨i, _, rfl⟩ := List.mem_map.mp mem
  rfl

theorem findIdx?_unresolved_of_items (s : State) :
    entries.findIdx? (fun e => !(itemOf e).all s.itemResolves) = items.findIdx? (fun i => !s.itemResolves i) := by
  have same := List.findIdx?_map (p := fun o : Option Item => !o.all s.itemResolves) (f := itemOf) (l := entries)
  rw [spelled, List.findIdx?_map] at same
  exact same.symm

theorem filterMap_itemOf_of_items : entries.filterMap itemOf = items := by
  have same := List.filterMap_map (f := itemOf) (g := id) (l := entries)
  rw [spelled, List.filterMap_map] at same
  exact same.symm.trans (List.filterMap_some ..)

variable {s : State} {b : Fin 4} {op pos count : Nat} (free : (s.lists b).commit = none)
  (fit : editFit op pos count (s.lists b).shadow.length = none) (cut : entriesOf itemEntryBytes count s.editStaging = entries)
include free fit cut

theorem completeEdit_of_unresolved {k : Nat} (bad : items.findIdx? (fun i => !s.itemResolves i) = some k) :
    completeEdit b.val op pos count s = (⟨.notFound, 0, numberValues k⟩, { s with editStaging := [] }) := by
  rw [completeEdit, four_fin]
  dsimp only
  rw [free, fit, cut, findIdx?_badEntry_of_items spelled, findIdx?_unresolved_of_items spelled, bad]
  rfl

/-- R89: the items go into the shadow bank. -/
theorem completeEdit_applies (resolve : items.findIdx? (fun i => !s.itemResolves i) = none) :
    completeEdit b.val op pos count s = (⟨.good, 0, (applyEdit b op pos count items { s with editStaging := [] }).1⟩,
      (applyEdit b op pos count items { s with editStaging := [] }).2) := by
  rw [completeEdit, four_fin]
  dsimp only
  rw [free, fit, cut, findIdx?_badEntry_of_items spelled, findIdx?_unresolved_of_items spelled, resolve,
    filterMap_itemOf_of_items spelled]
  rfl

end

/-! ### INSERT and REPLACE (R87) -/

theorem insertFit_past {pos count n : Nat} (h : n < pos) : editFit opInsert pos count n = some .badParam := if_pos h

theorem insertFit_full {pos count n : Nat} (h : pos ≤ n) (beyond : 256 < n + count) :
    editFit opInsert pos count n = some .full := (if_neg (not_lt.mpr h)).trans (if_pos beyond)

theorem insertFit_fits {pos count n : Nat} (h : pos ≤ n) (room : n + count ≤ 256) : editFit opInsert pos count n = none :=
  (if_neg (not_lt.mpr h)).trans (if_neg (not_lt.mpr room))

theorem replaceFit {pos count n : Nat} : editFit opReplace pos count n = if n < pos + count then some .badParam else none := rfl

theorem itemParamsOk_iff {op count n : Nat} (items : op = opInsert ∨ op = opReplace) :
    editParamsOk op count n = true ↔ 1 ≤ count ∧ count ≤ 256 ∧ n = 9 * count := by
  rw [editParamsOk, if_pos items]
  simp only [Bool.and_eq_true, decide_eq_true_eq, and_assoc]
  exact Iff.rfl

/-- Settles O30: the entries and the items they spell, both judgements, and the edit applied. -/
theorem editsWithItems : Obligations.EditsWithItems := by
  unfold Obligations.EditsWithItems
  have insert : opInsert = opInsert ∨ opInsert = opReplace := .inl rfl
  have replace : opReplace = opInsert ∨ opReplace = opReplace := .inr rfl
  refine ⟨⟨fun i gap kind => ⟨itemBytes_length i, itemOf_itemBytes gap kind⟩, fun e nine => ?_,
    fun s h b pos count k low high length => ⟨fun free => ⟨fun inside room => ?_, fun inside beyond => ?_, fun past => ?_,
      fun fits => ?_, fun past => ?_⟩, fun pending => ⟨?_, ?_⟩⟩⟩, fun s h band pos count k bad => ?_,
    fun s b op pos count last entries withItems await staged counted nine free insertFits replaceFits => ?_,
    fun s b op pos count last items await => ⟨fun pending => ?_, fun free misfit => ?_, fun free ins inside beyond => ?_⟩⟩
  · match e, nine with
    | [k, fl, a1, a2, g1, g2, p1, p2, c], _ => exact itemOf_entry k fl a1 a2 g1 g2 p1 p2 c rfl rfl rfl rfl
  · have params := (itemParamsOk_iff insert).mpr ⟨low, high, length⟩
    exact congrArg Host.Outcome.next (edit_receives k (by omega)
      (editRunList_receives params free (insertFit_fits inside room) insert))
  · have params := (itemParamsOk_iff insert).mpr ⟨low, high, length⟩
    exact congrArg Host.Outcome.next (edit_misfit k params free (insertFit_full inside beyond))
  · have params := (itemParamsOk_iff insert).mpr ⟨low, high, length⟩
    exact congrArg Host.Outcome.next (edit_misfit k params free (insertFit_past past))
  · have params := (itemParamsOk_iff replace).mpr ⟨low, high, length⟩
    exact congrArg Host.Outcome.next (edit_receives k (by omega)
      (editRunList_receives params free (replaceFit.trans (if_neg (not_lt.mpr fits))) replace))
  · have params := (itemParamsOk_iff replace).mpr ⟨low, high, length⟩
    exact congrArg Host.Outcome.next (edit_misfit k params free (replaceFit.trans (if_pos past)))
  · exact congrArg Host.Outcome.next (edit_pending k ((itemParamsOk_iff insert).mpr ⟨low, high, length⟩) pending)
  · exact congrArg Host.Outcome.next (edit_pending k ((itemParamsOk_iff replace).mpr ⟨low, high, length⟩) pending)
  · have bad : ∀ {op}, op = opInsert ∨ op = opReplace → 3 < band ∨ editParamsOk op count h.dataLength = false :=
      fun items => bad.imp_right (fun bad => Bool.eq_false_iff.mpr (fun params => by
        obtain ⟨low, high, length⟩ := (itemParamsOk_iff items).mp params
        omega))
    exact ⟨congrArg Host.Outcome.next (edit_badParams k (bad insert)),
      congrArg Host.Outcome.next (edit_badParams k (bad replace))⟩
  · have cut : entriesOf itemEntryBytes count (s.stagesItem last).editStaging = entries := by
      rw [show (s.stagesItem last).editStaging = entries.flatten from staged, ← counted]
      exact entriesOf_flatten nine
    have fit : editFit op pos count ((s.stagesItem last).lists b).shadow.length = none := by
      rcases withItems with rfl | rfl
      · exact insertFit_fits (insertFits rfl).1 (insertFits rfl).2
      · exact replaceFit.trans (if_neg (not_lt.mpr (replaceFits rfl)))
    intro ended
    refine ⟨fun items spelled admissible => ?_, fun before after e split_at fine bad => ?_,
      fun before after i spelled admissible refused => ?_⟩
    · intro bank
      have edited : editedBank op pos count items (s.lists b).shadow = bank := by
        rcases withItems with rfl | rfl <;> rfl
      have judged := completeEdit_applies spelled (s := s.stagesItem last) free fit cut
        (List.findIdx?_eq_none_iff.mpr (fun i mem => by
          rw [show (s.stagesItem last).itemResolves i = true from admissible i mem]
          rfl))
      refine (exec_editDataComplete await judged).trans (congrArg Host.Outcome.next ?_)
      rw [← edited]
      rfl
    · refine exec_editDataComplete_kept await (completeEdit_of_badEntry (s := s.stagesItem last) free fit cut ?_)
      rw [split_at]
      exact findIdx?_first (fun x mem => Option.isNone_eq_false_iff.mpr (Option.isSome_iff_ne_none.mpr (fine x mem)))
        (by rw [bad]; rfl)
    · refine exec_editDataComplete_kept await (completeEdit_of_unresolved spelled (s := s.stagesItem last) free fit cut ?_)
      exact findIdx?_first (fun x mem => by rw [show (s.stagesItem last).itemResolves x = true from admissible x mem]; rfl)
        (by rw [show (s.stagesItem last).itemResolves i = false from refused]; rfl)
  · exact exec_editDataComplete_kept await (completeEdit_of_pending (s := s.stagesItem last) pending)
  · refine exec_editDataComplete_kept await (completeEdit_of_misfit (s := s.stagesItem last) free ?_)
    rcases misfit with ⟨rfl, past⟩ | ⟨rfl, past⟩
    · exact insertFit_past past
    · exact replaceFit.trans (if_pos past)
  · refine exec_editDataComplete_kept await (completeEdit_of_misfit (s := s.stagesItem last) free ?_)
    rw [ins]
    exact insertFit_full inside beyond

end Sys2Proof.Machine

/-! SUPPORT for O49. The admission step as a chain of candidates: what one candidate does (`Admission.Step`), where the step leaves off
(`Admission.Stops`), and a measure that every candidate lessens, so that the step always gets there. -/

namespace Sys2Proof.Machine

/-! ### What one candidate makes of its band -/

theorem admitInst_lists (b k : Fin 4) (x : Inst) (s : State) : (admitInst b x s).lists k = s.lists k := addInstance_lists ..

theorem considerBreak_lists (c : BandConfig) (b k : Fin 4) (e : BreakEntry) (rest : List BreakEntry) (s : State) :
    (considerBreak c b e rest s).lists k = s.lists k := by
  unfold considerBreak
  rw [endBreaks_lists]
  split
  · exact admitInst_lists ..
  · rfl

/-- R132, R133: the head of the break queue gives an instance and loses a repeat, or gives none and is dropped. -/
theorem considerBreak_band_self (c : BandConfig) (b : Fin 4) (e : BreakEntry) (rest : List BreakEntry) (s : State) :
    ∃ (w : List Inst) (f : Bool) (l : List BreakEntry), (considerBreak c b e rest s).band b =
      (let d : Band := { s.band b with window := (s.band b).window ++ w, deferral := f, breaks := l }
       if l = [] ∧ (s.band b).prog = .breaking then { d.restoreContext with prog := .running } else d) ∧
      (s.resolvesStory e.story = true → w.length = 1 ∧ l.length ≤ rest.length + 1) ∧
      (s.resolvesStory e.story = false → w = [] ∧ l = rest) := by
  unfold considerBreak
  rw [endBreaks_band_self]
  by_cases resolves : s.resolvesStory e.story = true
  · rw [if_pos resolves, useRepeat, State.updBand_band_self, admitInst_band_self]
    refine ⟨[breakInstance c e (s.placeX b) (s.slotOf c (.story e.story))], false, _, rfl, fun _ => ⟨rfl, ?_⟩, fun no => ?_⟩
    · split
      · exact Nat.le_succ _
      · exact le_rfl
    · rw [no] at resolves
      cases resolves
  · rw [if_neg resolves]
    have own : ((s.updBand b (fun d => { d with breaks := rest })).raise .itemSkipped (.band b)).band b =
        { s.band b with breaks := rest } := State.updBand_band_self ..
    rw [own]
    refine ⟨[], (s.band b).deferral, rest, ?_, fun yes => absurd yes resolves, fun _ => ⟨rfl, rfl⟩⟩
    rw [List.append_nil]

theorem advanceCursor_cursor (b : Fin 4) (s : State) : ((advanceCursor b s).band b).cursor =
    if s.wraps b then 0 else (s.band b).cursor + 1 := by
  unfold advanceCursor State.wraps
  by_cases wrap : (s.lists b).onAir.length ≤ (s.band b).cursor + 1
  · rw [if_pos wrap, if_pos (decide_eq_true wrap)]
    unfold swapIf
    split
    · rw [swapBanks_band_self]
    · show ((s.updBand b _).band b).cursor = 0
      rw [State.updBand_band_self]
  · rw [if_neg wrap, if_neg (by simpa using wrap), State.updBand_band_self]

/-- R95, R119: a wrap with a LOOP END commit pending swaps, and nothing else touches the run lists. -/
theorem advanceCursor_lists_self (b : Fin 4) (s : State) : (advanceCursor b s).lists b =
    if s.wrapSwaps b then { s.lists b with onAirB := !(s.lists b).onAirB, commit := none } else s.lists b := by
  unfold advanceCursor State.wrapSwaps State.wraps
  by_cases wrap : (s.lists b).onAir.length ≤ (s.band b).cursor + 1
  · rw [if_pos wrap, decide_eq_true wrap, Bool.true_and]
    unfold swapIf
    have commit : (((s.updBand b (fun d => { d with cursor := 0 })).raise .loopEnd (.band b)).lists b).commit =
      (s.lists b).commit := rfl
    rw [commit]
    cases e : (s.lists b).commit with
    | none => rfl
    | some m =>
      cases m with
      | immediate => rfl
      | loopEnd =>
        show (swapBanks b _).lists b = _
        rw [swapBanks_lists_self]
        rfl
  · rw [if_neg wrap, decide_eq_false wrap]
    rfl

/-- R117 to R119: the item at the cursor gives an instance or none, and the cursor advances. -/
theorem considerItem_band_self (c : BandConfig) (b : Fin 4) (i : Item) (s : State) :
    ∃ (w : List Inst) (f : Bool) (v : Option Nat), (considerItem c b i s).band b =
      { s.band b with window := (s.band b).window ++ w, deferral := f,
                      cursor := if s.wraps b then 0 else (s.band b).cursor + 1, saved := v } ∧
      (considerItem c b i s).lists b =
        (if s.wrapSwaps b then { s.lists b with onAirB := !(s.lists b).onAirB, commit := none } else s.lists b) ∧
      (s.admissible i.kind = true → w.length = 1) ∧ (s.admissible i.kind = false → w = []) := by
  unfold considerItem
  generalize considered : (if s.admissible i.kind then
    admitInst b (itemInstance c i (s.placeX b) (s.slotOf c i.kind) 0) s else s.raise .itemSkipped (.band b)) = u
  obtain ⟨w, f, own, lists, one, none⟩ : ∃ (w : List Inst) (f : Bool),
      u.band b = { s.band b with window := (s.band b).window ++ w, deferral := f } ∧ u.lists b = s.lists b ∧
      (s.admissible i.kind = true → w.length = 1) ∧ (s.admissible i.kind = false → w = []) := by
    rw [← considered]
    by_cases admissible : s.admissible i.kind = true
    · rw [if_pos admissible, admitInst_band_self, admitInst_lists]
      exact ⟨_, _, rfl, rfl, fun _ => rfl, fun no => absurd (admissible.symm.trans no) nofun⟩
    · rw [if_neg admissible]
      refine ⟨[], (s.band b).deferral, ?_, rfl, fun yes => absurd yes admissible, fun _ => rfl⟩
      rw [List.append_nil]
      rfl
  have wraps : u.wraps b = s.wraps b := by
    unfold State.wraps
    rw [own, lists]
  have swaps : u.wrapSwaps b = s.wrapSwaps b := by
    unfold State.wrapSwaps
    rw [wraps, lists]
  obtain ⟨k, v, advanced⟩ := advanceCursor_band_self b u
  have cursor := advanceCursor_cursor b u
  rw [advanced, wraps, own] at cursor
  refine ⟨w, f, v, ?_, ?_, one, none⟩
  · rw [advanced, own]
    dsimp only at cursor
    rw [cursor]
  · rw [advanceCursor_lists_self, swaps, lists]

/-! ### The admission step, candidate by candidate -/

/-- A band that admits, with its cursor and a saved cursor within the on-air bank. -/
structure State.Admits (b : Fin 4) (s : State) : Prop where
  prog : (s.band b).prog = .running ∨ ((s.band b).prog = .breaking ∧ (s.band b).breaks ≠ [])
  cursor : (s.lists b).onAir = [] ∨ (s.band b).cursor < (s.lists b).onAir.length
  saved : ∀ k, (s.band b).prog = .breaking → (s.band b).saved = some k →
    (s.lists b).onAir = [] ∨ k < (s.lists b).onAir.length

/-- R116, R121: the tail lies within the limit, and the window is not full. -/
def State.HasRoom (b : Fin 4) (s : State) : Prop := s.tailX b ≤ (s.limit : Int) ∧ (s.band b).window.length < 64

/-- One candidate of an admission step. -/
inductive Admission.Step (c : BandConfig) (b : Fin 4) : Admission → Admission → Prop
  | brk {x : Admission} {e : BreakEntry} {rest : List BreakEntry} (room : x.state.HasRoom b)
      (head : (x.state.band b).breaks = e :: rest) :
      Step c b x ⟨considerBreak c b e rest x.state, if x.state.resolvesStory e.story then 0 else x.skips⟩
  | swap {x : Admission} (room : x.state.HasRoom b) (none : (x.state.band b).breaks = [])
      (empty : (x.state.lists b).onAir = []) (pending : (x.state.lists b).commit ≠ Option.none) :
      Step c b x ⟨swapBanks b x.state, 0⟩
  | item {x : Admission} {i : Item} (room : x.state.HasRoom b) (none : (x.state.band b).breaks = [])
      (more : x.skips < (x.state.lists b).onAir.length)
      (candidate : (x.state.lists b).onAir[(x.state.band b).cursor]? = some i) :
      Step c b x ⟨considerItem c b i x.state, skipsAfter b i x.skips x.state⟩

/-- Where an admission step leaves off, and in which state. -/
inductive Admission.Stops (b : Fin 4) (x : Admission) : State → Prop
  | past (h : (x.state.limit : Int) < x.state.tailX b) : Stops b x x.state
  | full (h : x.state.tailX b ≤ (x.state.limit : Int)) (full : 64 ≤ (x.state.band b).window.length) :
      Stops b x (deferAdmission b x.state)
  | starved (room : x.state.HasRoom b) (none : (x.state.band b).breaks = []) (all : (x.state.lists b).onAir.length ≤ x.skips)
      (idle : (x.state.lists b).onAir = [] → (x.state.lists b).commit = Option.none) :
      Stops b x (x.state.raise .starved (.band b))

/-- The items of both banks of a band. -/
def State.bankItems (b : Fin 4) (s : State) : Nat := (s.lists b).bankA.length + (s.lists b).bankB.length

/-- A bound of the candidates still to come: an instance or a swap makes room for as many skips as both banks have items. -/
def Admission.measure (b : Fin 4) (x : Admission) : Nat :=
  ((64 - (x.state.band b).window.length) + (x.state.lists b).commit.toList.length) * (x.state.bankItems b + 1) +
    (x.state.bankItems b - x.skips) + (x.state.band b).breaks.length

theorem onAir_length_le (b : Fin 4) (s : State) : (s.lists b).onAir.length ≤ s.bankItems b := by
  unfold RunLists.onAir State.bankItems
  split <;> omega

/-- A reset of the skips that is paid for by an instance or a swap. -/
theorem measure_lt_of_paid {p q n k l m : Nat} (h : q < p) (fewer : l ≤ m) :
    q * (n + 1) + (n - 0) + l < p * (n + 1) + (n - k) + m := by
  obtain ⟨d, rfl⟩ : ∃ d, p = q + 1 + d := ⟨p - q - 1, by omega⟩
  have spread : (q + 1 + d) * (n + 1) = q * (n + 1) + (n + 1) + d * (n + 1) := by ring
  omega

/-- What a candidate keeps, and that it lessens the measure. -/
structure Admission.Advances (b : Fin 4) (x y : Admission) : Prop where
  admits : y.state.Admits b
  breaking : (y.state.band b).prog = .breaking → (x.state.band b).prog = .breaking
  measure : y.measure b < x.measure b

theorem State.Admits.considerBreak {b : Fin 4} {x : Admission} {e : BreakEntry} {rest : List BreakEntry} (c : BandConfig)
    (a : x.state.Admits b) (room : x.state.HasRoom b) (head : (x.state.band b).breaks = e :: rest) :
    x.Advances b ⟨considerBreak c b e rest x.state, if x.state.resolvesStory e.story then 0 else x.skips⟩ := by
  obtain ⟨s, skips⟩ := x
  have lists := considerBreak_lists c b b e rest s
  obtain ⟨w, f, l, own, shown, dropped⟩ := considerBreak_band_self c b e rest s
  dsimp only at a room head own ⊢
  have items : (Machine.considerBreak c b e rest s).bankItems b = s.bankItems b := by
    unfold State.bankItems
    rw [lists]
  have window : ((Machine.considerBreak c b e rest s).band b).window = (s.band b).window ++ w := by
    rw [own]
    split <;> rfl
  have breaks : ((Machine.considerBreak c b e rest s).band b).breaks = l := by
    rw [own]
    split <;> rfl
  refine ⟨?_, fun breaking => ?_, ?_⟩
  · by_cases ended : l = [] ∧ (s.band b).prog = .breaking
    · rw [if_pos ended] at own
      constructor
      · rw [own]
        exact .inl rfl
      · rw [own, lists]
        show (s.lists b).onAir = [] ∨ (s.band b).saved.getD (s.band b).cursor < (s.lists b).onAir.length
        cases saved : (s.band b).saved with
        | none => exact a.cursor
        | some k => exact a.saved k ended.2 saved
      · rw [own]
        nofun
    · rw [if_neg ended] at own
      constructor
      · rw [own]
        exact a.prog.imp_right (fun breaking => ⟨breaking.1, fun empty => ended ⟨empty, breaking.1⟩⟩)
      · rw [own, lists]
        exact a.cursor
      · rw [own, lists]
        exact a.saved
  · rw [own] at breaking
    split at breaking
    · cases breaking
    · exact breaking
  · unfold Admission.measure
    dsimp only
    rw [lists, items, window, breaks, head, List.length_append, List.length_cons]
    have room := room.2
    by_cases resolves : s.resolvesStory e.story = true
    · obtain ⟨one, fewer⟩ := shown resolves
      rw [if_pos resolves, one]
      exact measure_lt_of_paid (by omega) fewer
    · obtain ⟨rfl, rfl⟩ := dropped (by simpa using resolves)
      rw [if_neg resolves]
      exact Nat.lt_succ_self _

/-- R95: after a swap the cursor and a saved cursor are 0. -/
theorem State.Admits.swapped {b : Fin 4} {s : State} (a : s.Admits b) : (s.swapped b).Admits b := by
  have own := swapBanks_band_self b s
  rw [← swapBanks_eq]
  constructor
  · rw [own]
    exact a.prog
  · rw [own]
    exact or_iff_not_imp_left.mpr List.length_pos_of_ne_nil
  · rw [own]
    intro k _ saved
    obtain ⟨_, _, rfl⟩ := Option.map_eq_some_iff.mp saved
    exact or_iff_not_imp_left.mpr List.length_pos_of_ne_nil

theorem State.Admits.swapBanks {b : Fin 4} {x : Admission} (a : x.state.Admits b) (pending : (x.state.lists b).commit ≠ none) :
    x.Advances b ⟨swapBanks b x.state, 0⟩ := by
  obtain ⟨s, skips⟩ := x
  have own := swapBanks_band_self b s
  have lists := swapBanks_lists_self b s
  dsimp only at a pending ⊢
  refine ⟨a.swapped, fun breaking => ?_, ?_⟩
  · rw [own] at breaking
    exact breaking
  · obtain ⟨m, commit⟩ := Option.ne_none_iff_exists'.mp pending
    unfold Admission.measure State.bankItems
    dsimp only
    rw [lists, own, commit]
    exact measure_lt_of_paid (Nat.lt_succ_self _) le_rfl

/-- A band without a break entry that admits is RUNNING. -/
theorem State.Admits.running {b : Fin 4} {s : State} (a : s.Admits b) (none : (s.band b).breaks = []) :
    (s.band b).prog = .running := a.prog.resolve_right (fun breaking => breaking.2 none)

theorem State.Admits.considerItem {b : Fin 4} {x : Admission} {i : Item} (c : BandConfig) (a : x.state.Admits b)
    (room : x.state.HasRoom b) (none : (x.state.band b).breaks = []) (more : x.skips < (x.state.lists b).onAir.length) :
    x.Advances b ⟨considerItem c b i x.state, skipsAfter b i x.skips x.state⟩ := by
  obtain ⟨s, skips⟩ := x
  obtain ⟨w, f, v, own, lists, shown, skipped⟩ := considerItem_band_self c b i s
  dsimp only at a room none more ⊢
  have running := a.running none
  refine ⟨⟨?_, ?_, ?_⟩, fun breaking => ?_, ?_⟩
  · rw [own]
    exact .inl running
  · rw [own]
    dsimp only
    by_cases wraps : s.wraps b = true
    · rw [if_pos wraps]
      exact or_iff_not_imp_left.mpr List.length_pos_of_ne_nil
    · have swaps : ¬ s.wrapSwaps b = true := by
        rw [State.wrapSwaps, Bool.eq_false_iff.mpr wraps]
        nofun
      have within : ¬ (s.lists b).onAir.length ≤ (s.band b).cursor + 1 := by simpa [State.wraps] using wraps
      rw [if_neg wraps, lists, if_neg swaps]
      exact .inr (not_le.mp within)
  · rw [own]
    exact fun k breaking => absurd (running.symm.trans breaking) nofun
  · rw [own] at breaking
    exact breaking
  · have least := onAir_length_le b s
    have items : (Machine.considerItem c b i s).bankItems b = s.bankItems b := by
      unfold State.bankItems
      rw [lists]
      split <;> rfl
    have fewer : ((Machine.considerItem c b i s).lists b).commit.toList.length ≤ (s.lists b).commit.toList.length := by
      rw [lists]
      split
      · exact Nat.zero_le _
      · exact le_rfl
    have room := room.2
    unfold Admission.measure skipsAfter
    dsimp only
    rw [items, own]
    dsimp only
    rw [List.length_append]
    by_cases admissible : s.admissible i.kind = true
    · rw [if_pos admissible, shown admissible]
      exact measure_lt_of_paid (by omega) le_rfl
    · rw [if_neg admissible, skipped (by simpa using admissible), lists]
      by_cases swaps : s.wrapSwaps b = true
      · have commit : (s.lists b).commit = some .loopEnd := by
          rw [State.wrapSwaps, Bool.and_eq_true, decide_eq_true_eq] at swaps
          exact swaps.2
        rw [if_pos swaps, if_pos swaps, commit]
        exact measure_lt_of_paid (Nat.lt_succ_self _) le_rfl
      · rw [if_neg swaps, if_neg swaps]
        simp only [List.length_nil, Nat.add_zero]
        omega

theorem Admission.Step.advances {c : BandConfig} {b : Fin 4} {x y : Admission} (step : Admission.Step c b x y)
    (a : x.state.Admits b) : x.Advances b y := by
  cases step with
  | brk room head => exact a.considerBreak c room head
  | swap room none empty pending => exact a.swapBanks pending
  | item room none more candidate => exact a.considerItem c room none more

/-- R116: with a bound above its measure the loop goes on, candidate by candidate, until a rule stops it. -/
theorem admitLoop_stops (c : BandConfig) (b : Fin 4) (fuel : Nat) : ∀ (x : Admission), x.state.Admits b →
    x.measure b < fuel → ∃ y, Relation.ReflTransGen (Admission.Step c b) x y ∧
      y.Stops b (admitLoop c b fuel x.skips x.state) ∧ y.state.Admits b ∧
        ((y.state.band b).prog = .breaking → (x.state.band b).prog = .breaking) := by
  induction fuel with
  | zero => exact fun _ _ short => absurd short (Nat.not_lt_zero _)
  | succ fuel ih =>
    intro x a short
    have stop : ∀ {t}, x.Stops b t → ∃ y, Relation.ReflTransGen (Admission.Step c b) x y ∧ y.Stops b t ∧ y.state.Admits b ∧
        ((y.state.band b).prog = .breaking → (x.state.band b).prog = .breaking) := fun h => ⟨x, .refl, h, a, id⟩
    have go : ∀ {y}, Admission.Step c b x y → ∃ z, Relation.ReflTransGen (Admission.Step c b) x z ∧
        z.Stops b (admitLoop c b fuel y.skips y.state) ∧ z.state.Admits b ∧
        ((z.state.band b).prog = .breaking → (x.state.band b).prog = .breaking) := fun {y} step => by
      obtain ⟨admits, breaking, less⟩ := step.advances a
      obtain ⟨z, steps, stops, last, back⟩ := ih y admits (by omega)
      exact ⟨z, .head step steps, stops, last, fun h => breaking (back h)⟩
    unfold admitLoop
    split
    · next past => exact stop (.past past)
    · next within =>
      split
      · next full => exact stop (.full (not_lt.mp within) full)
      · next open_window =>
        have room : x.state.HasRoom b := ⟨not_lt.mp within, not_le.mp open_window⟩
        split
        · next head => exact go (.brk room head)
        · next none =>
          split
          · next empty =>
            split
            · next pending => exact go (.swap room none empty (Option.isSome_iff_ne_none.mp pending))
            · next idle => exact stop (.starved room none (by rw [empty]; exact Nat.zero_le _) (fun _ => by simpa using idle))
          · next filled =>
            split
            · next all => exact stop (.starved room none all (fun empty => absurd empty filled))
            · next more =>
              have within := a.cursor.resolve_left filled
              split
              · next outside => exact absurd within (by simpa using outside)
              · next i candidate => exact go (.item room none (not_le.mp more) candidate)

/-! ### The whole step -/

/-- R94, R116: the step after the swap of a pending IMMEDIATE commit. -/
def State.begun (b : Fin 4) (s : State) : State := if (s.lists b).commit = some .immediate then s.swapped b else s

theorem begun_band_self (b : Fin 4) (s : State) : ∃ k v, (s.begun b).band b = { s.band b with cursor := k, saved := v } := by
  have own := swapIf_band_self (fun m => decide (m = .immediate)) b s
  rw [swapIf_immediate] at own
  exact own

theorem admissionStep_of_admits (c : BandConfig) {b : Fin 4} {s : State} (run : ((s.begun b).band b).admits) :
    admissionStep c b s = admitLoop c b (admissionFuel (s.begun b) b) 0 (s.begun b) := by
  unfold admissionStep
  rw [swapIf_immediate]
  exact if_pos run

theorem admissionStep_of_other (c : BandConfig) {b : Fin 4} {s : State} (idle : ¬ ((s.begun b).band b).admits) :
    admissionStep c b s = s.begun b := by
  unfold admissionStep
  rw [swapIf_immediate]
  exact if_neg idle

theorem State.Admits.begun {b : Fin 4} {s : State} (a : s.Admits b) : (s.begun b).Admits b := by
  unfold State.begun
  split
  · exact a.swapped
  · exact a

/-- The fuel of an admission step is above the measure of its start. -/
theorem measure_lt_admissionFuel (b : Fin 4) (s : State) : Admission.measure b ⟨s, 0⟩ < admissionFuel s b := by
  have pending : (s.lists b).commit.toList.length ≤ 1 := by
    cases (s.lists b).commit <;> simp
  have paid : (64 - (s.band b).window.length + (s.lists b).commit.toList.length) * (s.bankItems b + 1) ≤
      65 * (s.bankItems b + 1) := Nat.mul_le_mul_right _ (by omega)
  have items : admissionFuel s b = 66 * (s.bankItems b + 2) + (s.band b).breaks.length := rfl
  unfold Admission.measure
  dsimp only
  omega

/-- R116, R120, R121: an admission step considers candidates until a rule stops it. -/
theorem admissionStep_stops (c : BandConfig) {b : Fin 4} {s : State} (a : s.Admits b) :
    ∃ y, Relation.ReflTransGen (Admission.Step c b) ⟨s.begun b, 0⟩ y ∧ y.Stops b (admissionStep c b s) ∧ y.state.Admits b ∧
      ((y.state.band b).prog = .breaking → (s.band b).prog = .breaking) := by
  obtain ⟨k, v, own⟩ := begun_band_self b s
  have run : ((s.begun b).band b).admits := a.begun.prog.imp_right And.left
  obtain ⟨y, steps, stops, last, back⟩ := admitLoop_stops c b _ ⟨s.begun b, 0⟩ a.begun (measure_lt_admissionFuel b (s.begun b))
  rw [admissionStep_of_admits c run]
  refine ⟨y, steps, stops, last, fun breaking => ?_⟩
  have before := back breaking
  rw [own] at before
  exact before

/-! ### Where the step has stopped -/

/-- R186: an event that a master records at a level above 0 is pending with it, while it has no read in progress. -/
theorem mem_pending_record {m : MasterSet} {e : Event} (idle : m.latch = none) (level : 0 < m.level e.kind) :
    e ∈ (m.record e).pending := by
  unfold MasterSet.record
  rw [if_neg level.ne', idle]
  exact mem_addEvent.mpr (.inr rfl)

/-- A band's state in which the step leaves off differs from that of the last candidate in its deferral flag alone. -/
theorem Admission.Stops.band_self {b : Fin 4} {x : Admission} {t : State} (h : x.Stops b t) :
    ∃ f, t.band b = { x.state.band b with deferral := f } := by
  cases h with
  | past _ => exact ⟨_, rfl⟩
  | starved _ _ _ _ => exact ⟨_, rfl⟩
  | full _ _ =>
    unfold deferAdmission
    split
    · exact ⟨_, rfl⟩
    · exact ⟨true, State.updBand_band_self ..⟩

theorem deferAdmission_deferral (b : Fin 4) (s : State) : ((deferAdmission b s).band b).deferral = true := by
  unfold deferAdmission
  split
  · next set => exact set
  · exact congrArg Band.deferral (State.updBand_band_self ..)

theorem State.Kept.limit {s t : State} (kept : s.Kept t) : t.limit = s.limit := by
  unfold State.limit State.width
  rw [kept.straps]

/-- R116, R120, R121: the three ends of an admission step, by its last state. -/
theorem Admission.Stops.last {b : Fin 4} {x : Admission} {t : State} (h : x.Stops b t) :
    (t.limit : Int) < t.tailX b ∨ (64 ≤ (t.band b).window.length ∧ (t.band b).deferral = true) ∨
      ∃ u : State, t = u.raise .starved (.band b) := by
  obtain ⟨f, own⟩ := h.band_self
  have window : (t.band b).window = (x.state.band b).window := by rw [own]
  cases h with
  | past past => exact .inl past
  | full _ full => exact .inr (.inl ⟨window ▸ full, deferAdmission_deferral b x.state⟩)
  | starved _ _ _ _ => exact .inr (.inr ⟨x.state, rfl⟩)

/-- Settles O49: the chain of candidates, the stop it ends with, and what the stop and the window then say. -/
theorem admissionFillsTheBand : Obligations.AdmissionFillsTheBand := by
  unfold Obligations.AdmissionFillsTheBand
  intro s b c tail place room admitted skipped queued broken considers stops t begun
  have tails : ∀ u, tail u = u.tailX b := fun u => by
    unfold State.tailX
    show (match (u.band b).window.getLast? with | none => _ | some i => _) = _
    cases (u.band b).window.getLast? with
    | none => rfl
    | some i => push_cast; rfl
  have places : ∀ u, place u = u.placeX b := fun u => by
    show (if _ then _ else tail u) = _
    rw [tails]
    rfl
  have rooms : ∀ u, u.HasRoom b → room u := fun u h => by
    show tail u ≤ _ ∧ _
    rw [tails]
    exact h
  have steps : ∀ x y, Admission.Step c b x y → considers x y := fun x y step => by
    cases step with
    | @brk e rest h head =>
      refine ⟨rooms _ h, .inl ⟨e, rest, head, ?_⟩⟩
      rw [considerBreak_eq, endBreaks_eq, places]
      by_cases resolves : x.state.resolvesStory e.story = true
      · simp only [resolves, if_true]
        rfl
      · simp only [resolves]
        rfl
    | swap h none empty pending => exact ⟨rooms _ h, .inr (.inl ⟨none, empty, pending, rfl⟩)⟩
    | @item i h none more candidate =>
      refine ⟨rooms _ h, .inr (.inr ⟨none, more, i, candidate, ?_⟩)⟩
      rw [considerItem_eq, places]
      unfold skipsAfter State.wrapSwaps State.wraps
      by_cases admissible : x.state.admissible i.kind = true
      · simp only [admissible, if_true]
        rfl
      · simp only [admissible, Bool.and_eq_true, decide_eq_true_eq]
        rfl
  have stopped : ∀ x u, x.Stops b u → stops x u := fun x u h => by
    cases h with
    | past past => exact .inl ⟨by rw [tails]; exact past, rfl⟩
    | full within full => exact .inr (.inl ⟨by rw [tails]; exact within, full, rfl⟩)
    | starved h none all idle => exact .inr (.inr ⟨rooms _ h, none, all, idle, rfl⟩)
  refine ⟨fun notRunning notBreaking => ?_, fun prog cursor saved => ?_⟩
  · obtain ⟨k, v, own⟩ := begun_band_self b s
    refine admissionStep_of_other c (fun run => ?_)
    rw [own] at run
    exact run.elim notRunning notBreaking
  · obtain ⟨y, chain, stop, last, back⟩ := admissionStep_stops c (s := s) ⟨prog, cursor, saved⟩
    obtain ⟨new, adds, fits⟩ := adds_admissionStep c b s
    obtain ⟨f, own⟩ := stop.band_self
    refine ⟨⟨y, Relation.ReflTransGen.mono steps _ _ chain, stopped _ _ stop⟩, fun size => ?_, ⟨new, adds.window⟩, ?_⟩
    · have most : (t.band b).window.length ≤ 64 := by
        rw [adds.window, List.length_append]
        exact fits size
      have kept := kept_admissionStep c b s
      refine ⟨?_, most⟩
      rcases stop.last with past | ⟨full, deferral⟩ | ⟨u, starved⟩
      · rw [kept.limit] at past
        exact .inl past
      · exact .inr (.inl ⟨le_antisymm most full, deferral⟩)
      · refine .inr (.inr (fun m idle level => ?_))
        have master := kept.master m
        have recorded : t.au.get m = (u.au.get m).record ⟨.starved, .band b⟩ := by
          rw [show t = _ from starved]
          exact Au.raise_get ..
        have levels : (u.au.get m).level .starved = (s.au.get m).level .starved := by
          rw [← MasterSet.record_level (u.au.get m) ⟨.starved, .band b⟩, ← recorded]
          unfold MasterSet.level
          rw [show (t.au.get m).levels = _ from master.1]
        have latch : (u.au.get m).latch = none := by
          rw [← (MasterSet.record_kept (u.au.get m) ⟨.starved, .band b⟩).2.2, ← recorded]
          exact master.2.2.trans idle
        rw [recorded]
        exact mem_pending_record latch (by rw [levels]; exact level)
    · rw [own]
      exact last.prog.imp_right (fun breaking => ⟨back breaking.1, breaking⟩)

end Sys2Proof.Machine

/-! SUPPORT for O42 and O57. What CONFIGURE stores, and every step of the bands keeps the lines and the speeds: `Band.seat` is what
R102, R103, R112 and R113 speak of in a band, and most operations of a band engine leave it as it was. -/

namespace Sys2Proof.Machine

/-! ### Configuration records (R102) -/

/-- R102: the configuration `k` is the record `c` with the clamped fields clamped. -/
def BandConfig.Stores (k : BandConfig) (c : ConfigRecord) : Prop :=
  k.presentation.code = c.presentation ∧ k.yOrigin = c.yOrigin ∧ k.height = c.height ∧ k.face.val = c.face ∧
    k.baseline = c.baseline ∧ k.palette = c.palette ∧ k.backKey = c.backKey ∧ k.gap = min 1024 c.gap ∧
    k.quantum = (if c.quantum = 0 then 16 else min 64 c.quantum) ∧ k.speedTarget = min 8192 c.speed ∧
    k.accel = (if c.accel = 0 then 1 else min 8192 c.accel) ∧ k.clearSpeed = min 8192 c.clearSpeed ∧
    k.fade = min 64 c.fade ∧ k.changeStyle.code = c.changeStyle ∧ bit k.smooth = c.smooth ∧ k.flipHold = c.flipHold ∧
    k.flipTransition.code = c.flipTransition ∧ k.rollFrames = c.rollFrames ∧ k.arrowUp = c.arrowUp ∧
    k.arrowDown = c.arrowDown ∧ k.arrowSame = c.arrowSame ∧ k.arrowHalt = c.arrowHalt

theorem presentationOf_code {n : Nat} {p : Presentation} (h : presentationOf n = some p) : p.code = n := by
  unfold presentationOf at h
  split at h <;> cases h <;> rfl

theorem changeStyleOf_code {n : Nat} {p : ChangeStyle} (h : changeStyleOf n = some p) : p.code = n := by
  unfold changeStyleOf at h
  split at h <;> cases h <;> rfl

theorem transitionOf_code {n : Nat} {p : Transition} (h : transitionOf n = some p) : p.code = n := by
  unfold transitionOf at h
  split at h <;> cases h <;> rfl

theorem yesNoOf_bit {n : Nat} {v : Bool} (h : yesNoOf n = some v) : bit v = n := by
  unfold yesNoOf at h
  split at h <;> cases h <;> rfl

theorem four_val {n : Nat} {f : Fin 4} (h : four n = some f) : f.val = n := by
  unfold four at h
  split at h <;> cases h
  rfl

/-- R102: what a record without a bad row is stored as. -/
theorem exists_storedConfig {c : ConfigRecord} {s : State} (good : firstBadRow s.lines (s.faceLoaded c.face) c = none) :
    ∃ k, storedConfig c = some k ∧ k.Stores c := by
  obtain ⟨k, stored⟩ := Option.ne_none_iff_exists'.mp (storedConfig_ne_none good)
  refine ⟨k, stored, ?_⟩
  unfold storedConfig at stored
  split at stored
  case h_2 => cases stored
  case h_1 presentation face style smooth transition =>
    cases stored
    exact ⟨presentationOf_code presentation, rfl, rfl, four_val face, rfl, rfl, rfl, rfl, rfl, rfl, rfl, rfl, rfl,
      changeStyleOf_code style, yesNoOf_bit smooth, rfl, transitionOf_code transition, rfl, rfl, rfl, rfl, rfl⟩

/-- R103: a record whose rows all pass. -/
theorem firstBadRow_eq_none {lines : Nat} {loaded : Bool} {c : ConfigRecord} :
    firstBadRow lines loaded c = none ↔ ∀ t ∈ configTests lines loaded c, t.2 = true := by
  simp [firstBadRow]

/-- R103 check 3: another band that is not OFF has a line in common with these. -/
theorem State.overlaps_iff {s : State} {b : Fin 4} {y h : Nat} : s.overlaps b y h = true ↔
    ∃ (o : Fin 4) (k : BandConfig), o ≠ b ∧ (s.band o).prog ≠ .off ∧ (s.band o).config = some k ∧
      y < k.yOrigin + k.height ∧ k.yOrigin < y + h := by
  simp only [State.overlaps, linesMeet, List.any_eq_true, List.mem_finRange, true_and, Bool.and_eq_true, decide_eq_true_eq,
    Option.any_eq_true, and_assoc]
  exact exists_congr fun o => by
    constructor
    · rintro ⟨other, on, k, config, meet⟩
      exact ⟨k, other, on, config, meet⟩
    · rintro ⟨k, other, on, config, meet⟩
      exact ⟨other, on, k, config, meet⟩

/-! ### The seat of a band -/

/-- R102, R112: the ranges of a stored configuration. -/
def BandConfig.inRange (c : BandConfig) : Prop :=
  c.speedTarget ≤ Config.speedMax ∧ c.clearSpeed ≤ Config.speedMax ∧ 1 ≤ c.accel ∧ c.accel ≤ Config.speedMax ∧ c.gap ≤ 1024 ∧
    1 ≤ c.quantum ∧ c.quantum ≤ 64 ∧ c.fade ≤ 64 ∧ 1 ≤ c.flipHold ∧ 1 ≤ c.rollFrames ∧ c.rollFrames ≤ 64 ∧ 16 ≤ c.height ∧
    c.height ≤ 256

theorem Band.speedOk_iff {d : Band} : d.speedOk ↔
    d.speed ≤ Config.speedMax ∧ (d.prog.drawing = false → d.speed = 0) ∧ ∀ c, d.config = some c → c.inRange := Iff.rfl

/-- R103: the first line and the height of a band that is not OFF. -/
def Band.lines (d : Band) : Option (Nat × Nat) :=
  if d.prog = .off then none else d.config.map (fun c => (c.yOrigin, c.height))

theorem Band.lines_eq_some {d : Band} {y h : Nat} :
    d.lines = some (y, h) ↔ d.prog ≠ .off ∧ ∃ c, d.config = some c ∧ c.yOrigin = y ∧ c.height = h := by
  unfold Band.lines
  split <;> simp_all

/-- What O57 speaks of in a band: its configuration, its speed, and whether it is OFF and whether it draws. -/
def Band.seat (d : Band) : Option BandConfig × Nat × Bool × Bool := (d.config, d.speed, decide (d.prog = .off), d.prog.drawing)

/-- The raster and the seats of the bands. -/
def State.seats (s : State) : Straps × (Fin 4 → Option BandConfig × Nat × Bool × Bool) := (s.straps, fun b => (s.band b).seat)

/-- The lines and the speeds are in order. -/
def State.tracksOk (s : State) : Prop := s.linesOk ∧ s.speedsOk

theorem State.linesOk_iff {s : State} : s.linesOk ↔
    (∀ b y h, (s.band b).lines = some (y, h) → y + h ≤ s.lines) ∧
    ∀ b b' y h y' h', b ≠ b' → (s.band b).lines = some (y, h) → (s.band b').lines = some (y', h') → y + h ≤ y' ∨ y' + h' ≤ y := by
  simp only [Band.lines_eq_some]
  constructor
  · rintro ⟨within, apart⟩
    refine ⟨?_, ?_⟩
    · rintro b _ _ ⟨on, c, config, rfl, rfl⟩
      exact within b c on config
    · rintro b b' _ _ _ _ other ⟨on, c, config, rfl, rfl⟩ ⟨on', c', config', rfl, rfl⟩
      exact apart b b' c c' other on on' config config'
  · rintro ⟨within, apart⟩
    exact ⟨fun b c on config => within b _ _ ⟨on, c, config, rfl, rfl⟩,
      fun b b' c c' other on on' config config' => apart b b' _ _ _ _ other ⟨on, c, config, rfl, rfl⟩ ⟨on', c', config', rfl, rfl⟩⟩

theorem Band.lines_of_seat {d e : Band} (h : e.seat = d.seat) : e.lines = d.lines := by
  obtain ⟨config, -, off, -⟩ : e.config = d.config ∧ e.speed = d.speed ∧ decide (e.prog = .off) = decide (d.prog = .off) ∧
      e.prog.drawing = d.prog.drawing := by simpa [Band.seat] using h
  simp only [Band.lines, config, decide_eq_decide.mp off]

theorem Band.speedOk.of_seat {d e : Band} (ok : d.speedOk) (h : e.seat = d.seat) : e.speedOk := by
  obtain ⟨config, speed, -, drawing⟩ : e.config = d.config ∧ e.speed = d.speed ∧
      decide (e.prog = .off) = decide (d.prog = .off) ∧ e.prog.drawing = d.prog.drawing := by simpa [Band.seat] using h
  rw [Band.speedOk_iff, config, speed, drawing]
  exact ok

/-- An operation that leaves every seat as it was. -/
theorem State.tracksOk.of_seats {s t : State} (ok : s.tracksOk) (h : t.seats = s.seats) : t.tracksOk := by
  have straps : t.straps = s.straps := congrArg Prod.fst h
  have seat : ∀ b, (t.band b).seat = (s.band b).seat := fun b => congrFun (congrArg Prod.snd h) b
  obtain ⟨lines, speeds⟩ := ok
  refine ⟨?_, fun b => (speeds b).of_seat (seat b)⟩
  have raster : t.lines = s.lines := by rw [State.lines, straps]; rfl
  rw [State.linesOk_iff] at lines ⊢
  simp only [fun b => Band.lines_of_seat (seat b), raster]
  exact lines

/-- R102, R103: a band on these lines stands within the raster and shares no line with another band. -/
def State.Clear (b : Fin 4) (s : State) (l : Option (Nat × Nat)) : Prop :=
  ∀ y h, l = some (y, h) → y + h ≤ s.lines ∧
    ∀ k y' h', k ≠ b → (s.band k).lines = some (y', h') → y + h ≤ y' ∨ y' + h' ≤ y

theorem State.tracksOk.clear {s : State} (ok : s.tracksOk) (b : Fin 4) : s.Clear b (s.band b).lines := by
  obtain ⟨within, apart⟩ := State.linesOk_iff.mp ok.1
  exact fun y h own => ⟨within b y h own, fun k y' h' other theirs => apart b k y h y' h' other.symm own theirs⟩

/-- One band alone changes: its speed is in order, and the lines that it stands on are clear. -/
theorem State.tracksOk.of_beside {b : Fin 4} {s t : State} (ok : s.tracksOk) (straps : t.straps = s.straps) (others : s.Beside b t)
    (speed : (t.band b).speedOk) (clear : s.Clear b (t.band b).lines) : t.tracksOk := by
  obtain ⟨within, apart⟩ := State.linesOk_iff.mp ok.1
  have raster : t.lines = s.lines := by rw [State.lines, straps]; rfl
  refine ⟨State.linesOk_iff.mpr ⟨fun k y h l => ?_, fun k k' y h y' h' other l l' => ?_⟩, fun k => ?_⟩
  · rw [raster]
    by_cases e : k = b
    · subst e
      exact (clear y h l).1
    · rw [others.band k e] at l
      exact within k y h l
  · by_cases e : k = b
    · subst e
      rw [others.band k' other.symm] at l'
      exact (clear y h l).2 k' y' h' other.symm l'
    · rw [others.band k e] at l
      by_cases e' : k' = b
      · subst e'
        exact ((clear y' h' l').2 k y h e l).symm
      · rw [others.band k' e'] at l'
        exact apart k k' y h y' h' other l l'
  · by_cases e : k = b
    · exact e ▸ speed
    · rw [others.band k e]
      exact ok.2 k

theorem State.tracksOk.updBand {b : Fin 4} {s : State} {f : Band → Band} (ok : s.tracksOk) (speed : (f (s.band b)).speedOk)
    (clear : s.Clear b (f (s.band b)).lines) : (s.updBand b f).tracksOk :=
  ok.of_beside rfl (beside_updBand s b f) (by rwa [State.updBand_band_self]) (by rwa [State.updBand_band_self])

/-! ### What leaves every seat as it was -/

theorem State.seats_of_programme {s t : State} (h : t.programme = s.programme) : t.seats = s.seats := by
  have straps : t.straps = s.straps := congrArg Prod.fst h
  simp only [State.seats, straps, State.band_of_programme h]

theorem updBand_seats (s : State) (b : Fin 4) (f : Band → Band) (h : (f (s.band b)).seat = (s.band b).seat := by rfl) :
    (s.updBand b f).seats = s.seats := by
  refine congrArg (Prod.mk s.straps) (funext fun k => ?_)
  rw [State.updBand_band]
  split
  · next e => rw [h, e]
  · rfl

@[simp] theorem raise_seats (s : State) (k : EventKind) (src : EventSource) : (s.raise k src).seats = s.seats := rfl

@[simp] theorem swapBanks_seats (b : Fin 4) (s : State) : (swapBanks b s).seats = s.seats :=
  updBand_seats (s.updLists b (fun r => { r with onAirB := !r.onAirB, commit := none })) b
    (fun d => { d with cursor := 0, saved := d.saved.map (fun _ => 0) })

@[simp] theorem swapIf_seats (p : CommitMode → Bool) (b : Fin 4) (s : State) : (swapIf p b s).seats = s.seats := by
  unfold swapIf
  split
  · exact swapBanks_seats b s
  · rfl

@[simp] theorem removeFront_seats (b : Fin 4) (n : Nat) (s : State) : (removeFront b n s).seats = s.seats :=
  (State.seats_of_programme (reportRemovals_programme ..)).trans (updBand_seats s b _)

@[simp] theorem addInstance_seats (b : Fin 4) (x : Inst) (s : State) : (addInstance b x s).seats = s.seats :=
  (State.seats_of_programme (reportCreation_programme ..)).trans (updBand_seats s b _)

@[simp] theorem admitInst_seats (b : Fin 4) (x : Inst) (s : State) : (admitInst b x s).seats = s.seats :=
  (addInstance_seats ..).trans (updBand_seats s b _)

@[simp] theorem advanceCursor_seats (b : Fin 4) (s : State) : (advanceCursor b s).seats = s.seats := by
  unfold advanceCursor
  split
  · rw [swapIf_seats, raise_seats]
    exact updBand_seats s b _
  · exact updBand_seats s b _

@[simp] theorem deferAdmission_seats (b : Fin 4) (s : State) : (deferAdmission b s).seats = s.seats := by
  unfold deferAdmission
  split
  · rfl
  · exact updBand_seats s b (fun d => { d with deferral := true })

/-- A band goes from one drawing state to another. -/
theorem changeProg_seats {s : State} {b : Fin 4} {p : Prog} (drawing : (s.band b).prog.drawing = true) (draws : p.drawing = true) :
    (changeProg b p s).seats = s.seats := by
  have on : ∀ {q : Prog}, q.drawing = true → q ≠ .off := fun h e => by
    rw [e] at h
    cases h
  refine updBand_seats s b (fun d => { d with prog := p }) ?_
  simp [Band.seat, drawing, draws, on drawing, on draws]

/-- So it does when another update goes before. -/
theorem updBand_changeProg_seats {s : State} {b : Fin 4} {p q : Prog} {f : Band → Band} (prog : (s.band b).prog = q)
    (drawing : q.drawing = true := by rfl) (draws : p.drawing = true := by rfl)
    (same : (f (s.band b)).seat = (s.band b).seat := by rfl) : (changeProg b p (s.updBand b f)).seats = s.seats := by
  refine (changeProg_seats ?_ draws).trans (updBand_seats s b f same)
  rw [State.updBand_band_self]
  exact (congrArg (fun t => t.2.2.2) same).trans (prog ▸ drawing)

@[simp] theorem endBreaks_seats (b : Fin 4) (s : State) : (endBreaks b s).seats = s.seats := by
  unfold endBreaks
  split
  · split
    · next breaking => exact updBand_changeProg_seats breaking
    · rfl
  · rfl

@[simp] theorem considerBreak_seats (c : BandConfig) (b : Fin 4) (e : BreakEntry) (rest : List BreakEntry) (s : State) :
    (considerBreak c b e rest s).seats = s.seats := by
  unfold considerBreak
  rw [endBreaks_seats]
  split
  · exact (updBand_seats _ b _).trans (admitInst_seats ..)
  · exact updBand_seats s b (fun d => { d with breaks := rest })

@[simp] theorem considerItem_seats (c : BandConfig) (b : Fin 4) (i : Item) (s : State) :
    (considerItem c b i s).seats = s.seats := by
  unfold considerItem
  rw [advanceCursor_seats]
  split
  · exact admitInst_seats ..
  · rfl

@[simp] theorem admitLoop_seats (c : BandConfig) (b : Fin 4) (fuel : Nat) : ∀ (skips : Nat) (s : State),
    (admitLoop c b fuel skips s).seats = s.seats := by
  induction fuel with
  | zero => exact fun _ _ => rfl
  | succ fuel ih =>
    intro skips s
    unfold admitLoop
    repeat' split
    all_goals simp [ih]

@[simp] theorem admissionStep_seats (c : BandConfig) (b : Fin 4) (s : State) : (admissionStep c b s).seats = s.seats := by
  unfold admissionStep
  dsimp only
  split <;> simp

@[simp] theorem moveStep_seats (b : Fin 4) (s : State) : (moveStep b s).seats = s.seats :=
  (removeFront_seats ..).trans (updBand_seats s b _)

theorem clearingEndStep_seats (b : Fin 4) (s : State) : (clearingEndStep b s).seats = s.seats := by
  unfold clearingEndStep
  split
  · next cleared => exact changeProg_seats (by rw [cleared.1]; rfl) rfl
  · rfl

@[simp] theorem buildLoop_seats (c : BandConfig) (b : Fin 4) (voffset : Int) (fuel : Nat) :
    ∀ (taken used lastGap skips : Nat) (s : State), (buildLoop c b voffset fuel taken used lastGap skips s).2.seats = s.seats := by
  induction fuel with
  | zero => exact fun _ _ _ _ _ => rfl
  | succ fuel ih =>
    intro taken used lastGap skips s
    unfold buildLoop
    dsimp only
    repeat' split
    all_goals simp [ih]

@[simp] theorem pageBuild_seats (c : BandConfig) (b : Fin 4) (voffset : Int) (s : State) :
    (pageBuild c b voffset s).2.seats = s.seats := by
  unfold pageBuild
  dsimp only
  repeat' split
  all_goals simp

@[simp] theorem updPage_seats (b : Fin 4) (f : Page → Page) (s : State) : (updPage b f s).seats = s.seats :=
  updBand_seats s b _

@[simp] theorem setRoll_seats (c : BandConfig) (b : Fin 4) (k : Nat) (s : State) : (setRoll c b k s).seats = s.seats :=
  updBand_seats s b _

@[simp] theorem settlePage_seats (c : BandConfig) (b : Fin 4) (n : Nat) (s : State) : (settlePage c b n s).seats = s.seats :=
  updPage_seats ..

@[simp] theorem enterLeaving_seats (c : BandConfig) (b : Fin 4) (s : State) : (enterLeaving c b s).seats = s.seats :=
  (setRoll_seats ..).trans (updPage_seats ..)

@[simp] theorem expirePage_seats (c : BandConfig) (b : Fin 4) (s : State) : (expirePage c b s).seats = s.seats := by
  unfold expirePage
  dsimp only
  repeat' split
  all_goals simp

@[simp] theorem bumpFree_seats (s : State) : s.bumpFree.seats = s.seats := rfl

@[simp] theorem endRoll_seats (c : BandConfig) (b : Fin 4) (s : State) : (endRoll c b s).seats = s.seats := by
  unfold endRoll
  dsimp only
  rw [bumpFree_seats, updPage_seats]
  exact (updBand_seats _ b _).trans (removeFront_seats ..)

@[simp] theorem endLeaving_seats (c : BandConfig) (b : Fin 4) (s : State) : (endLeaving c b s).seats = s.seats := by
  unfold endLeaving
  dsimp only
  split <;> simp

/-- R140: a page step changes neither the speed nor the configuration, and its band goes on drawing. -/
theorem pageStep_seats (c : BandConfig) (b : Fin 4) (s : State) : (pageStep c b s).seats = s.seats := by
  unfold pageStep holdStep rollStep leavingStep
  dsimp only
  repeat' split
  all_goals simp

/-! ### What changes a seat -/

theorem rampToward_le {target accel speed m : Nat} (h : target ≤ m) (k : speed ≤ m) : rampToward target accel speed ≤ m := by
  unfold rampToward
  split <;> omega

theorem Band.effectiveTarget_le {d : Band} {c : BandConfig} (ranges : c.inRange) : d.effectiveTarget c ≤ Config.speedMax := by
  obtain ⟨target, clear, -⟩ := ranges
  unfold Band.effectiveTarget
  repeat' split
  · exact Nat.zero_le _
  · exact clear
  · exact target

/-- R113: the ramp moves the speed of a drawing band toward a target within its range. -/
theorem State.tracksOk.rampStep {b : Fin 4} {c : BandConfig} {s : State} (ok : s.tracksOk) (config : (s.band b).config = some c)
    (drawing : (s.band b).prog.drawing = true) : (rampStep c b s).tracksOk := by
  obtain ⟨speed, -, ranges⟩ := Band.speedOk_iff.mp (ok.2 b)
  refine ok.updBand ?_ (ok.clear b)
  exact ⟨rampToward_le (Band.effectiveTarget_le (ranges c config)) speed, fun idle => absurd (drawing.symm.trans idle) nofun, ranges⟩

/-- R96: a band enters READY with speed 0, on lines that are clear. -/
theorem State.tracksOk.enterReady {b : Fin 4} {s : State} {f : Band → Band} (ok : s.tracksOk) (speed : (f (s.band b)).speed = 0)
    (ranges : ∀ c, (f (s.band b)).config = some c → c.inRange)
    (clear : s.Clear b ((f (s.band b)).config.map (fun c => (c.yOrigin, c.height)))) :
    (enterReady b (s.updBand b f)).tracksOk := by
  rw [enterReady_updBand]
  suffices ready : (s.readied b f).tracksOk by
    split
    · exact ready.of_seats (swapBanks_seats ..)
    · exact ready
  refine ok.of_beside rfl (beside_readied ..) ?_ ?_ <;> rw [readied_band_self]
  · exact ⟨by rw [speed]; exact Nat.zero_le _, fun _ => speed, ranges⟩
  · exact clear

/-- R96: so does a band that was drawing, with the configuration that it had. -/
theorem State.tracksOk.stop {b : Fin 4} {s : State} {f : Band → Band} (ok : s.tracksOk) (on : (s.band b).prog ≠ .off)
    (speed : (f (s.band b)).speed = 0) (config : (f (s.band b)).config = (s.band b).config) :
    (Machine.enterReady b (s.updBand b f)).tracksOk := by
  obtain ⟨-, -, ranges⟩ := Band.speedOk_iff.mp (ok.2 b)
  have clear := ok.clear b
  rw [Band.lines, if_neg on] at clear
  exact ok.enterReady speed (by rwa [config]) (by rwa [config])

theorem State.tracksOk.drainEndStep {s : State} (ok : s.tracksOk) (b : Fin 4) : (drainEndStep b s).tracksOk := by
  unfold Machine.drainEndStep
  split
  · next ended => exact ok.stop (by rw [ended.1]; nofun) rfl rfl
  · exact ok

/-- R102: a record without a bad row is stored within the ranges. -/
theorem BandConfig.Stores.inRange {c : ConfigRecord} {k : BandConfig} {lines : Nat} {loaded : Bool} (h : k.Stores c)
    (good : firstBadRow lines loaded c = none) : k.inRange ∧ c.yOrigin + c.height ≤ lines := by
  rw [firstBadRow_eq_none] at good
  simp only [configTests, List.forall_mem_cons, Bool.and_eq_true, decide_eq_true_eq] at good
  obtain ⟨-, raster, height, -, -, -, -, hold, -, roll, -⟩ := good
  obtain ⟨-, -, eheight, -, -, -, -, egap, equantum, etarget, eaccel, eclear, efade, -, -, ehold, -, eroll, -⟩ := h
  refine ⟨?_, raster⟩
  unfold BandConfig.inRange Config.speedMax
  rw [eheight, egap, equantum, etarget, eaccel, eclear, efade, ehold, eroll]
  refine ⟨?_, ?_, ?_, ?_, ?_, ?_, ?_, ?_, hold, roll.1, roll.2, height.1, height.2⟩ <;> (try split) <;> omega

/-- R103: CONFIGURE takes lines that no other band holds. -/
theorem State.tracksOk.takeConfigure {s : State} (ok : s.tracksOk) (b : Fin 4) (c : ConfigRecord) :
    (takeConfigure b c s).2.tracksOk := by
  unfold Machine.takeConfigure
  split
  · exact ok
  · next idle =>
    split
    · exact ok
    · next good =>
      split
      · exact ok
      · next free =>
        obtain ⟨k, stored, as⟩ := exists_storedConfig good
        obtain ⟨ranges, raster⟩ := as.inRange good
        obtain ⟨-, ey, eh, -⟩ := as
        have clear : s.Clear b (some (k.yOrigin, k.height)) := by
          intro y h lines
          obtain ⟨rfl, rfl⟩ : k.yOrigin = y ∧ k.height = h := by simpa using lines
          rw [ey, eh]
          refine ⟨raster, fun o y' h' other lines => ?_⟩
          obtain ⟨on, k', config, rfl, rfl⟩ := Band.lines_eq_some.mp lines
          have apart : ¬ (c.yOrigin < k'.yOrigin + k'.height ∧ k'.yOrigin < c.yOrigin + c.height) := fun meet =>
            free (State.overlaps_iff.mpr ⟨o, k', other, on, config, meet⟩)
          omega
        obtain ⟨most, still, -⟩ := Band.speedOk_iff.mp (ok.2 b)
        have drawing : (s.band b).prog.drawing = false := by
          cases e : (s.band b).prog <;> simp_all [Prog.drawing]
        have one : ∀ k', storedConfig c = some k' → k'.inRange := fun k' e => by
          cases stored.symm.trans e
          exact ranges
        show State.tracksOk (if _ then _ else _)
        split
        · exact ok.enterReady (still drawing) one (by dsimp only; rwa [stored])
        · next on =>
          refine ok.updBand ⟨most, still, one⟩ ?_
          rwa [Band.lines, if_neg on, stored]

theorem State.tracksOk.takeRelease {s : State} (ok : s.tracksOk) (b : Fin 4) : (takeRelease b s).2.tracksOk := by
  unfold Machine.takeRelease
  split
  · next ready =>
    obtain ⟨most, still, -⟩ := Band.speedOk_iff.mp (ok.2 b)
    have off : (s.updBand b (fun d => { d with config := none, halted := false, cursor := 0, prog := .off })).tracksOk := by
      refine ok.updBand ⟨most, fun _ => still (by rw [ready]; rfl), nofun⟩ ?_
      rw [Band.lines, if_pos rfl]
      exact nofun
    show State.tracksOk (changeProg b .off (s.updBand b _))
    rw [changeProg_updBand]
    exact off.of_seats (raise_seats ..)
  · exact ok

/-- R108: a band taken on from READY starts at its target. -/
theorem State.tracksOk.takeTakeOn {s : State} (ok : s.tracksOk) (sampled : Bool) (b : Fin 4) (fromTop : Bool) :
    (takeTakeOn sampled b fromTop s).2.tracksOk := by
  obtain ⟨-, -, ranges⟩ := Band.speedOk_iff.mp (ok.2 b)
  unfold Machine.takeTakeOn
  extract_lets top
  split
  case h_1 ready =>
    split
    · exact ok
    · next c config =>
      have speed : takeOnSpeed (s.band b) c ≤ Config.speedMax := by
        unfold takeOnSpeed
        split
        · exact Band.effectiveTarget_le (ranges c config)
        · exact Nat.zero_le _
      have clear := ok.clear b
      rw [Band.lines, if_neg (by rw [ready]; nofun)] at clear
      have on : (s.updBand b (fun d => { top d with speed := takeOnSpeed d c, prog := .running })).tracksOk :=
        ok.updBand ⟨speed, nofun, ranges⟩ clear
      show State.tracksOk (changeProg b .running (State.setVis _ b _))
      rw [changeProg, State.setVis_updBand, State.updBand_updBand]
      exact on.of_seats rfl
  case h_2 draining => exact ok.of_seats (updBand_changeProg_seats draining)
  all_goals exact ok

theorem State.tracksOk.takeTakeOffDrain {s : State} (ok : s.tracksOk) (b : Fin 4) : (takeTakeOffDrain b s).2.tracksOk := by
  unfold Machine.takeTakeOffDrain
  split
  case h_1 running => exact ok.of_seats (updBand_changeProg_seats running)
  case h_2 clearing => exact ok.of_seats (updBand_changeProg_seats clearing)
  case h_3 breaking => exact ok.of_seats (updBand_changeProg_seats breaking)
  all_goals exact ok

theorem State.tracksOk.takeTakeOffCut {s : State} (ok : s.tracksOk) (b : Fin 4) : (takeTakeOffCut b s).2.tracksOk := by
  unfold Machine.takeTakeOffCut
  split
  · next drawing =>
    refine State.tracksOk.stop (ok.of_seats (removeFront_seats ..)) ?_ rfl rfl
    rw [removeFront_band_self]
    intro off
    dsimp only at off
    rw [off] at drawing
    cases drawing
  · exact ok

theorem State.tracksOk.takeHalted {s : State} (ok : s.tracksOk) (b : Fin 4) (halted : Bool) :
    (takeHalted b halted s).2.tracksOk := by
  unfold Machine.takeHalted
  split
  · exact ok
  · exact ok.of_seats (updBand_seats s b _)

/-- R112: a speed target moves within its range. -/
theorem State.tracksOk.takeTarget {s : State} (ok : s.tracksOk) (b : Fin 4) {f : Nat → Nat}
    (within : ∀ v ≤ Config.speedMax, f v ≤ Config.speedMax) : (takeTarget b f s).2.tracksOk := by
  unfold Machine.takeTarget
  split
  · exact ok
  · obtain ⟨most, still, ranges⟩ := Band.speedOk_iff.mp (ok.2 b)
    refine ok.updBand ⟨most, still, fun k stored => ?_⟩ ?_
    · obtain ⟨c, config, rfl⟩ := Option.map_eq_some_iff.mp stored
      obtain ⟨target, rest⟩ := ranges c config
      exact ⟨within _ target, rest⟩
    · have same : ({ s.band b with config := (s.band b).config.map (fun c => { c with speedTarget := f c.speedTarget }) } : Band).lines =
          (s.band b).lines := by
        unfold Band.lines
        rw [Option.map_map]
        rfl
      exact same ▸ ok.clear b

theorem nudged_le (up : Bool) {v : Nat} (h : v ≤ Config.speedMax) : nudged up v ≤ Config.speedMax := by
  unfold nudged
  split <;> omega

theorem takeCommit_seats (b : Fin 4) (m : CommitMode) (s : State) : (takeCommit b m s).seats = s.seats := by
  unfold takeCommit
  split
  · rfl
  · exact swapBanks_seats b s

theorem takeBreak_seats (b : Fin 4) (e : BreakEntry) (s : State) : (takeBreak b e s).2.seats = s.seats := by
  unfold takeBreak
  dsimp only
  repeat' split
  · rfl
  · rfl
  · rfl
  · next now =>
    rw [State.updBand_updBand]
    exact updBand_changeProg_seats now.2
  · exact updBand_seats s b _

theorem takeBreakClear_seats (b : Fin 4) (s : State) : (takeBreakClear b s).2.seats = s.seats := by
  unfold takeBreakClear
  split
  · rfl
  · split
    case h_1 clearing => exact updBand_changeProg_seats clearing
    case h_2 breaking => exact updBand_changeProg_seats breaking
    case h_3 => exact updBand_seats s b _
    all_goals rfl

theorem State.tracksOk.judgeRequest {s : State} (ok : s.tracksOk) (sampled : Bool) (b : Fin 4) (r : BandRequest) :
    (judgeRequest sampled b r s).2.tracksOk := by
  cases r with
  | configure c => exact ok.takeConfigure b c
  | release => exact ok.takeRelease b
  | takeOn fromTop => exact ok.takeTakeOn sampled b fromTop
  | takeOffDrain => exact ok.takeTakeOffDrain b
  | takeOffCut => exact ok.takeTakeOffCut b
  | halt => exact ok.takeHalted b true
  | resume => exact ok.takeHalted b false
  | setSpeed v => exact ok.takeTarget b (fun _ _ => Nat.min_le_left _ _)
  | nudge up => exact ok.takeTarget b (fun _ h => nudged_le up h)
  | commit m => exact ok.of_seats (takeCommit_seats b m s)
  | brk story repeats urgency => exact ok.of_seats (takeBreak_seats b _ s)
  | breakClear => exact ok.of_seats (takeBreakClear_seats b s)

/-! ### Every step of the bands -/

theorem State.Still.seats {s t : State} (h : s.Still t) : t.seats = s.seats := by
  have seat : ∀ b, (t.band b).seat = (s.band b).seat := fun b => by
    obtain ⟨q, own⟩ := h.band b
    rw [own]
    rfl
  simp only [State.seats, h.straps, seat]

/-- R101: after a reset every band is OFF and stands still. -/
theorem State.tracksOk_of_reset {t : State} (bands : t.bands = Vector.replicate 4 Band.reset) : t.tracksOk := by
  have reset : ∀ b, t.band b = Band.reset := fun b => by rw [State.band, bands, tget_replicate]
  have lines : ∀ b, (t.band b).lines = none := fun b => by rw [reset]; rfl
  refine ⟨State.linesOk_iff.mpr ⟨fun b _ _ l => absurd ((lines b).symm.trans l) nofun,
    fun b _ _ _ _ _ _ l _ => absurd ((lines b).symm.trans l) nofun⟩, fun b => ?_⟩
  rw [reset]
  exact ⟨Nat.zero_le _, fun _ => rfl, nofun⟩

theorem BandStep.tracksOk {s t : State} (step : BandStep s t) (ok : s.tracksOk) : t.tracksOk := by
  cases step with
  | still h => exact ok.of_seats h.seats
  | reset bands _ => exact State.tracksOk_of_reset bands
  | request sampled b r => exact ok.judgeRequest sampled b r
  | swap b => exact ok.of_seats (swapBanks_seats b s)
  | @crawl c b config crawl drawing =>
    have moved := (ok.rampStep config drawing).of_seats (moveStep_seats b _)
    have admitted := moved.of_seats (admissionStep_seats c b _)
    exact (admitted.drainEndStep b).of_seats (clearingEndStep_seats b _)
  | page b config flip drawing => exact ok.of_seats (pageStep_seats ..)
  | drainEnd b => exact ok.drainEndStep b
  | clearingEnd b => exact ok.of_seats (clearingEndStep_seats b s)

/-- Settles O57: every single step of the bands (`BandStep`) keeps the lines and the speeds, and so does every step. -/
theorem everyStepKeepsLinesAndSpeeds : Obligations.EveryStepKeepsLinesAndSpeeds := by
  unfold Obligations.EveryStepKeepsLinesAndSpeeds
  exact fun _ _ ok h => step_keeps_bands BandStep.tracksOk h ok

end Sys2Proof.Machine

/-! SUPPORT for O42 and O48. CONFIGURE judged row by row, and the window after the move step. -/

namespace Sys2Proof.Machine

/-! ### CONFIGURE and RELEASE -/

theorem presentationOf_isSome {n : Nat} : (presentationOf n).isSome = true ↔ n ≤ 1 := by
  match n with
  | 0 => simp [presentationOf]
  | 1 => simp [presentationOf]
  | n + 2 => simp [presentationOf]

theorem changeStyleOf_isSome {n : Nat} : (changeStyleOf n).isSome = true ↔ n ≤ 2 := by
  match n with
  | 0 => simp [changeStyleOf]
  | 1 => simp [changeStyleOf]
  | 2 => simp [changeStyleOf]
  | n + 3 => simp [changeStyleOf]

theorem transitionOf_isSome {n : Nat} : (transitionOf n).isSome = true ↔ n ≤ 1 := by
  match n with
  | 0 => simp [transitionOf]
  | 1 => simp [transitionOf]
  | n + 2 => simp [transitionOf]

theorem yesNoOf_isSome {n : Nat} : (yesNoOf n).isSome = true ↔ n ≤ 1 := by
  match n with
  | 0 => simp [yesNoOf]
  | 1 => simp [yesNoOf]
  | n + 2 => simp [yesNoOf]

/-- R102: the face is one of the four, and LOADED. -/
theorem State.faceLoaded_iff {s : State} {n : Nat} :
    s.faceLoaded n = true ↔ ∃ f : Fin 4, n = f.val ∧ (s.face f).loaded = true := by
  rw [State.faceLoaded, Option.any_eq_true]
  constructor
  · rintro ⟨f, face, loaded⟩
    exact ⟨f, (four_val face).symm, loaded⟩
  · rintro ⟨f, rfl, loaded⟩
    exact ⟨f, four_fin f, loaded⟩

/-- R102: the rows of the table marked BAD PARAM, each with its number, as conditions. -/
def State.configRows (s : State) (c : ConfigRecord) : List (Nat × Prop) :=
  [(1, c.presentation ≤ 1), (2, c.yOrigin + c.height ≤ s.lines), (3, 16 ≤ c.height ∧ c.height ≤ 256),
   (4, ∃ f : Fin 4, c.face = f.val ∧ (s.face f).loaded = true), (5, c.baseline < c.height), (13, c.changeStyle ≤ 2),
   (14, c.smooth ≤ 1), (15, 1 ≤ c.flipHold), (16, c.flipTransition ≤ 1), (17, 1 ≤ c.rollFrames ∧ c.rollFrames ≤ 64)]

theorem configRows_eq (s : State) (c : ConfigRecord) :
    s.configRows c = (configTests s.lines (s.faceLoaded c.face) c).map (fun t => (t.1, t.2 = true)) := by
  simp only [State.configRows, configTests, List.map_cons, List.map_nil, presentationOf_isSome, changeStyleOf_isSome,
    transitionOf_isSome, yesNoOf_isSome, State.faceLoaded_iff, Bool.and_eq_true, decide_eq_true_eq]

theorem firstBadRow_of_rows {s : State} {c : ConfigRecord} (h : ∀ x ∈ s.configRows c, x.2) :
    firstBadRow s.lines (s.faceLoaded c.face) c = none := by
  rw [configRows_eq] at h
  exact firstBadRow_eq_none.mpr (List.forall_mem_map.mp h)

/-- R103: the row named is the first that fails. -/
theorem firstBadRow_of_first {s : State} {c : ConfigRecord} {before after : List (Nat × Prop)} {n : Nat} {p : Prop}
    (rows : s.configRows c = before ++ (n, p) :: after) (pass : ∀ x ∈ before, x.2) (fail : ¬ p) :
    firstBadRow s.lines (s.faceLoaded c.face) c = some n := by
  rw [configRows_eq, List.map_eq_append_iff] at rows
  obtain ⟨front, rest, tests, rfl, rows⟩ := rows
  obtain ⟨t, back, rfl, row, -⟩ := List.map_eq_cons_iff.mp rows
  obtain ⟨rfl, rfl⟩ := Prod.mk.inj row
  have passed : front.find? (fun t => !t.2) = none := by
    simpa using List.forall_mem_map.mp pass
  rw [firstBadRow, tests, List.find?_append, passed, Option.none_or, List.find?_cons_of_pos (by simpa using fail)]
  rfl

theorem takeConfigure_of_idle {s : State} {b : Fin 4} {c : ConfigRecord} (idle : (s.band b).prog.drawing = false) :
    takeConfigure b c s = match firstBadRow s.lines (s.faceLoaded c.face) c with
      | some n => ((.badParam, [byteOf n, 0, 0, 0, 0]), s)
      | none =>
        if s.overlaps b c.yOrigin c.height then ((.badParam, [19, 0, 0, 0, 0]), s)
        else resultOnly .good (if (s.band b).prog = .off then enterReady b (s.updBand b (fun d => { d with config := storedConfig c }))
          else s.updBand b (fun d => { d with config := storedConfig c })) := by
  refine if_neg (fun on => ?_)
  cases e : (s.band b).prog <;> simp_all [Prog.drawing]

/-- Settles O42: CONFIGURE by the first bad row, by the lines, and by the program state; and RELEASE. -/
theorem configureAndRelease : Obligations.ConfigureAndRelease := by
  unfold Obligations.ConfigureAndRelease
  refine ⟨fun s ticket b c running => ?_, fun s ticket b running => ?_⟩
  · intro taken answer rows shares
    have answers : ∀ {r : Result} {v : List Byte} {t : State}, takeConfigure b c s = ((r, v), t) → taken = answer r v t := fun e =>
      congrArg Host.Outcome.next ((takeAlone_of_running _ b (.configure c) running).trans (by rw [judgeRequest, e]))
    have overlaps : s.overlaps b c.yOrigin c.height = true ↔ shares := State.overlaps_iff
    refine ⟨fun drawing => answers (if_pos ?_), fun idle => ⟨fun before after n p split pass fail => ?_, fun pass share => ?_,
      fun pass apart => ?_⟩⟩
    · constructor <;> intro e <;> rw [e] at drawing <;> cases drawing
    · exact answers (by rw [takeConfigure_of_idle idle, firstBadRow_of_first split pass fail])
    · exact answers (by rw [takeConfigure_of_idle idle, firstBadRow_of_rows pass]; exact if_pos (overlaps.mpr share))
    · have good := firstBadRow_of_rows pass
      obtain ⟨k, stored, stores⟩ := exists_storedConfig good
      have judged : takeConfigure b c s = _ := takeConfigure_of_idle idle
      rw [good, stored] at judged
      dsimp only at judged
      rw [if_neg (fun meet => apart (overlaps.mp meet))] at judged
      refine ⟨k, stores, fun ready => answers (judged.trans ?_), fun off none => answers (judged.trans ?_)⟩
      · rw [if_neg (by rw [ready]; nofun)]
        rfl
      · rw [if_pos off, enterReady_updBand, if_neg (not_not.mpr none)]
        rfl
  · have answers : ∀ {r : Result} {t : State}, takeRelease b s = resultOnly r t →
        exec (.release ticket b) s = .next (deliver (.editorial ticket) b r noValues t) := fun e =>
      congrArg Host.Outcome.next ((takeAlone_of_running _ b .release running).trans (by rw [judgeRequest, e]; rfl))
    refine ⟨fun ready => answers ?_, fun other => answers (if_neg other)⟩
    rw [takeRelease, if_pos ready, changeProg_updBand]

/-! ### Ramp and move -/

theorem drop_exitCount (w : List Inst) : w.drop (exitCount w) = w.dropWhile Inst.gone := by
  have split := List.drop_left (l₁ := w.takeWhile Inst.gone) (l₂ := w.dropWhile Inst.gone)
  rwa [List.takeWhile_append_dropWhile] at split

theorem Inst.gone_iff {i : Inst} : i.gone = true ↔ i.x + (i.slot : Int) * 256 ≤ 0 := by
  rw [Inst.gone, decide_eq_true_eq, Inst.rightEnd, Nat.cast_mul]
  rfl

/-- R115: what the move step makes of its band. -/
theorem moveStep_band_self (b : Fin 4) (s : State) :
    (moveStep b s).band b = { s.band b with window := (s.band b).shifted.window.dropWhile Inst.gone } := by
  rw [moveStep]
  dsimp only
  rw [removeFront_band_self, State.updBand_band_self, drop_exitCount]
  rfl

theorem beside_moveStep (b : Fin 4) (s : State) : s.Beside b (moveStep b s) := (beside_updBand ..).trans (beside_removeFront ..)

/-- Settles O48: the speed by the ramp, and the window moved by it, without the instances in front that have left. -/
theorem crawlMotion : Obligations.CrawlMotion := by
  unfold Obligations.CrawlMotion
  intro s b c d t target
  have ramped : (rampStep c b s).band b = { d with speed := rampToward target c.accel d.speed } := State.updBand_band_self ..
  have own : t.band b = _ := moveStep_band_self b (rampStep c b s)
  rw [ramped] at own
  have others : s.Beside b t := (beside_updBand ..).trans (beside_moveStep ..)
  rw [own]
  refine ⟨rfl, ⟨_, List.takeWhile_append_dropWhile.symm, fun i left => ?_, fun i head => ?_⟩, rfl, others.band⟩
  · exact Inst.gone_iff.mp (List.mem_takeWhile_imp left)
  · have first := List.head?_dropWhile_not Inst.gone ({ d with speed := rampToward target c.accel d.speed } : Band).shifted.window
    rw [head] at first
    exact not_le.mp (fun left => absurd (Inst.gone_iff.mpr left) (by simpa using first))

end Sys2Proof.Machine

/-! SUPPORT for O41. Requests join the queues: from the editorial link, with or without data, from the panel, and from a broadcast; and
a frame start takes a queue. -/

namespace Sys2Proof.Machine

/-! ### Joining a queue (R105) -/

theorem joinQueue_of_room {s : State} {b : Fin 4} (q : QueuedRequest) (room : (s.band b).queue.length < 8) :
    joinQueue b q s = (true, s.updBand b (fun d => { d with queue := d.queue ++ [q] })) := if_pos room

theorem joinQueue_of_full {s : State} {b : Fin 4} (q : QueuedRequest) (full : 8 ≤ (s.band b).queue.length) :
    joinQueue b q s = (false, s) := if_neg (not_lt.mpr full)

/-- R170: an editorial request that joins takes the next ticket. -/
def State.enrolled (b : Fin 4) (q : BandRequest) (s : State) : State :=
  { s.updBand b (fun d => { d with queue := d.queue ++ [⟨.editorial (s.eli.ticket + 1), q⟩] }) with
    eli := { s.eli with ticket := s.eli.ticket + 1 } }

theorem editorialJoin_of_room {s : State} {b : Fin 4} (q : BandRequest) (room : (s.band b).queue.length < 8) :
    editorialJoin b q s = (true, s.enrolled b q) := by
  unfold editorialJoin
  rw [joinQueue_of_room _ room]
  rfl

theorem editorialJoin_of_full {s : State} {b : Fin 4} (q : BandRequest) (full : 8 ≤ (s.band b).queue.length) :
    editorialJoin b q s = (false, s) := by
  unfold editorialJoin
  rw [joinQueue_of_full _ full]
  rfl

/-! ### The command phase of an editorial request -/

/-- R105, R127: the band request that the codes of a command spell. -/
def EdRequestCarries (r : EdRequest) (q : BandRequest) : Prop :=
  match r, q with
  | .release, .release => True
  | .takeOn f, .takeOn f' => f' = f
  | .takeOff m, .takeOffDrain => m = 0
  | .takeOff m, .takeOffCut => m = 1
  | .halt, .halt => True
  | .resume, .resume => True
  | .setSpeed v, .setSpeed v' => v' = v
  | .commit m, .commit .immediate => m = 0
  | .commit m, .commit .loopEnd => m = 1
  | .brk x k u, .brk x' k' .next => x' = x ∧ k' = k ∧ u = 0 ∧ x.index ≤ 255 ∧ 1 ≤ k ∧ k ≤ 15
  | .brk x k u, .brk x' k' .now => x' = x ∧ k' = k ∧ u = 1 ∧ x.index ≤ 255 ∧ 1 ≤ k ∧ k ≤ 15
  | .breakClear, .breakClear => True
  | _, _ => False

theorem commitModeOf_eq_some {n : Nat} {m : CommitMode} :
    commitModeOf n = some m ↔ n = match m with | .immediate => 0 | .loopEnd => 1 := by
  match n with
  | 0 => cases m <;> simp [commitModeOf]
  | 1 => cases m <;> simp [commitModeOf]
  | n + 2 => cases m <;> simp [commitModeOf]

theorem urgencyOf_eq_some {n : Nat} {u : Urgency} : urgencyOf n = some u ↔ n = match u with | .next => 0 | .now => 1 := by
  match n with
  | 0 => cases u <;> simp [urgencyOf]
  | 1 => cases u <;> simp [urgencyOf]
  | n + 2 => cases u <;> simp [urgencyOf]

theorem EdRequestValue_of_carries {r : EdRequest} {q : BandRequest} (h : EdRequestCarries r q) : EdRequestValue r = some q := by
  unfold EdRequestCarries at h
  split at h
  case h_13 => exact h.elim
  case h_8 | h_9 => subst h; rfl
  case h_10 | h_11 =>
    obtain ⟨rfl, rfl, rfl, within⟩ := h
    exact if_pos within
  case h_1 | h_5 | h_6 | h_12 => rfl
  all_goals
    subst h
    rfl

theorem EdRequestCarries_of_value {r : EdRequest} {q : BandRequest} (h : EdRequestValue r = some q) : EdRequestCarries r q := by
  unfold EdRequestValue at h
  split at h
  case h_10 m =>
    obtain ⟨mode, code, rfl⟩ := Option.map_eq_some_iff.mp h
    rw [commitModeOf_eq_some] at code
    cases mode <;> exact code
  case h_11 x k u =>
    split at h
    · next within =>
      obtain ⟨urgency, code, rfl⟩ := Option.map_eq_some_iff.mp h
      rw [urgencyOf_eq_some] at code
      cases urgency <;> exact ⟨rfl, rfl, code, within⟩
    · cases h
  case h_1 | h_6 => cases h
  all_goals
    cases h
    trivial

theorem EdRequestValue_eq_some {r : EdRequest} {q : BandRequest} : EdRequestValue r = some q ↔ EdRequestCarries r q :=
  ⟨EdRequestCarries_of_value, EdRequestValue_of_carries⟩

theorem dataUse_request {band : Nat} {r : EdRequest} (h : r ≠ .configure) : dataUse (.request band r) = .none := by
  cases r with
  | configure => exact absurd rfl h
  | _ => rfl

theorem editorialRequest_fin {b : Fin 4} {r : EdRequest} (n : Nat) (s : State) (h : r ≠ .configure) :
    editorialRequest b.val r n s = match EdRequestValue r with
      | none => (badParam, s)
      | some req =>
        let t := editorialJoin b req s
        if t.1 then (.wait, t.2) else (.answer .busy noValues, t.2) := by
  unfold editorialRequest
  rw [four_fin]
  exact if_neg h

theorem editorialRequest_configure {b : Fin 4} (n : Nat) (s : State) : editorialRequest b.val .configure n s =
    if n ≠ 96 then (badParam, s) else if 8 ≤ (s.band b).queue.length then (.answer .busy noValues, s) else (.receive, s) := by
  unfold editorialRequest
  rw [four_fin]
  rfl

/-- R105: before the queue is looked at, a request is refused for its band, its length or its codes. -/
theorem exec_request_refused {s : State} {h : EdHeader} {band : Nat} {r : EdRequest} (k : s.takesCommand)
    (bad : 3 < band ∨ (r = .configure ∧ h.dataLength ≠ 96) ∨ (r ≠ .configure ∧ h.dataLength ≠ 0) ∨
      (r ≠ .configure ∧ EdRequestValue r = none)) :
    exec (.bandRequestQueued (.editorial h band r)) s = .next (s.answers h (.request band r) .badParam noValues) := by
  refine congrArg Host.Outcome.next ?_
  by_cases l : lengthOk (.request band r) h.dataLength = true
  · rw [edCommand_eq k l (t := (badParam, s.takes .idle h (.request band r))) ?_, badParam, settle_answer_takes]
    show editorialRequest band r h.dataLength _ = _
    by_cases large : 3 < band
    · unfold editorialRequest
      rw [four_of_large large]
    · obtain ⟨b, rfl⟩ : ∃ b : Fin 4, b.val = band := ⟨⟨band, by omega⟩, rfl⟩
      rcases bad with high | ⟨rfl, length⟩ | ⟨other, length⟩ | ⟨other, none⟩
      · exact absurd high large
      · rw [editorialRequest_configure, if_pos length]
      · rw [lengthOk, dataUse_request other] at l
        exact absurd (of_decide_eq_true l) length
      · rw [editorialRequest_fin _ _ other, none]
  · exact edCommand_of_badLength k (by simpa using l)

/-- R105, R170: a request without data joins its queue, or is answered BUSY. -/
theorem exec_request_carried {s : State} {h : EdHeader} {b : Fin 4} {r : EdRequest} {q : BandRequest} (k : s.takesCommand)
    (zero : h.dataLength = 0) (value : EdRequestValue r = some q) :
    ((s.band b).queue.length < 8 → exec (.bandRequestQueued (.editorial h b.val r)) s =
      .next ((s.takes .executing h (.request b.val r)).enrolled b q)) ∧
    (8 ≤ (s.band b).queue.length → exec (.bandRequestQueued (.editorial h b.val r)) s =
      .next (s.answers h (.request b.val r) .busy noValues)) := by
  have other : r ≠ .configure := fun e => by
    rw [e] at value
    cases value
  have run : exec (.bandRequestQueued (.editorial h b.val r)) s = .next (settle (.request b.val r) h.dataLength
      (editorialRequest b.val r h.dataLength (s.takes .idle h (.request b.val r)))) :=
    congrArg Host.Outcome.next (edCommand_eq k (lengthOk_none (dataUse_request other) zero) rfl)
  rw [run, editorialRequest_fin _ _ other, value]
  dsimp only
  refine ⟨fun room => ?_, fun full => ?_⟩
  · rw [editorialJoin_of_room q (by exact room)]
    rfl
  · rw [editorialJoin_of_full q (by exact full)]
    rfl

/-! ### CONFIGURE takes its record (R103, R171) -/

/-- R171: bytes of a record before its last. -/
theorem receiveBytes_request {band : Nat} {r : EdRequest} (bytes : List Byte) : ∀ {s : State}, s.eli.phase = .dataOut →
    s.eli.command = some (.request band r) → s.eli.counter + bytes.length < s.eli.dataLength →
    receiveBytes bytes s = s.updEli (fun e => { e with data := e.data ++ bytes, counter := e.counter + bytes.length }) := by
  induction bytes with
  | nil =>
    intro s _ _ _
    show s = { s with eli := { s.eli with data := s.eli.data ++ [], counter := s.eli.counter } }
    rw [List.append_nil]
  | cons b t ih =>
    intro s phase command more
    rw [List.length_cons] at more
    have stored : storeByte (.request band r) s.eli.counter b s = s.updEli (fun e => { e with data := e.data ++ [b] }) := rfl
    rw [receiveBytes, receiveByte_more b phase command (by omega), stored,
      ih (by exact phase) (by exact command) (by show s.eli.counter + 1 + t.length < s.eli.dataLength; omega)]
    show ({ s with eli := { s.eli with data := s.eli.data ++ [b] ++ t, counter := s.eli.counter + 1 + t.length } } : State) = _
    rw [List.append_assoc, List.length_cons, Nat.add_assoc, Nat.add_comm 1]
    rfl

/-- R171: the last byte hands the record to its queue. -/
theorem receiveBytes_request_whole {band : Nat} {r : EdRequest} {bytes : List Byte} {s : State} (phase : s.eli.phase = .dataOut)
    (command : s.eli.command = some (.request band r)) (some_data : bytes ≠ [])
    (whole : s.eli.counter + bytes.length = s.eli.dataLength) : receiveBytes bytes s = completeConfigure band
      (s.updEli (fun e => { e with data := e.data ++ bytes, counter := e.counter + bytes.length })) := by
  obtain ⟨front, last, rfl⟩ := (List.eq_nil_or_concat' bytes).resolve_left some_data
  rw [List.length_append, List.length_singleton] at whole ⊢
  rw [receiveBytes_append, receiveBytes_request front phase command (by omega), receiveBytes, receiveBytes,
    receiveByte_last last (by exact phase) (by exact command) (by show s.eli.dataLength ≤ s.eli.counter + front.length + 1; omega)]
  show completeConfigure band { s with eli := { s.eli with data := s.eli.data ++ front ++ [last], counter := _ } } = _
  rw [List.append_assoc]
  rfl

theorem exec_dataOutFrame_request {s : State} {band : Nat} {r : EdRequest} {bytes : List Byte} (k : s.listens)
    (phase : s.eli.phase = .dataOut) (command : s.eli.command = some (.request band r)) (some_data : bytes ≠ [])
    (whole : s.eli.counter + bytes.length = s.eli.dataLength) :
    exec (.dataOutFrame bytes) s = .next (completeConfigure band (s.updEli (fun e => { e with
      dout := List.replicate (bytes.length + 1) 0, data := e.data ++ bytes, counter := e.counter + bytes.length }))) := by
  have inside : imagesOutside s = false := by
    unfold imagesOutside
    rw [phase, command]
  refine (if_neg (by simp [inside])).trans (congrArg Host.Outcome.next ((inPhase_of_phase _ _ k phase).trans ?_))
  exact receiveBytes_request_whole (s := driveZeros bytes.length s) phase command some_data whole

theorem completeConfigure_of_room {s : State} {b : Fin 4} (room : (s.band b).queue.length < 8) :
    completeConfigure b.val s = enterPhase .executing (s.enrolled b (.configure (configOf s.eli.data))) := by
  unfold completeConfigure
  rw [four_fin]
  dsimp only
  rw [editorialJoin_of_room _ room]
  rfl

theorem completeConfigure_of_full {s : State} {b : Fin 4} (full : 8 ≤ (s.band b).queue.length) :
    completeConfigure b.val s = finish ⟨.busy, 0, noValues⟩ s := by
  unfold completeConfigure
  rw [four_fin]
  dsimp only
  rw [editorialJoin_of_full _ full]
  rfl

/-- R103, R105: CONFIGURE at its command phase. -/
theorem exec_configure_queued {s : State} {h : EdHeader} {b : Fin 4} (k : s.takesCommand) (length : h.dataLength = 96) :
    (8 ≤ (s.band b).queue.length → exec (.bandRequestQueued (.editorial h b.val .configure)) s =
      .next (s.answers h (.request b.val .configure) .busy noValues)) ∧
    ((s.band b).queue.length < 8 → exec (.bandRequestQueued (.editorial h b.val .configure)) s =
      .next (s.takes .dataOut h (.request b.val .configure))) := by
  have run : exec (.bandRequestQueued (.editorial h b.val .configure)) s = .next (settle (.request b.val .configure) h.dataLength
      (editorialRequest b.val .configure h.dataLength (s.takes .idle h (.request b.val .configure)))) :=
    congrArg Host.Outcome.next (edCommand_eq k rfl rfl)
  rw [run, editorialRequest_configure, if_neg (not_not.mpr length)]
  refine ⟨fun full => ?_, fun room => ?_⟩
  · rw [if_pos (by exact full), settle_answer_takes]
  · rw [if_neg (by exact not_le.mpr room), settle_receive_takes (by omega)]

/-! ### Panel requests and broadcasts (R105, R178) -/

theorem panelRequest_of_room {s : State} {b : Fin 4} (r : BandRequest) (room : (s.band b).queue.length < 8) :
    panelRequest b r s = s.updBand b (fun d => { d with queue := d.queue ++ [⟨.panel, r⟩] }) := by
  unfold panelRequest
  rw [joinQueue_of_room _ room]
  rfl

theorem panelRequest_of_full {s : State} {b : Fin 4} (r : BandRequest) (full : 8 ≤ (s.band b).queue.length) :
    panelRequest b r s = s.raise .commandRefused (.band b) := by
  unfold panelRequest
  rw [joinQueue_of_full _ full]
  rfl

theorem panelRequest_band (b k : Fin 4) (r : BandRequest) (s : State) : (panelRequest b r s).band k =
    if b = k ∧ (s.band k).queue.length < 8 then { s.band k with queue := (s.band k).queue ++ [⟨.panel, r⟩] } else s.band k := by
  by_cases room : (s.band b).queue.length < 8
  · rw [panelRequest_of_room r room, State.updBand_band]
    by_cases e : b = k
    · subst e
      rw [if_pos rfl, if_pos ⟨rfl, room⟩]
    · rw [if_neg e, if_neg (fun both => e both.1)]
  · rw [panelRequest_of_full r (not_lt.mp room), if_neg (fun both : b = k ∧ _ => room (both.1 ▸ both.2))]
    rfl

/-- Between `s` and `t` no more changes than the bands and the attention unit. -/
def State.Asked (s t : State) : Prop := t = { s with bands := t.bands, au := t.au }

theorem State.Asked.trans {s t u : State} (h : s.Asked t) (k : t.Asked u) : s.Asked u := by
  unfold State.Asked at *
  rw [k, h]

theorem asked_panelRequest (b : Fin 4) (r : BandRequest) (s : State) : s.Asked (panelRequest b r s) := by
  by_cases room : (s.band b).queue.length < 8
  · rw [panelRequest_of_room r room]
    rfl
  · rw [panelRequest_of_full r (not_lt.mp room)]
    rfl

theorem panelRequest_au (b : Fin 4) (r : BandRequest) (s : State) : (panelRequest b r s).au =
    if decide (8 ≤ (s.band b).queue.length) then s.au.raise ⟨.commandRefused, .band b⟩ else s.au := by
  by_cases room : (s.band b).queue.length < 8
  · rw [panelRequest_of_room r room, if_neg (by simpa using room)]
    rfl
  · rw [panelRequest_of_full r (not_lt.mp room), if_pos (by simpa using room)]
    rfl

/-- R178: one panel request in the queue of each of several bands, in their order. -/
def panelRequests (r : BandRequest) (l : List (Fin 4)) (s : State) : State := l.foldl (fun u b => panelRequest b r u) s

/-- R105: each of the bands takes the request if its queue has room, and raises COMMAND REFUSED if not. -/
theorem panelRequests_spec (r : BandRequest) (l : List (Fin 4)) : ∀ (s : State), l.Nodup →
    s.Asked (panelRequests r l s) ∧ (∀ k, (panelRequests r l s).band k = if k ∈ l ∧ (s.band k).queue.length < 8 then
      { s.band k with queue := (s.band k).queue ++ [⟨.panel, r⟩] } else s.band k) ∧
    (panelRequests r l s).au = (l.filter (fun b => decide (8 ≤ (s.band b).queue.length))).foldl
      (fun au b => au.raise ⟨.commandRefused, .band b⟩) s.au := by
  induction l with
  | nil => exact fun s _ => ⟨rfl, fun k => (if_neg (fun both => nomatch both.1)).symm, rfl⟩
  | cons b l ih =>
    intro s nodup
    obtain ⟨fresh, rest⟩ := List.nodup_cons.mp nodup
    obtain ⟨frame, bands, au⟩ := ih (panelRequest b r s) rest
    have others : ∀ k, k ≠ b → (panelRequest b r s).band k = s.band k := fun k other => by
      rw [panelRequest_band, if_neg (fun both => other both.1.symm)]
    refine ⟨(asked_panelRequest b r s).trans frame, fun k => ?_, ?_⟩
    · refine (bands k).trans ?_
      by_cases e : k = b
      · subst e
        rw [if_neg (fun both => fresh both.1), panelRequest_band]
        simp only [List.mem_cons_self, true_and]
      · rw [others k e]
        simp only [List.mem_cons, e, false_or]
    · have same : l.filter (fun k => decide (8 ≤ ((panelRequest b r s).band k).queue.length)) =
          l.filter (fun k => decide (8 ≤ (s.band k).queue.length)) :=
        List.filter_congr fun k mem => by rw [others k (fun e => fresh (e ▸ mem))]
      refine au.trans ?_
      rw [same, panelRequest_au, List.filter_cons]
      split <;> rfl

/-- R178: a broadcast asks the four bands in their order. -/
theorem panelBroadcast_eq (r : BandRequest) (s : State) : panelBroadcast r s = panelRequests r (List.finRange 4) s := by
  have four : List.finRange 4 = [0, 1, 2, 3] := by decide
  simp only [panelBroadcast, panelRequests, four, List.foldl_cons, List.foldl_nil]

/-! ### A frame start takes a queue (R106) -/

/-- An answer other than GOOD leaves the state as it was. -/
structure RefusalKeeps (s : State) (t : (Result × List Byte) × State) : Prop where
  keeps : t.1.1 ≠ .good → t.2 = s

theorem RefusalKeeps.same (s : State) (a : Result × List Byte) : RefusalKeeps s (a, s) := ⟨fun _ => rfl⟩

theorem RefusalKeeps.good (s t : State) : RefusalKeeps s (resultOnly .good t) :=
  ⟨fun h => absurd rfl h⟩

theorem refusalKeeps_takeConfigure (b : Fin 4) (c : ConfigRecord) (s : State) : RefusalKeeps s (takeConfigure b c s) := by
  unfold takeConfigure
  split
  · exact .same ..
  · split
    · exact .same ..
    · split
      · exact .same ..
      · exact .good ..

theorem refusalKeeps_takeBreak (b : Fin 4) (e : BreakEntry) (s : State) : RefusalKeeps s (takeBreak b e s) := by
  unfold takeBreak
  split
  · exact .same ..
  · split
    · exact .same ..
    · split
      · exact .same ..
      · exact .good ..

theorem refusalKeeps_takeTakeOn (sampled : Bool) (b : Fin 4) (fromTop : Bool) (s : State) :
    RefusalKeeps s (takeTakeOn sampled b fromTop s) := by
  unfold takeTakeOn
  extract_lets top
  split
  case h_1 =>
    split
    · exact .same ..
    · exact .good ..
  case h_2 => exact .good ..
  all_goals exact .same ..

theorem refusalKeeps_takeTakeOffDrain (b : Fin 4) (s : State) : RefusalKeeps s (takeTakeOffDrain b s) := by
  unfold takeTakeOffDrain
  split
  case h_4 | h_5 | h_6 => exact .same ..
  all_goals exact .good ..

theorem refusalKeeps_takeBreakClear (b : Fin 4) (s : State) : RefusalKeeps s (takeBreakClear b s) := by
  unfold takeBreakClear
  split
  · exact .same ..
  · split
    case h_4 | h_5 | h_6 => exact .same ..
    all_goals exact .good ..

/-- R107: a request that is refused changes nothing. -/
theorem refusalKeeps_judgeRequest (sampled : Bool) (b : Fin 4) (r : BandRequest) (s : State) :
    RefusalKeeps s (judgeRequest sampled b r s) := by
  have either : ∀ (p : Prop) [Decidable p] (q : Result) (t : State),
      RefusalKeeps s (if p then resultOnly q s else resultOnly .good t) ∧
      RefusalKeeps s (if p then resultOnly .good t else resultOnly q s) := fun p _ q t => by
    by_cases h : p
    · rw [if_pos h, if_pos h]
      exact ⟨.same .., .good ..⟩
    · rw [if_neg h, if_neg h]
      exact ⟨.good .., .same ..⟩
  cases r with
  | configure c => exact refusalKeeps_takeConfigure b c s
  | release => exact (either ..).2
  | takeOn fromTop => exact refusalKeeps_takeTakeOn sampled b fromTop s
  | takeOffDrain => exact refusalKeeps_takeTakeOffDrain b s
  | takeOffCut => exact (either ..).2
  | halt => exact (either ..).1
  | resume => exact (either ..).1
  | setSpeed v => exact (either ..).1
  | nudge up => exact (either ..).1
  | commit m => exact .good ..
  | brk story repeats urgency => exact refusalKeeps_takeBreak b _ s
  | breakClear => exact refusalKeeps_takeBreakClear b s

/-- What stands in a band's request queue. -/
def State.queued (b : Fin 4) (s : State) : List QueuedRequest := (s.band b).queue

theorem queued_updBand (s : State) (b : Fin 4) (f : Band → Band) (h : (f (s.band b)).queue = (s.band b).queue := by rfl) :
    (s.updBand b f).queued b = s.queued b := by
  rw [State.queued, State.updBand_band_self, h]
  rfl

theorem queued_changeProg (b : Fin 4) (p : Prog) (s : State) : (changeProg b p s).queued b = s.queued b :=
  queued_updBand s b (fun d => { d with prog := p })

theorem queued_removeFront (b : Fin 4) (n : Nat) (s : State) : (removeFront b n s).queued b = s.queued b := by
  rw [State.queued, removeFront_band_self]
  rfl

theorem queued_swapBanks (b : Fin 4) (s : State) : (swapBanks b s).queued b = s.queued b := by
  rw [State.queued, swapBanks_band_self]
  rfl

theorem queued_enterReady (b : Fin 4) (s : State) : (enterReady b s).queued b = s.queued b := by
  have paged := queued_updBand s b (fun d => { d with page := Page.initial })
  unfold enterReady swapIf
  split
  · exact (queued_swapBanks ..).trans ((queued_changeProg ..).trans paged)
  · exact (queued_changeProg ..).trans paged

theorem queued_ite {c : Prop} [Decidable c] {b : Fin 4} {s t u : State} (h : t.queued b = s.queued b) (k : u.queued b = s.queued b) :
    (if c then t else u).queued b = s.queued b := by
  split
  · exact h
  · exact k

theorem queued_takeConfigure (b : Fin 4) (c : ConfigRecord) (s : State) : (takeConfigure b c s).2.queued b = s.queued b := by
  have set := queued_updBand s b (fun d => { d with config := storedConfig c })
  unfold takeConfigure
  dsimp only
  repeat' split
  · rfl
  · rfl
  · rfl
  · exact (queued_enterReady ..).trans set
  · exact set

theorem queued_takeRelease (b : Fin 4) (s : State) : (takeRelease b s).2.queued b = s.queued b := by
  unfold takeRelease
  split
  · exact (queued_changeProg ..).trans (queued_updBand s b (fun d => { d with config := none, halted := false, cursor := 0 }))
  · rfl

theorem queued_takeTakeOn (sampled : Bool) (b : Fin 4) (fromTop : Bool) (s : State) :
    (takeTakeOn sampled b fromTop s).2.queued b = s.queued b := by
  unfold takeTakeOn
  extract_lets top
  split
  case h_1 =>
    split
    · rfl
    · next c _ => exact (queued_changeProg ..).trans (queued_updBand s b (fun d => { top d with speed := takeOnSpeed d c }))
  case h_2 => exact (queued_changeProg ..).trans (queued_updBand s b top)
  all_goals rfl

theorem queued_takeTakeOffDrain (b : Fin 4) (s : State) : (takeTakeOffDrain b s).2.queued b = s.queued b := by
  unfold takeTakeOffDrain
  split
  case h_4 | h_5 | h_6 => rfl
  all_goals exact (queued_changeProg ..).trans (queued_updBand s b _)

theorem queued_takeTakeOffCut (b : Fin 4) (s : State) : (takeTakeOffCut b s).2.queued b = s.queued b := by
  unfold takeTakeOffCut
  split
  · exact (queued_enterReady ..).trans ((queued_updBand _ b _).trans (queued_removeFront ..))
  · rfl

theorem queued_takeHalted (b : Fin 4) (halted : Bool) (s : State) : (takeHalted b halted s).2.queued b = s.queued b := by
  unfold takeHalted
  split
  · rfl
  · exact queued_updBand s b _

theorem queued_takeTarget (b : Fin 4) (f : Nat → Nat) (s : State) : (takeTarget b f s).2.queued b = s.queued b := by
  unfold takeTarget
  split
  · rfl
  · exact queued_updBand s b _

theorem queued_takeBreak (b : Fin 4) (e : BreakEntry) (s : State) : (takeBreak b e s).2.queued b = s.queued b := by
  have placed := queued_updBand s b (fun d => { d with breaks := placeBreak e d.breaks })
  unfold takeBreak
  dsimp only
  repeat' split
  · rfl
  · rfl
  · rfl
  · exact (queued_changeProg ..).trans ((queued_updBand _ b _).trans placed)
  · exact placed

theorem queued_takeBreakClear (b : Fin 4) (s : State) : (takeBreakClear b s).2.queued b = s.queued b := by
  unfold takeBreakClear
  split
  · rfl
  · split
    case h_3 => exact queued_updBand s b _
    case h_4 | h_5 | h_6 => rfl
    all_goals exact (queued_changeProg ..).trans (queued_updBand s b _)

/-- The taking of a request puts none into the queue and takes none from it. -/
theorem queued_judgeRequest (sampled : Bool) (b : Fin 4) (r : BandRequest) (s : State) :
    (judgeRequest sampled b r s).2.queued b = s.queued b := by
  cases r with
  | configure c => exact queued_takeConfigure b c s
  | release => exact queued_takeRelease b s
  | takeOn fromTop => exact queued_takeTakeOn sampled b fromTop s
  | takeOffDrain => exact queued_takeTakeOffDrain b s
  | takeOffCut => exact queued_takeTakeOffCut b s
  | halt => exact queued_takeHalted b true s
  | resume => exact queued_takeHalted b false s
  | setSpeed v => exact queued_takeTarget b _ s
  | nudge up => exact queued_takeTarget b _ s
  | commit m => exact queued_ite rfl (queued_swapBanks b s)
  | brk story repeats urgency => exact queued_takeBreak b _ s
  | breakClear => exact queued_takeBreakClear b s

theorem queued_deliver (o : Origin) (b : Fin 4) (r : Result) (v : List Byte) (s : State) : (deliver o b r v s).queued b = s.queued b := by
  unfold deliver
  split
  · exact queued_ite rfl rfl
  · exact queued_ite rfl rfl

theorem takeRequests_eq (sampled : Bool) (b : Fin 4) (l : List QueuedRequest) : ∀ s : State, takeRequests sampled b l s =
    l.foldl (fun u q => takeRequest sampled q.origin b q.request u) s := by
  induction l with
  | nil => exact fun _ => rfl
  | cons q l ih => exact fun s => ih _

theorem queued_takeRequests (sampled : Bool) (b : Fin 4) (l : List QueuedRequest) : ∀ s : State,
    (takeRequests sampled b l s).queued b = s.queued b := by
  induction l with
  | nil => exact fun _ => rfl
  | cons q l ih => exact fun s => (ih _).trans ((queued_deliver ..).trans (queued_judgeRequest ..))

/-- R106: the queue is empty when its requests have been taken. -/
theorem takeQueue_queue (sampled : Bool) (b : Fin 4) (s : State) : ((takeQueue sampled b s).band b).queue = [] := by
  have taken : (takeQueue sampled b s).queued b = State.queued b (s.updBand b (fun d => { d with queue := [] })) :=
    queued_takeRequests ..
  exact taken.trans (congrArg Band.queue (State.updBand_band_self ..))

theorem bandFrameStart_of_idle {sampled : Bool} {b : Fin 4} {s : State}
    (idle : ((takeQueue sampled b s).band b).prog.drawing = false) : bandFrameStart sampled b s = takeQueue sampled b s := by
  rw [bandFrameStart]
  exact if_neg (by simp [idle])

/-- R114, R140: a band that draws takes the steps of its presentation. -/
theorem bandFrameStart_of_drawing {sampled : Bool} {b : Fin 4} {s : State} {c : BandConfig}
    (drawing : ((takeQueue sampled b s).band b).prog.drawing = true) (config : ((takeQueue sampled b s).band b).config = some c) :
    (c.presentation = .crawl → bandFrameStart sampled b s = crawlSteps c b (takeQueue sampled b s)) ∧
    (c.presentation = .flip → bandFrameStart sampled b s = flipSteps c b (takeQueue sampled b s)) := by
  rw [bandFrameStart, if_pos drawing, config]
  exact ⟨fun crawl => by simp only [crawl], fun flip => by simp only [flip]⟩

/-! ### The answer of a request (R106, R170) -/

theorem deliver_editorial {s : State} {ticket : Nat} {b : Fin 4} {r : Result} {v : List Byte} (phase : s.eli.phase = .executing)
    (same : s.eli.ticket = ticket) : deliver (.editorial ticket) b r v s =
      { s with eli := { s.eli with phase := .statusReady, status := some ⟨r, 0, v⟩ } } := if_pos ⟨phase, same⟩

theorem deliver_lost {s : State} {ticket : Nat} {b : Fin 4} {r : Result} {v : List Byte}
    (h : s.eli.phase ≠ .executing ∨ s.eli.ticket ≠ ticket) : deliver (.editorial ticket) b r v s = s :=
  if_neg (fun both => h.elim (absurd both.1) (absurd both.2))

/-- Settles O41: a request by its sender and the room in its queue, a frame start, and where an answer goes. -/
theorem requestsQueued : Obligations.RequestsQueued := by
  unfold Obligations.RequestsQueued
  intro carries joins
  have carried : ∀ r q, EdRequestValue r = some q ↔ carries r q := fun _ _ => EdRequestValue_eq_some
  refine ⟨fun s h b r k zero => ⟨fun q value => ?_, fun none => ?_⟩, fun s h band r k bad => ?_,
    fun s h b record k length record_length => ?_, fun s b last await full => ?_, fun s b r running => ?_,
    fun s i q running mem => ?_, fun s b sampled => ?_, fun s b r v ticket => ?_⟩
  · exact exec_request_carried k zero ((carried r q).mpr value)
  · by_cases configures : r = .configure
    · exact exec_request_refused k (.inr (.inl ⟨configures, by omega⟩))
    · refine exec_request_refused k (.inr (.inr (.inr ⟨configures, ?_⟩)))
      exact Option.eq_none_iff_forall_ne_some.mpr fun q value => none q ((carried r q).mp value)
  · exact exec_request_refused k (bad.imp_right (.imp_right .inl))
  · obtain ⟨busy, receives⟩ := exec_configure_queued (b := b) k length
    refine ⟨busy, fun room => ⟨_, _, receives room, rfl, exec_dataOutFrame_request k.1 rfl rfl ?_ ?_, ?_⟩⟩
    · rintro rfl
      cases record_length
    · show 0 + record.length = h.dataLength
      omega
    · rw [completeConfigure_of_room (by exact room)]
      exact ⟨rfl, rfl, rfl⟩
  · obtain ⟨listens, phase, command, counter⟩ := await
    rw [exec_dataOutFrame_request (bytes := [last]) listens phase command (List.cons_ne_nil _ _) counter,
      completeConfigure_of_full (by exact full)]
    rfl
  · have run : exec (.bandRequestQueued (.panel b r)) s = .next (panelRequest b (PanelRequest.toBand r) s) :=
      congrArg Host.Outcome.next (if_pos running)
    exact ⟨fun room => by rw [run, panelRequest_of_room _ room], fun full => by rw [run, panelRequest_of_full _ full]⟩
  · obtain ⟨frame, bands, au⟩ := panelRequests_spec q (List.finRange 4) s (List.nodup_finRange 4)
    refine ⟨panelRequests q (List.finRange 4) s, ?_, frame, fun k => ?_, au⟩
    · have run : exec i s = .next (whenRunning (panelBroadcast q) s) := by
        simp only [List.mem_cons, Prod.mk.injEq, List.not_mem_nil, or_false] at mem
        obtain ⟨rfl, rfl⟩ | ⟨rfl, rfl⟩ | ⟨rfl, rfl⟩ | ⟨rfl, rfl⟩ := mem <;> rfl
      rw [run, whenRunning, if_pos running, panelBroadcast_eq]
    · rw [bands k]
      simp only [List.mem_finRange, true_and]
  · refine ⟨takeRequests_eq .., takeQueue_queue .., fun r u => (refusalKeeps_judgeRequest sampled b r u).keeps, bandFrameStart_of_idle,
      fun c drawing config => ?_⟩
    obtain ⟨crawls, flips⟩ := bandFrameStart_of_drawing drawing config
    exact ⟨fun crawl => ⟨_, _, rfl, rfl, crawls crawl⟩, fun flip => congrArg Host.Outcome.next (flips flip).symm⟩
  · exact ⟨deliver_editorial, deliver_lost, rfl, fun refused => if_neg refused⟩

end Sys2Proof.Machine

/-! SUPPORT for O47. The page build as a chain of candidates: what one candidate does (`Build.Step`), where the build ends
(`Build.Ends`), and a measure that every candidate lessens. -/

namespace Sys2Proof.Machine

/-! ### The instances of a page (R142) -/

/-- The pixels that the instances of a page take, with the gaps between them. -/
def pageWidth (p : List Inst) : Nat := (p.map Inst.slot).sum + (p.dropLast.map Inst.gap).sum

/-- The gap behind the last instance of a page. -/
def pageGap (p : List Inst) : Nat := (p.getLast?.map Inst.gap).getD 0

/-- The X that the slot and the gap of the last instance give the next one, and 0 for the first. -/
def pageEnd (p : List Inst) : Int :=
  match p.getLast? with
  | none => 0
  | some i => i.x + ((i.slot : Int) + (i.gap : Int)) * 256

/-- The slot fits behind the last instance within `width`. -/
def pageFits (width : Nat) (p : List Inst) (slot : Nat) : Prop :=
  ∀ i, p.getLast? = some i → pageWidth p + i.gap + slot ≤ width

theorem pageWidth_concat (p : List Inst) (i : Inst) : pageWidth (p ++ [i]) = pageWidth p + pageGap p + i.slot := by
  rcases List.eq_nil_or_concat' p with rfl | ⟨l, j, rfl⟩
  · simp [pageWidth, pageGap]
  · simp only [pageWidth, pageGap, List.map_append, List.sum_append, List.dropLast_concat, List.getLast?_concat, Option.map_some,
      Option.getD_some, List.map_cons, List.map_nil, List.sum_cons, List.sum_nil]
    omega

theorem pageGap_concat (p : List Inst) (i : Inst) : pageGap (p ++ [i]) = i.gap := by simp [pageGap]

theorem pageEnd_concat (p : List Inst) (i : Inst) : pageEnd (p ++ [i]) = i.x + ((i.slot : Int) + (i.gap : Int)) * 256 := by
  simp [pageEnd]

theorem not_pageFits {width slot : Nat} {p : List Inst} :
    ¬ pageFits width p slot ↔ 0 < p.length ∧ width < pageWidth p + pageGap p + slot := by
  rcases List.eq_nil_or_concat' p with rfl | ⟨l, j, rfl⟩
  · simp [pageFits]
  · simp [pageFits, pageGap]

/-! ### One candidate -/

/-- R119: the cursor stands within the on-air bank after every advance. -/
theorem advanceCursor_within (b : Fin 4) (s : State) : ((advanceCursor b s).lists b).onAir = [] ∨
    ((advanceCursor b s).band b).cursor < ((advanceCursor b s).lists b).onAir.length := by
  rw [advanceCursor_cursor]
  by_cases wraps : s.wraps b = true
  · rw [if_pos wraps]
    exact or_iff_not_imp_left.mpr List.length_pos_of_ne_nil
  · have swaps : ¬ s.wrapSwaps b = true := by
      rw [State.wrapSwaps, Bool.eq_false_iff.mpr wraps]
      nofun
    rw [if_neg wraps, advanceCursor_lists_self, if_neg swaps]
    exact .inr (not_le.mp (by simpa [State.wraps] using wraps))

/-- Without a wrap the cursor moves by 1 within a bank that stays on air. -/
theorem advanceCursor_of_within {b : Fin 4} {s : State} (within : s.wraps b = false) :
    ((advanceCursor b s).band b).cursor = (s.band b).cursor + 1 ∧ (advanceCursor b s).lists b = s.lists b ∧
      (s.band b).cursor + 1 < (s.lists b).onAir.length := by
  have swaps : s.wrapSwaps b = false := by rw [State.wrapSwaps, within, Bool.false_and]
  rw [advanceCursor_cursor, advanceCursor_lists_self, within, swaps]
  exact ⟨rfl, rfl, not_le.mp (by simpa [State.wraps] using within)⟩

theorem addInstance_wraps (b : Fin 4) (x : Inst) (s : State) : (addInstance b x s).wraps b = s.wraps b := by
  unfold State.wraps
  rw [addInstance_lists, addInstance_band_self]

/-- R142: the instance of the item at the cursor behind those of the page. -/
def Build.entry (c : BandConfig) (voffset : Int) (x : Build) (i : Item) : Inst :=
  itemInstance c i (pageEnd x.page) (if x.page = [] then min x.state.width (x.state.slotOf c i.kind) else x.state.slotOf c i.kind)
    voffset

/-- R141: the item at the cursor is taken. -/
def Build.took (c : BandConfig) (b : Fin 4) (voffset : Int) (x : Build) (i : Item) : Build where
  state := advanceCursor b (addInstance b (x.entry c voffset i) x.state)
  page := x.page ++ [x.entry c voffset i]
  skips := 0
  ended := x.state.wraps b || decide (x.page.length + 1 = 32)

/-- R141: the item at the cursor is skipped. -/
def Build.skipped (b : Fin 4) (x : Build) : Build where
  state := advanceCursor b (x.state.raise .itemSkipped (.band b))
  page := x.page
  skips := if x.state.wrapSwaps b then 0 else x.skips + 1
  ended := x.state.wraps b && decide (x.page ≠ [])

/-- The item at the cursor of a page build that goes on. -/
structure Build.Candidate (b : Fin 4) (x : Build) (i : Item) : Prop where
  going : x.ended = false
  more : x.skips < (x.state.lists b).onAir.length
  item : (x.state.lists b).onAir[(x.state.band b).cursor]? = some i

/-- One candidate of a page build. -/
inductive Build.Step (c : BandConfig) (b : Fin 4) (voffset : Int) : Build → Build → Prop
  | take {x : Build} {i : Item} (candidate : x.Candidate b i) (admissible : x.state.admissible i.kind = true)
      (fits : pageFits x.state.width x.page (x.state.slotOf c i.kind)) : Step c b voffset x (x.took c b voffset i)
  | skip {x : Build} {i : Item} (candidate : x.Candidate b i) (admissible : x.state.admissible i.kind = false) :
      Step c b voffset x (x.skipped b)

/-- Where a page build ends. -/
def Build.Ends (c : BandConfig) (b : Fin 4) (x : Build) : Prop :=
  x.ended = true ∨ (x.page = [] ∧ (x.state.lists b).onAir.length ≤ x.skips) ∨
    ∃ i, (x.state.lists b).onAir[(x.state.band b).cursor]? = some i ∧ x.state.admissible i.kind = true ∧
      ¬ pageFits x.state.width x.page (x.state.slotOf c i.kind)

/-! ### What every candidate keeps -/

/-- A page build on a raster of `width` pixels that began with the window `w`: the page stands behind `w`, each instance where the
one before it ends, the cursor within the on-air bank; and a page with an instance has seen no more skips than items behind the
cursor, so that it ends at the wrap before they are as many as the items of the bank. -/
structure Build.Sound (b : Fin 4) (width : Nat) (w : List Inst) (x : Build) : Prop where
  raster : x.state.width = width
  window : (x.state.band b).window = w ++ x.page
  within : (x.state.lists b).onAir = [] ∨ (x.state.band b).cursor < (x.state.lists b).onAir.length
  laid : pageEnd x.page = (((pageWidth x.page + pageGap x.page) * 256 : Nat) : Int)
  early : x.page ≠ [] → x.ended = false →
    x.skips ≤ (x.state.band b).cursor ∧ (x.state.band b).cursor < (x.state.lists b).onAir.length

/-- A bound of the candidates still to come. Before the first instance: the skips left of the on-air bank, a page from it, and, when
the wrap will swap, as much again from the shadow bank; after it, the items before the wrap. -/
def Build.measure (b : Fin 4) (x : Build) : Nat :=
  if x.page = [] then
    ((x.state.lists b).onAir.length - x.skips) + (x.state.lists b).onAir.length +
      (if (x.state.lists b).commit = some .loopEnd then 2 * (x.state.lists b).shadow.length else 0)
  else (x.state.lists b).onAir.length - (x.state.band b).cursor

theorem State.Kept.width {s t : State} (kept : s.Kept t) : t.width = s.width := by
  rw [State.width, kept.straps]
  rfl

theorem Build.Sound.took {b : Fin 4} {width : Nat} {w : List Inst} {x : Build} {i : Item} (c : BandConfig) (voffset : Int)
    (sound : x.Sound b width w) : (x.took c b voffset i).Sound b width w := by
  obtain ⟨k, v, own⟩ := advanceCursor_band_self b (addInstance b (x.entry c voffset i) x.state)
  constructor
  case raster => exact ((kept_addInstance ..).trans (kept_advanceCursor ..)).width.trans sound.raster
  case window =>
    show ((advanceCursor b _).band b).window = _ ++ (x.page ++ [_])
    rw [own, addInstance_band_self, ← List.append_assoc, ← sound.window]
  case within => exact advanceCursor_within ..
  case laid =>
    show pageEnd (x.page ++ [_]) = (((pageWidth (x.page ++ [_]) + pageGap (x.page ++ [_])) * 256 : Nat) : Int)
    rw [pageEnd_concat, pageWidth_concat, pageGap_concat, show (x.entry c voffset i).x = pageEnd x.page from rfl, sound.laid]
    push_cast
    ring
  case early =>
    intro _ going
    obtain ⟨wraps, -⟩ := Bool.or_eq_false_iff.mp going
    obtain ⟨cursor, lists, more⟩ := advanceCursor_of_within ((addInstance_wraps b (x.entry c voffset i) x.state).trans wraps)
    refine ⟨Nat.zero_le _, ?_⟩
    show ((advanceCursor b _).band b).cursor < ((advanceCursor b _).lists b).onAir.length
    rwa [cursor, lists]

theorem Build.Sound.skipped {b : Fin 4} {width : Nat} {w : List Inst} {x : Build} (sound : x.Sound b width w)
    (going : x.ended = false) : (x.skipped b).Sound b width w := by
  obtain ⟨k, v, own⟩ := advanceCursor_band_self b (x.state.raise .itemSkipped (.band b))
  constructor
  case raster => exact ((kept_raise ..).trans (kept_advanceCursor ..)).width.trans sound.raster
  case window =>
    show ((advanceCursor b _).band b).window = _
    rw [own]
    exact sound.window
  case within => exact advanceCursor_within ..
  case laid => exact sound.laid
  case early =>
    intro shown ends
    have wraps : x.state.wraps b = false := by simpa [Build.skipped, show x.page ≠ [] from shown] using ends
    have swaps : x.state.wrapSwaps b = false := by rw [State.wrapSwaps, wraps, Bool.false_and]
    obtain ⟨cursor, lists, more⟩ := advanceCursor_of_within (s := x.state.raise .itemSkipped (.band b)) wraps
    obtain ⟨fewer, -⟩ := sound.early shown going
    show (if x.state.wrapSwaps b then 0 else x.skips + 1) ≤ ((advanceCursor b _).band b).cursor ∧
      ((advanceCursor b _).band b).cursor < ((advanceCursor b _).lists b).onAir.length
    rw [cursor, lists, swaps]
    exact ⟨Nat.succ_le_succ fewer, more⟩

theorem RunLists.swapped_onAir (r : RunLists) : ({ r with onAirB := !r.onAirB, commit := none } : RunLists).onAir = r.shadow := by
  unfold RunLists.onAir RunLists.shadow
  cases r.onAirB <;> rfl

/-- A candidate that is taken, and does not end the build, lessens the measure. -/
theorem Build.took_measure_lt {b : Fin 4} {x : Build} {i : Item} (c : BandConfig) (voffset : Int) (candidate : x.Candidate b i)
    (going : (x.took c b voffset i).ended = false) :
    (x.took c b voffset i).measure b < x.measure b := by
  obtain ⟨wraps, -⟩ := Bool.or_eq_false_iff.mp going
  obtain ⟨cursor, lists, more⟩ := advanceCursor_of_within ((addInstance_wraps b (x.entry c voffset i) x.state).trans wraps)
  rw [addInstance_band_self] at cursor more
  rw [addInstance_lists] at lists more
  have after : (x.took c b voffset i).measure b = (x.state.lists b).onAir.length - ((x.state.band b).cursor + 1) := by
    rw [Build.measure, if_neg (show (x.took c b voffset i).page ≠ [] from List.concat_ne_nil _ _)]
    show ((advanceCursor b _).lists b).onAir.length - ((advanceCursor b _).band b).cursor = _
    rw [lists, cursor]
  have some_left := candidate.more
  rw [after, Build.measure]
  dsimp only at more
  split <;> omega

/-- So does a candidate that is skipped. -/
theorem Build.skipped_measure_lt {b : Fin 4} {x : Build} {i : Item} (candidate : x.Candidate b i)
    (going : (x.skipped b).ended = false) : (x.skipped b).measure b < x.measure b := by
  have some_left := candidate.more
  have lists : (x.skipped b).state.lists b = _ := advanceCursor_lists_self b (x.state.raise .itemSkipped (.band b))
  have swaps : (x.state.raise .itemSkipped (.band b)).wrapSwaps b = x.state.wrapSwaps b := rfl
  rw [swaps] at lists
  unfold Build.measure
  rw [show (x.skipped b).page = x.page from rfl]
  by_cases first : x.page = []
  · rw [if_pos first, if_pos first, lists, show (x.skipped b).skips = if x.state.wrapSwaps b then 0 else x.skips + 1 from rfl]
    by_cases swap : x.state.wrapSwaps b = true
    · have commit : (x.state.lists b).commit = some .loopEnd := by
        rw [State.wrapSwaps, Bool.and_eq_true, decide_eq_true_eq] at swap
        exact swap.2
      simp only [if_pos swap, if_pos commit]
      rw [if_neg nofun, RunLists.swapped_onAir]
      show (x.state.lists b).shadow.length - 0 + (x.state.lists b).shadow.length + 0 < _
      omega
    · rw [if_neg swap, if_neg swap]
      show (x.state.lists b).onAir.length - _ + (x.state.lists b).onAir.length + _ < _
      exact Nat.add_lt_add_right (Nat.add_lt_add_right (by omega) _) _
  · have wraps : x.state.wraps b = false := by simpa [Build.skipped, first] using going
    obtain ⟨cursor, same, more⟩ := advanceCursor_of_within (s := x.state.raise .itemSkipped (.band b)) wraps
    rw [if_neg first, if_neg first]
    show ((advanceCursor b _).lists b).onAir.length - ((advanceCursor b _).band b).cursor < _
    rw [same, cursor]
    exact Nat.sub_lt_sub_left (Nat.lt_of_succ_lt more) (Nat.lt_succ_self _)

/-! ### The build, candidate by candidate -/

/-- What the loop answers from a build in progress. -/
def Build.result (c : BandConfig) (b : Fin 4) (voffset : Int) (fuel : Nat) (x : Build) : Nat × State :=
  if x.ended then (x.page.length, x.state)
  else buildLoop c b voffset fuel x.page.length (pageWidth x.page) (pageGap x.page) x.skips x.state

/-- One turn of the loop, as a candidate of the build. -/
theorem Build.result_succ {b : Fin 4} {width : Nat} {w : List Inst} {x : Build} (c : BandConfig) (voffset : Int) (fuel : Nat)
    (sound : x.Sound b width w) (going : x.ended = false) : x.result c b voffset (fuel + 1) =
      if (x.state.lists b).onAir.length ≤ x.skips then (x.page.length, x.state)
      else match (x.state.lists b).onAir[(x.state.band b).cursor]? with
        | none => (x.page.length, x.state)
        | some i =>
          if x.state.admissible i.kind then
            if 0 < x.page.length ∧ x.state.width < pageWidth x.page + pageGap x.page + x.state.slotOf c i.kind then
              (x.page.length, x.state)
            else (x.took c b voffset i).result c b voffset fuel
          else (x.skipped b).result c b voffset fuel := by
  have empty : x.page.length = 0 ↔ x.page = [] := List.length_eq_zero_iff
  rw [Build.result, if_neg (by simp [going]), buildLoop]
  refine if_congr Iff.rfl rfl ?_
  cases (x.state.lists b).onAir[(x.state.band b).cursor]? with
  | none => rfl
  | some i =>
    refine if_congr Iff.rfl (if_congr Iff.rfl rfl ?_) ?_
    · have left : (if x.page.length = 0 then 0 else pageWidth x.page + pageGap x.page) = pageWidth x.page + pageGap x.page := by
        split
        · next none =>
          rw [empty.mp none]
          rfl
        · rfl
      dsimp only
      rw [left]
      simp only [empty]
      have entry : itemInstance c i (((pageWidth x.page + pageGap x.page) * 256 : Nat) : Int)
          (if x.page = [] then min x.state.width (x.state.slotOf c i.kind) else x.state.slotOf c i.kind) voffset =
          x.entry c voffset i := by
        rw [← sound.laid]
        rfl
      rw [entry]
      refine if_congr ?_ ?_ ?_
      · simp [Build.took, Config.pageSize]
      · simp [Build.took]
      · have width : pageWidth (x.took c b voffset i).page = _ := pageWidth_concat x.page (x.entry c voffset i)
        have gap : pageGap (x.took c b voffset i).page = _ := pageGap_concat x.page (x.entry c voffset i)
        rw [width, gap, show (x.took c b voffset i).page.length = x.page.length + 1 from List.length_append]
        rfl
    · refine if_congr ?_ rfl rfl
      simp [Build.skipped, List.length_pos_iff]

/-- R141: with a bound above its measure the loop goes on, candidate by candidate, until a rule ends it. -/
theorem Build.result_ends (c : BandConfig) (b : Fin 4) (voffset : Int) (width : Nat) (w : List Inst) (fuel : Nat) :
    ∀ x : Build, x.Sound b width w → (x.ended = false → x.measure b < fuel) →
      ∃ y, Relation.ReflTransGen (Build.Step c b voffset) x y ∧ y.Ends c b ∧ y.Sound b width w ∧
        x.result c b voffset fuel = (y.page.length, y.state) := by
  induction fuel with
  | zero =>
    intro x sound short
    have ended : x.ended = true := by
      by_contra going
      exact absurd (short (Bool.eq_false_iff.mpr going)) (Nat.not_lt_zero _)
    exact ⟨x, .refl, .inl ended, sound, if_pos ended⟩
  | succ fuel ih =>
    intro x sound short
    by_cases ended : x.ended = true
    · exact ⟨x, .refl, .inl ended, sound, if_pos ended⟩
    have going : x.ended = false := Bool.eq_false_iff.mpr ended
    have stop : x.Ends c b → ∃ y, Relation.ReflTransGen (Build.Step c b voffset) x y ∧ y.Ends c b ∧ y.Sound b width w ∧
        (x.page.length, x.state) = (y.page.length, y.state) := fun ends => ⟨x, .refl, ends, sound, rfl⟩
    have go : ∀ {y}, Build.Step c b voffset x y → y.Sound b width w → (y.ended = false → y.measure b < x.measure b) →
        ∃ z, Relation.ReflTransGen (Build.Step c b voffset) x z ∧ z.Ends c b ∧ z.Sound b width w ∧
          y.result c b voffset fuel = (z.page.length, z.state) := fun {y} step next less => by
      obtain ⟨z, steps, ends, last, result⟩ := ih y next (fun on => lt_of_lt_of_le (less on) (Nat.le_of_lt_succ (short going)))
      exact ⟨z, .head step steps, ends, last, result⟩
    rw [Build.result_succ c voffset fuel sound going]
    split
    · next all =>
      refine stop (.inr (.inl ⟨?_, all⟩))
      by_contra shown
      have early := sound.early shown going
      omega
    · next more =>
      rw [not_le] at more
      split
      · next outside =>
        have within := sound.within.resolve_left (List.ne_nil_of_length_pos (Nat.zero_lt_of_lt more))
        exact absurd within (by simpa using outside)
      · next i item =>
        have candidate : x.Candidate b i := ⟨going, more, item⟩
        split
        · next admissible =>
          split
          · next wide => exact stop (.inr (.inr ⟨i, item, admissible, not_pageFits.mpr wide⟩))
          · next fits =>
            rw [← not_pageFits, not_not] at fits
            exact go (.take candidate admissible fits) (sound.took c voffset) (Build.took_measure_lt c voffset candidate)
        · next admissible =>
          exact go (.skip candidate (by simpa using admissible)) (sound.skipped going) (Build.skipped_measure_lt candidate)

/-! ### The whole build -/

/-- R141: the state after the commits that a page build carries out first. -/
def State.opened (b : Fin 4) (s : State) : State :=
  if ((s.begun b).lists b).onAir = [] ∧ ((s.begun b).lists b).commit ≠ none then (s.begun b).swapped b else s.begun b

theorem pageBuild_eq (c : BandConfig) (b : Fin 4) (voffset : Int) (s : State) : pageBuild c b voffset s =
    let r := Build.result c b voffset (buildFuel (s.opened b) b) ⟨s.opened b, [], 0, false⟩
    if r.1 = 0 then (0, r.2.raise .starved (.band b)) else r := by
  have opened : (if ((s.begun b).lists b).onAir = [] then swapIf (fun _ => true) b (s.begun b) else s.begun b) = s.opened b := by
    unfold State.opened
    by_cases empty : ((s.begun b).lists b).onAir = []
    · simp only [empty, true_and, if_true, swapIf_any]
    · simp only [empty, false_and, if_false]
  unfold pageBuild
  rw [swapIf_immediate]
  show (let s2 := if ((s.begun b).lists b).onAir = [] then swapIf (fun _ => true) b (s.begun b) else s.begun b
    let r := buildLoop c b voffset (buildFuel s2 b) 0 0 0 0 s2
    if r.1 = 0 then (0, r.2.raise .starved (.band b)) else r) = _
  rw [opened]
  rfl

/-- The commits carried out first leave the window as it was, and the cursor within the bank. -/
theorem opened_spec (b : Fin 4) (s : State) (within : (s.lists b).onAir = [] ∨ (s.band b).cursor < (s.lists b).onAir.length) :
    (s.opened b).width = s.width ∧ ((s.opened b).band b).window = (s.band b).window ∧
      (((s.opened b).lists b).onAir = [] ∨ ((s.opened b).band b).cursor < ((s.opened b).lists b).onAir.length) := by
  have swap : ∀ u : State, (u.swapped b).width = u.width ∧ ((u.swapped b).band b).window = (u.band b).window ∧
      (((u.swapped b).lists b).onAir = [] ∨ ((u.swapped b).band b).cursor < ((u.swapped b).lists b).onAir.length) := fun u => by
    have own := swapBanks_band_self b u
    rw [swapBanks_eq] at own
    rw [own]
    exact ⟨rfl, rfl, or_iff_not_imp_left.mpr List.length_pos_of_ne_nil⟩
  have begun : (s.begun b).width = s.width ∧ ((s.begun b).band b).window = (s.band b).window ∧
      (((s.begun b).lists b).onAir = [] ∨ ((s.begun b).band b).cursor < ((s.begun b).lists b).onAir.length) := by
    unfold State.begun
    split
    · exact swap s
    · exact ⟨rfl, rfl, within⟩
  unfold State.opened
  split
  · obtain ⟨width, window, inside⟩ := swap (s.begun b)
    exact ⟨width.trans begun.1, window.trans begun.2.1, inside⟩
  · exact begun

theorem onAir_add_shadow (b : Fin 4) (s : State) : (s.lists b).onAir.length + (s.lists b).shadow.length = s.bankItems b := by
  unfold RunLists.onAir RunLists.shadow State.bankItems
  split <;> omega

/-- The fuel of a page build is above the measure of its start. -/
theorem measure_lt_buildFuel (b : Fin 4) (s : State) : Build.measure b ⟨s, [], 0, false⟩ < buildFuel s b := by
  have items := onAir_add_shadow b s
  have fuel : buildFuel s b = 2 * s.bankItems b + 2 := rfl
  rw [Build.measure, if_pos rfl]
  dsimp only
  split <;> omega

/-- R141 to R143: a page build considers candidates until a rule ends it. -/
theorem pageBuild_ends (c : BandConfig) (b : Fin 4) (voffset : Int) (s : State)
    (within : (s.lists b).onAir = [] ∨ (s.band b).cursor < (s.lists b).onAir.length) :
    ∃ x, Relation.ReflTransGen (Build.Step c b voffset) ⟨s.opened b, [], 0, false⟩ x ∧ x.Ends c b ∧
      x.Sound b s.width (s.band b).window ∧
      pageBuild c b voffset s = (x.page.length, if x.page = [] then x.state.raise .starved (.band b) else x.state) := by
  obtain ⟨width, window, inside⟩ := opened_spec b s within
  have sound : Build.Sound b s.width (s.band b).window ⟨s.opened b, [], 0, false⟩ :=
    ⟨width, by rw [List.append_nil]; exact window, inside, by simp [pageEnd, pageWidth, pageGap], fun shown => absurd rfl shown⟩
  obtain ⟨x, steps, ends, last, result⟩ := Build.result_ends c b voffset s.width (s.band b).window (buildFuel (s.opened b) b)
    ⟨s.opened b, [], 0, false⟩ sound (fun _ => measure_lt_buildFuel b (s.opened b))
  refine ⟨x, steps, ends, last, ?_⟩
  rw [pageBuild_eq, result]
  dsimp only
  by_cases none : x.page = []
  · rw [if_pos none, if_pos (List.length_eq_zero_iff.mpr none), none]
    rfl
  · rw [if_neg none, if_neg (fun zero => none (List.length_eq_zero_iff.mp zero))]

end Sys2Proof.Machine

/-! SUPPORT for O47. What a page step changes (`State.Paging`); a page build takes no notice of the page state; and the transitions of
a FLIP band. -/

namespace Sys2Proof.Machine

/-! ### What a page step changes -/

/-- From `s` to `t` the band `b` changes in its cursor, its saved context, its window and its page, no other band and no run list of
another band changes, and the records change in their counts alone, but for those that may become FREE. -/
structure State.Paging (b : Fin 4) (s t : State) : Prop where
  frame : t = { s with
    quotes := t.quotes, ts := { s.ts with stories := t.ts.stories, freeBlocks := t.ts.freeBlocks },
    rls := t.rls, bands := t.bands, au := t.au, freeIndex := t.freeIndex }
  own : t.band b = { s.band b with
    cursor := (t.band b).cursor, saved := (t.band b).saved, window := (t.band b).window, page := (t.band b).page }
  others : ∀ k, k ≠ b → t.band k = s.band k ∧ t.lists k = s.lists k
  quote : ∀ i, (s.quote i).state ≠ .retiring → t.quote i = { s.quote i with count := (t.quote i).count }
  story : ∀ i, (s.story i).state ≠ .deleting → t.story i = { s.story i with count := (t.story i).count }

theorem State.Paging.refl (b : Fin 4) (s : State) : s.Paging b s :=
  ⟨rfl, rfl, fun _ _ => ⟨rfl, rfl⟩, fun _ _ => rfl, fun _ _ => rfl⟩

theorem State.Paging.trans {b : Fin 4} {s t u : State} (h : s.Paging b t) (k : t.Paging b u) : s.Paging b u where
  frame := by rw [k.frame, h.frame]
  own := by rw [k.own, h.own]
  others j other := ⟨(k.others j other).1.trans (h.others j other).1, (k.others j other).2.trans (h.others j other).2⟩
  quote i still := by
    have same := h.quote i still
    rw [k.quote i (by rwa [same]), same]
  story i still := by
    have same := h.story i still
    rw [k.story i (by rwa [same]), same]

theorem State.Paging.ite {b : Fin 4} {c : Prop} [Decidable c] {s t u : State} (h : s.Paging b t) (k : s.Paging b u) :
    s.Paging b (if c then t else u) := by
  split
  · exact h
  · exact k

theorem paging_updBand (s : State) (b : Fin 4) (f : Band → Band) (own : f (s.band b) = { s.band b with
      cursor := (f (s.band b)).cursor, saved := (f (s.band b)).saved, window := (f (s.band b)).window,
      page := (f (s.band b)).page } := by rfl) : s.Paging b (s.updBand b f) where
  frame := rfl
  own := by rw [State.updBand_band_self]; exact own
  others k other := ⟨(beside_updBand s b f).band k other, rfl⟩
  quote _ _ := rfl
  story _ _ := rfl

theorem paging_raise (s : State) (b : Fin 4) (k : EventKind) (src : EventSource) : s.Paging b (s.raise k src) :=
  ⟨rfl, rfl, fun _ _ => ⟨rfl, rfl⟩, fun _ _ => rfl, fun _ _ => rfl⟩

theorem paging_bumpFree (s : State) (b : Fin 4) : s.Paging b s.bumpFree :=
  ⟨rfl, rfl, fun _ _ => ⟨rfl, rfl⟩, fun _ _ => rfl, fun _ _ => rfl⟩

theorem paging_updLists (s : State) (b : Fin 4) (f : RunLists → RunLists) : s.Paging b (s.updLists b f) where
  frame := rfl
  own := rfl
  others k other := ⟨rfl, by rw [State.updLists_lists, if_neg (fun e => other e.symm)]⟩
  quote _ _ := rfl
  story _ _ := rfl

theorem paging_swapBanks (b : Fin 4) (s : State) : s.Paging b (swapBanks b s) :=
  ((paging_updLists s b (fun r => { r with onAirB := !r.onAirB, commit := none })).trans
    (paging_updBand _ b (fun d => { d with cursor := 0, saved := d.saved.map (fun _ => 0) }))).trans (paging_raise ..)

theorem paging_swapIf (p : CommitMode → Bool) (b : Fin 4) (s : State) : s.Paging b (swapIf p b s) :=
  .ite (paging_swapBanks b s) (.refl b s)

theorem paging_advanceCursor (b : Fin 4) (s : State) : s.Paging b (advanceCursor b s) :=
  .ite (((paging_updBand s b (fun d => { d with cursor := 0 })).trans (paging_raise ..)).trans (paging_swapIf ..))
    (paging_updBand s b (fun d => { d with cursor := d.cursor + 1 }))

/-- Reports of instances change no band and no run list. -/
theorem State.Paging.of_reported {b : Fin 4} {s t : State} (h : s.Reported t)
    (quote : ∀ i, (s.quote i).state ≠ .retiring → t.quote i = { s.quote i with count := (t.quote i).count })
    (story : ∀ i, (s.story i).state ≠ .deleting → t.story i = { s.story i with count := (t.story i).count }) : s.Paging b t := by
  have bands : t.bands = s.bands := by rw [h]
  have rls : t.rls = s.rls := by rw [h]
  refine ⟨?_, ?_, fun k _ => ⟨?_, ?_⟩, quote, story⟩
  · unfold State.Reported at h
    rw [h]
  · rw [State.band, bands]
    rfl
  · rw [State.band, bands]
    rfl
  · rw [State.lists, rls]
    rfl

theorem paging_reportRemoval (b : Fin 4) (x : Inst) (s : State) : s.Paging b (reportRemoval x s) := by
  refine .of_reported (reported_reportRemoval x s) (fun i still => ?_) (fun i still => ?_)
  · have counted : (s.quote i).dropInstance = { s.quote i with count := (s.quote i).count - 1 } :=
      Quote.dropInstances (n := 1) (.inl still)
    rw [reportRemoval_quote, counted]
    split <;> rfl
  · have counted : (s.story i).dropInstance = { s.story i with count := (s.story i).count - 1 } :=
      Story.dropInstances (n := 1) (.inl still)
    rw [reportRemoval_story, counted]
    split <;> rfl

theorem paging_reportRemovals (b : Fin 4) (l : List Inst) : ∀ s : State, s.Paging b (reportRemovals l s) := by
  induction l with
  | nil => exact .refl b
  | cons x l ih => exact fun s => (paging_reportRemoval b x s).trans (ih _)

theorem paging_removeFront (b : Fin 4) (n : Nat) (s : State) : s.Paging b (removeFront b n s) :=
  (paging_updBand s b (fun d => { d with window := d.window.drop n })).trans (paging_reportRemovals ..)

theorem paging_reportCreation (b : Fin 4) (x : Inst) (s : State) : s.Paging b (reportCreation x s) := by
  unfold reportCreation
  split
  · refine .of_reported (reported_updQuoteAt ..) (fun i _ => ?_) (fun i _ => ?_)
    · rw [updQuoteAt_quote]
      split <;> rfl
    · unfold State.updQuoteAt
      split <;> rfl
  · split
    · refine .of_reported rfl (fun _ _ => rfl) (fun i _ => ?_)
      rw [State.updStory_story]
      split
      · next same => rw [same]
      · rfl
    · exact .refl b s
  · exact .refl b s
  · exact .refl b s

theorem paging_addInstance (b : Fin 4) (x : Inst) (s : State) : s.Paging b (addInstance b x s) :=
  (paging_updBand s b (fun d => { d with window := d.window ++ [x] })).trans (paging_reportCreation ..)

theorem paging_buildLoop (c : BandConfig) (b : Fin 4) (voffset : Int) (fuel : Nat) :
    ∀ (taken used lastGap skips : Nat) (s : State), s.Paging b (buildLoop c b voffset fuel taken used lastGap skips s).2 := by
  induction fuel with
  | zero => exact fun _ _ _ _ s => .refl b s
  | succ fuel ih =>
    intro taken used lastGap skips s
    have skipped : s.Paging b (advanceCursor b (s.raise .itemSkipped (.band b))) :=
      (paging_raise ..).trans (paging_advanceCursor ..)
    unfold buildLoop
    split
    · exact .refl b s
    · split
      · exact .refl b s
      · split
        · split
          · exact .refl b s
          · dsimp only
            split
            · exact (paging_addInstance ..).trans (paging_advanceCursor ..)
            · exact ((paging_addInstance ..).trans (paging_advanceCursor ..)).trans (ih ..)
        · dsimp only
          split
          · exact skipped
          · exact skipped.trans (ih ..)

theorem paging_pageBuild (c : BandConfig) (b : Fin 4) (voffset : Int) (s : State) : s.Paging b (pageBuild c b voffset s).2 := by
  unfold pageBuild
  extract_lets s1 s2 r
  have first : s.Paging b s1 := paging_swapIf ..
  have second : s.Paging b s2 := .ite (first.trans (paging_swapIf ..)) first
  have built : s.Paging b r.2 := second.trans (paging_buildLoop ..)
  split
  · exact built.trans (paging_raise ..)
  · exact built

theorem paging_updPage (b : Fin 4) (f : Page → Page) (s : State) : s.Paging b (updPage b f s) :=
  paging_updBand s b (fun d => { d with page := f d.page })

theorem paging_setRoll (c : BandConfig) (b : Fin 4) (k : Nat) (s : State) : s.Paging b (setRoll c b k s) :=
  paging_updBand s b (fun d => { d with page := { d.page with roll := k }, window := rolledWindow c k d.page.outgoing d.window })

theorem paging_settlePage (c : BandConfig) (b : Fin 4) (n : Nat) (s : State) : s.Paging b (settlePage c b n s) := paging_updPage ..

theorem paging_enterLeaving (c : BandConfig) (b : Fin 4) (s : State) : s.Paging b (enterLeaving c b s) :=
  (paging_updPage ..).trans (paging_setRoll ..)

theorem paging_expirePage (c : BandConfig) (b : Fin 4) (s : State) : s.Paging b (expirePage c b s) := by
  unfold expirePage
  dsimp only
  split
  · split
    · exact (paging_removeFront ..).trans (paging_updPage ..)
    · exact paging_enterLeaving ..
  · split
    · exact ((paging_pageBuild ..).trans (paging_removeFront ..)).trans (paging_settlePage ..)
    · split
      · exact (paging_pageBuild ..).trans (paging_enterLeaving ..)
      · exact ((paging_pageBuild ..).trans (paging_updPage ..)).trans (paging_setRoll ..)

theorem paging_endRoll (c : BandConfig) (b : Fin 4) (s : State) : s.Paging b (endRoll c b s) :=
  (((paging_removeFront ..).trans
    (paging_updBand _ b (fun d => { d with window := d.window.map (fun i => { i with voffset := 0 }) }))).trans
    (paging_updPage ..)).trans (paging_bumpFree ..)

theorem paging_endLeaving (c : BandConfig) (b : Fin 4) (s : State) : s.Paging b (endLeaving c b s) := by
  unfold endLeaving
  extract_lets k m s' r
  have left : s.Paging b s' := ((paging_removeFront ..).trans (paging_updPage ..)).trans (paging_bumpFree ..)
  split
  · exact (left.trans (paging_pageBuild ..)).trans (paging_settlePage ..)
  · exact left

/-! ### A page build takes no notice of the page state -/

/-- The page state of a band and the number of free values read replaced. -/
def State.repaged (b : Fin 4) (p : Page) (n : Nat) (s : State) : State :=
  { s.updBand b (fun d => { d with page := p }) with freeIndex := n }

theorem repaged_band_self (b : Fin 4) (p : Page) (n : Nat) (s : State) : (s.repaged b p n).band b = { s.band b with page := p } :=
  State.updBand_band_self s b (fun d => { d with page := p })

theorem repaged_updBand (b : Fin 4) (p : Page) (n : Nat) (s : State) (f : Band → Band)
    (apart : ∀ d : Band, f { d with page := p } = { f d with page := p } := by intro _; rfl) :
    (s.repaged b p n).updBand b f = (s.updBand b f).repaged b p n := by
  have left := State.updBand_updBand s b (fun d => { d with page := p }) f
  have right := State.updBand_updBand s b f (fun d => { d with page := p })
  simp only [apart] at left
  exact congrArg (fun t : State => { t with freeIndex := n }) (left.trans right.symm)

theorem repaged_swapBanks (b : Fin 4) (p : Page) (n : Nat) (s : State) : swapBanks b (s.repaged b p n) = (swapBanks b s).repaged b p n :=
  congrArg (fun t : State => t.raise .bankSwapped (.band b))
    (repaged_updBand b p n (s.updLists b (fun r => { r with onAirB := !r.onAirB, commit := none }))
      (fun d => { d with cursor := 0, saved := d.saved.map (fun _ => 0) }))

theorem repaged_ite {c : Prop} [Decidable c] {b : Fin 4} {p : Page} {n : Nat} {s t s' t' : State} (h : s' = s.repaged b p n)
    (k : t' = t.repaged b p n) : (if c then s' else t') = (if c then s else t).repaged b p n := by
  split
  · exact h
  · exact k

theorem repaged_swapIf (q : CommitMode → Bool) (b : Fin 4) (p : Page) (n : Nat) (s : State) :
    swapIf q b (s.repaged b p n) = (swapIf q b s).repaged b p n := repaged_ite (repaged_swapBanks ..) rfl

theorem repaged_wraps (b : Fin 4) (p : Page) (n : Nat) (s : State) : (s.repaged b p n).wraps b = s.wraps b := by
  unfold State.wraps
  rw [repaged_band_self]
  rfl

theorem repaged_advanceCursor (b : Fin 4) (p : Page) (n : Nat) (s : State) :
    advanceCursor b (s.repaged b p n) = (advanceCursor b s).repaged b p n := by
  unfold advanceCursor
  rw [repaged_band_self]
  refine repaged_ite ?_ (repaged_updBand b p n s (fun d => { d with cursor := d.cursor + 1 }))
  rw [repaged_updBand b p n s (fun d => { d with cursor := 0 })]
  exact repaged_swapIf _ b p n ((s.updBand b (fun d => { d with cursor := 0 })).raise .loopEnd (.band b))

theorem repaged_addInstance (b : Fin 4) (p : Page) (n : Nat) (x : Inst) (s : State) :
    addInstance b x (s.repaged b p n) = (addInstance b x s).repaged b p n := by
  unfold addInstance
  rw [repaged_updBand b p n s (fun d => { d with window := d.window ++ [x] })]
  generalize s.updBand b (fun d => { d with window := d.window ++ [x] }) = u
  unfold reportCreation State.updQuoteAt
  split
  · split <;> rfl
  · split <;> rfl
  · rfl
  · rfl

/-- A number that comes with a state whose page state is replaced. -/
def repagedSnd (b : Fin 4) (p : Page) (n : Nat) (t : Nat × State) : Nat × State := (t.1, t.2.repaged b p n)

theorem repagedSnd_ite {c : Prop} [Decidable c] {b : Fin 4} {p : Page} {n : Nat} {s t s' t' : Nat × State} (h : s' = repagedSnd b p n s)
    (k : t' = repagedSnd b p n t) : (if c then s' else t') = repagedSnd b p n (if c then s else t) := by
  split
  · exact h
  · exact k

theorem repaged_buildLoop (c : BandConfig) (b : Fin 4) (voffset : Int) (p : Page) (n : Nat) (fuel : Nat) :
    ∀ (taken used lastGap skips : Nat) (s : State), buildLoop c b voffset fuel taken used lastGap skips (s.repaged b p n) =
      repagedSnd b p n (buildLoop c b voffset fuel taken used lastGap skips s) := by
  induction fuel with
  | zero => exact fun _ _ _ _ _ => rfl
  | succ fuel ih =>
    intro taken used lastGap skips s
    unfold buildLoop
    rw [repaged_band_self, repaged_wraps]
    refine repagedSnd_ite rfl ?_
    show (match (s.lists b).onAir[(s.band b).cursor]? with | none => _ | some i => _) = _
    cases (s.lists b).onAir[(s.band b).cursor]? with
    | none => rfl
    | some i =>
      dsimp only
      refine repagedSnd_ite (repagedSnd_ite rfl ?_) ?_
      · rw [repaged_addInstance, repaged_advanceCursor]
        exact repagedSnd_ite rfl (ih ..)
      · have skipped : advanceCursor b ((s.repaged b p n).raise .itemSkipped (.band b)) =
            (advanceCursor b (s.raise .itemSkipped (.band b))).repaged b p n :=
          repaged_advanceCursor b p n (s.raise .itemSkipped (.band b))
        have swaps : (s.repaged b p n).wrapSwaps b = s.wrapSwaps b := by
          unfold State.wrapSwaps
          rw [repaged_wraps]
          rfl
        rw [skipped, swaps]
        exact repagedSnd_ite rfl (ih ..)

/-- R141: a page build reads neither the page state of its band nor the free values. -/
theorem repaged_pageBuild (c : BandConfig) (b : Fin 4) (voffset : Int) (p : Page) (n : Nat) (s : State) :
    pageBuild c b voffset (s.repaged b p n) = repagedSnd b p n (pageBuild c b voffset s) := by
  unfold pageBuild
  rw [repaged_swapIf]
  extract_lets s1 s2 r s1' s2' r'
  have second : s2 = s2'.repaged b p n := repaged_ite (repaged_swapIf ..) rfl
  have built : r = repagedSnd b p n r' := by
    show buildLoop c b voffset (buildFuel s2 b) 0 0 0 0 s2 = _
    rw [second]
    exact repaged_buildLoop ..
  rw [built]
  clear_value r'
  exact repagedSnd_ite rfl rfl

/-! ### The steps of a FLIP band -/

/-- R146: every instance at this vertical offset. -/
def raisedTo (v : Int) (w : List Inst) : List Inst := w.map (fun i => { i with voffset := v })

theorem rolledWindow_eq (c : BandConfig) (k m : Nat) (w : List Inst) : rolledWindow c k m w =
    raisedTo (-(rollLines c k : Int)) (w.take m) ++ raisedTo ((c.height : Int) - (rollLines c k : Int)) (w.drop m) := rfl

/-- R147: a roll without an incoming page. -/
theorem rolledWindow_all (c : BandConfig) (k : Nat) (w : List Inst) :
    rolledWindow c k w.length w = raisedTo (-(rollLines c k : Int)) w := by
  rw [rolledWindow_eq, List.take_length, List.drop_length]
  exact List.append_nil _

/-- R147: the page on screen as it leaves alone. -/
theorem enterLeaving_band_self (c : BandConfig) (b : Fin 4) (s : State) : (enterLeaving c b s).band b = { s.band b with
    window := raisedTo (-(rollLines c 1 : Int)) (s.band b).window, page := ⟨.leaving, 0, 1, (s.band b).window.length⟩ } := by
  rw [enterLeaving, setRoll_band_self, updPage_band_self]
  dsimp only
  rw [rolledWindow_all]

theorem settlePage_eq (c : BandConfig) (b : Fin 4) (n : Nat) (s : State) : settlePage c b n s = s.updBand b (fun d => { d with
    page := if n = 0 then { d.page with phase := .empty, hold := 0 } else { d.page with phase := .holding, hold := c.flipHold } }) :=
  rfl

/-- What a page build makes of its band's window and page. -/
theorem pageBuild_band_self (c : BandConfig) (b : Fin 4) (voffset : Int) (s : State) : ∃ new,
    ((pageBuild c b voffset s).2.band b).window = (s.band b).window ++ new ∧ (pageBuild c b voffset s).1 = new.length ∧
      ((pageBuild c b voffset s).2.band b).page = (s.band b).page := by
  obtain ⟨new, adds, count, -⟩ := adds_pageBuild c b voffset s
  exact ⟨new, adds.window, count, adds.page⟩

end Sys2Proof.Machine

/-! SUPPORT for O47. The transitions of a FLIP band, and its page step. -/

namespace Sys2Proof.Machine

/-! ### The rows as steps -/

/-- A FLIP band with this configuration, in a drawing state and not halted. -/
structure State.Flips (s : State) (b : Fin 4) (c : BandConfig) : Prop where
  config : (s.band b).config = some c
  flip : c.presentation = .flip
  drawing : (s.band b).prog.drawing = true
  moving : (s.band b).halted = false

theorem State.Flips.alone {b : Fin 4} {c : BandConfig} {s : State} (h : s.Flips b c) (due : BandConfig → Band → Bool)
    (f : BandConfig → Fin 4 → State → State) : flipAlone b due f s = if due c (s.band b) = true then f c b s else s := by
  have flipping : (s.band b).flipping = true := by simp [Band.flipping, Band.presentation, h.config, h.flip, h.drawing]
  simp [flipAlone, h.config, flipping, h.moving]

theorem holdDue_iff {c : BandConfig} {d : Band} : holdDue c d = true ↔ d.page.phase = .holding ∧ d.page.hold ≤ 1 := by
  simp [holdDue]

theorem rollDue_iff {c : BandConfig} {d : Band} : rollDue c d = true ↔ d.page.phase = .rolling ∧ c.rollFrames ≤ d.page.roll := by
  simp [rollDue]

theorem leavingDue_iff {c : BandConfig} {d : Band} :
    leavingDue c d = true ↔ d.page.phase = .leaving ∧ c.rollFrames ≤ d.page.roll := by
  simp [leavingDue]

theorem State.Flips.holdExpired {b : Fin 4} {c : BandConfig} {s : State} (h : s.Flips b c) : exec (.holdExpired b) s =
    .next (if (s.band b).page.phase = .holding ∧ (s.band b).page.hold ≤ 1 then expirePage c b s else s) :=
  congrArg Host.Outcome.next ((h.alone holdDue expirePage).trans (if_congr holdDue_iff rfl rfl))

theorem State.Flips.rollEnd {b : Fin 4} {c : BandConfig} {s : State} (h : s.Flips b c) : exec (.rollEnd b) s =
    .next (if (s.band b).page.phase = .rolling ∧ c.rollFrames ≤ (s.band b).page.roll then endRoll c b s else s) :=
  congrArg Host.Outcome.next ((h.alone rollDue endRoll).trans (if_congr rollDue_iff rfl rfl))

theorem State.Flips.leavingEnd {b : Fin 4} {c : BandConfig} {s : State} (h : s.Flips b c) : exec (.leavingEnd b) s =
    .next (if (s.band b).page.phase = .leaving ∧ c.rollFrames ≤ (s.band b).page.roll then endLeaving c b s else s) :=
  congrArg Host.Outcome.next ((h.alone leavingDue endLeaving).trans (if_congr leavingDue_iff rfl rfl))

/-! ### The expiry of a hold -/

/-- R148: a DRAINING band removes its page. -/
theorem expirePage_draining_cut {b : Fin 4} {c : BandConfig} {s : State} (draining : (s.band b).prog = .draining)
    (cut : c.flipTransition = .cut) : (expirePage c b s).band b =
      { s.band b with window := [], page := { (s.band b).page with phase := .empty, hold := 0 } } := by
  rw [expirePage, if_pos draining, cut]
  dsimp only
  rw [updPage_band_self, removeFront_band_self, List.drop_length]

/-- R147, R148: a DRAINING band has its page leave. -/
theorem expirePage_draining_roll {b : Fin 4} {c : BandConfig} {s : State} (draining : (s.band b).prog = .draining)
    (roll : c.flipTransition = .roll) : expirePage c b s = enterLeaving c b s := by
  rw [expirePage, if_pos draining, roll]

/-- R145: the new page holds in place of the old one. -/
theorem expirePage_running_cut {b : Fin 4} {c : BandConfig} {s : State} (running : (s.band b).prog ≠ .draining)
    (cut : c.flipTransition = .cut) : expirePage c b s = settlePage c b (pageBuild c b 0 s).1
      (removeFront b (s.band b).window.length (pageBuild c b 0 s).2) := by
  rw [expirePage, if_neg running, cut]

/-- R146: the new page rolls in as the old one rolls out, or, with no new page, the old one leaves. -/
theorem expirePage_running_roll {b : Fin 4} {c : BandConfig} {s : State} (running : (s.band b).prog ≠ .draining)
    (roll : c.flipTransition = .roll) : expirePage c b s =
      if (pageBuild c b ((c.height : Int) - (rollLines c 1 : Int)) s).1 = 0 then
        enterLeaving c b (pageBuild c b ((c.height : Int) - (rollLines c 1 : Int)) s).2
      else setRoll c b 1 (updPage b (fun p => { p with phase := .rolling, hold := 0, outgoing := (s.band b).window.length })
        (pageBuild c b ((c.height : Int) - (rollLines c 1 : Int)) s).2) := by
  rw [expirePage, if_neg running, roll]

/-- R145: window and page of a band whose new page holds in place of the old one. -/
theorem expirePage_cut_band_self {b : Fin 4} {c : BandConfig} {s : State} (running : (s.band b).prog ≠ .draining)
    (cut : c.flipTransition = .cut) :
    ((expirePage c b s).band b).window = ((pageBuild c b 0 s).2.band b).window.drop (s.band b).window.length ∧
    ((expirePage c b s).band b).page = if (pageBuild c b 0 s).1 = 0 then { (s.band b).page with phase := .empty, hold := 0 }
      else { (s.band b).page with phase := .holding, hold := c.flipHold } := by
  obtain ⟨new, -, -, page⟩ := pageBuild_band_self c b 0 s
  rw [expirePage_running_cut running cut, settlePage_eq, State.updBand_band_self, removeFront_band_self, page]
  exact ⟨rfl, rfl⟩

/-- R147: the old page leaves alone when the build took nothing. -/
theorem expirePage_starved_band_self {b : Fin 4} {c : BandConfig} {s : State} (running : (s.band b).prog ≠ .draining)
    (roll : c.flipTransition = .roll) (starved : (pageBuild c b ((c.height : Int) - (rollLines c 1 : Int)) s).1 = 0) :
    ((expirePage c b s).band b).window = raisedTo (-(rollLines c 1 : Int)) (s.band b).window ∧
    ((expirePage c b s).band b).page = ⟨.leaving, 0, 1, (s.band b).window.length⟩ := by
  obtain ⟨new, window, count, -⟩ := pageBuild_band_self c b ((c.height : Int) - (rollLines c 1 : Int)) s
  have none : new = [] := List.length_eq_zero_iff.mp (count.symm.trans starved)
  rw [expirePage_running_roll running roll, if_pos starved, enterLeaving_band_self, window, none, List.append_nil]
  exact ⟨rfl, rfl⟩

/-- R146: the old page and the new one, both at step 1. -/
theorem expirePage_roll_band_self {b : Fin 4} {c : BandConfig} {s : State} (running : (s.band b).prog ≠ .draining)
    (roll : c.flipTransition = .roll) (built : (pageBuild c b ((c.height : Int) - (rollLines c 1 : Int)) s).1 ≠ 0) :
    ((expirePage c b s).band b).window = raisedTo (-(rollLines c 1 : Int)) (s.band b).window ++
      raisedTo ((c.height : Int) - (rollLines c 1 : Int))
        (((pageBuild c b ((c.height : Int) - (rollLines c 1 : Int)) s).2.band b).window.drop (s.band b).window.length) ∧
    ((expirePage c b s).band b).page = ⟨.rolling, 0, 1, (s.band b).window.length⟩ := by
  obtain ⟨new, window, -, -⟩ := pageBuild_band_self c b ((c.height : Int) - (rollLines c 1 : Int)) s
  rw [expirePage_running_roll running roll, if_neg built, setRoll_band_self, updPage_band_self]
  refine ⟨?_, rfl⟩
  show rolledWindow c 1 (s.band b).window.length _ = _
  rw [rolledWindow_eq, window, List.take_left]

/-! ### The ends of a roll -/

/-- R146: the outgoing page is removed, and the incoming page holds. -/
theorem endRoll_band_self (c : BandConfig) (b : Fin 4) (s : State) : (endRoll c b s).band b = { s.band b with
    window := raisedTo 0 ((s.band b).window.drop (s.band b).page.outgoing)
    page := ⟨.holding, c.flipHold, Config.rollStepAfterRoll s.freeIndex % 65, 0⟩ } := by
  rw [endRoll, State.bumpFree_band, updPage_band_self, State.updBand_band_self, removeFront_band_self]
  rfl

/-- The page state that the end of a LEAVING roll leaves before the next build; the roll step and the outgoing count are free values
(log entry 9). -/
def State.leftPage (b : Fin 4) (s : State) : Page :=
  ⟨.empty, (s.band b).page.hold, Config.rollStepAfterRoll s.freeIndex % 65, Config.outgoingAfterLeaving s.freeIndex % 33⟩

/-- R147: the outgoing page is removed, and a RUNNING band builds its next one. -/
theorem endLeaving_eq (c : BandConfig) (b : Fin 4) (s : State) : endLeaving c b s =
    let gone := (removeFront b (s.band b).page.outgoing s).repaged b (s.leftPage b)
      ((removeFront b (s.band b).page.outgoing s).freeIndex + 1)
    if (s.band b).prog = .running then settlePage c b (pageBuild c b 0 gone).1 (pageBuild c b 0 gone).2 else gone := by
  have gone : (updPage b (fun p => ⟨.empty, p.hold, Config.rollStepAfterRoll s.freeIndex % 65,
      Config.outgoingAfterLeaving s.freeIndex % 33⟩) (removeFront b (s.band b).page.outgoing s)).bumpFree =
      (removeFront b (s.band b).page.outgoing s).repaged b (s.leftPage b)
        ((removeFront b (s.band b).page.outgoing s).freeIndex + 1) :=
    congrArg State.bumpFree (State.updBand_congr (by rw [removeFront_band_self]; rfl))
  dsimp only [endLeaving]
  rw [gone]

/-- R147, R148: a DRAINING band whose page has left is EMPTY. -/
theorem endLeaving_draining_band_self {b : Fin 4} (c : BandConfig) {s : State} (draining : (s.band b).prog = .draining) :
    (endLeaving c b s).band b =
      { s.band b with window := (s.band b).window.drop (s.band b).page.outgoing, page := s.leftPage b } := by
  rw [endLeaving_eq]
  dsimp only
  rw [if_neg (by rw [draining]; decide), repaged_band_self, removeFront_band_self]

/-- R147: a RUNNING band whose page has left is as the build leaves it, but for the page state and the free values. -/
theorem endLeaving_running {b : Fin 4} (c : BandConfig) {s : State} (running : (s.band b).prog = .running) :
    endLeaving c b s =
      let built := pageBuild c b 0 (removeFront b (s.band b).page.outgoing s)
      settlePage c b built.1 (built.2.repaged b (s.leftPage b) ((removeFront b (s.band b).page.outgoing s).freeIndex + 1)) := by
  rw [endLeaving_eq]
  dsimp only
  rw [if_pos running, repaged_pageBuild, repagedSnd]

theorem settlePage_repaged_band_self (c : BandConfig) (b : Fin 4) (k : Nat) (p : Page) (n : Nat) (s : State) :
    (settlePage c b k (s.repaged b p n)).band b = { s.band b with
      page := if k = 0 then { p with phase := .empty, hold := 0 } else { p with phase := .holding, hold := c.flipHold } } := by
  rw [settlePage_eq, State.updBand_band_self, repaged_band_self]

theorem settlePage_repaged_frame (c : BandConfig) (b : Fin 4) (k : Nat) (p : Page) (n : Nat) (s : State) :
    settlePage c b k (s.repaged b p n) = { s with
      bands := (settlePage c b k (s.repaged b p n)).bands, freeIndex := (settlePage c b k (s.repaged b p n)).freeIndex } := rfl

/-! ### The page step (R140) -/

theorem settlePage_paged (c : BandConfig) (b : Fin 4) (k : Nat) {p : Page} {s : State} (page : (s.band b).page = p) :
    settlePage c b k s = s.updBand b (fun d => { d with
      page := if k = 0 then { p with phase := .empty, hold := 0 } else { p with phase := .holding, hold := c.flipHold } }) :=
  State.updBand_congr (by rw [page])

/-- R143: an EMPTY page of a RUNNING band. -/
theorem pageStep_empty_running {b : Fin 4} (c : BandConfig) {s : State} (empty : (s.band b).page.phase = .empty)
    (running : (s.band b).prog = .running) :
    pageStep c b s = settlePage c b (pageBuild c b 0 s).1 (pageBuild c b 0 s).2 := by
  rw [pageStep, empty]
  exact if_pos running

theorem pageStep_empty {b : Fin 4} (c : BandConfig) {s : State} (empty : (s.band b).page.phase = .empty)
    (still : (s.band b).prog ≠ .running) : pageStep c b s = s := by
  rw [pageStep, empty]
  exact if_neg still

theorem pageStep_halted {b : Fin 4} (c : BandConfig) {s : State} (shown : (s.band b).page.phase ≠ .empty)
    (halted : (s.band b).halted = true) : pageStep c b s = s := by
  unfold pageStep holdStep rollStep leavingStep
  split
  · next empty => exact absurd empty shown
  all_goals exact if_pos halted

/-- R144: a hold counts down. -/
theorem pageStep_holding {b : Fin 4} (c : BandConfig) {s : State} (holding : (s.band b).page.phase = .holding)
    (moving : (s.band b).halted = false) (more : 1 < (s.band b).page.hold) :
    pageStep c b s = s.updBand b (fun d => { d with page := { (s.band b).page with hold := (s.band b).page.hold - 1 } }) := by
  rw [pageStep, holding]
  show holdStep c b s = _
  rw [holdStep, if_neg (by simp [moving]), if_neg (not_le.mpr more)]
  exact State.updBand_congr rfl

/-- R146, R147: a roll advances. -/
theorem pageStep_roll {b : Fin 4} (c : BandConfig) {s : State}
    (rolls : (s.band b).page.phase = .rolling ∨ (s.band b).page.phase = .leaving) (moving : (s.band b).halted = false)
    (more : (s.band b).page.roll < c.rollFrames) : pageStep c b s = setRoll c b ((s.band b).page.roll + 1) s := by
  have awake : ¬ (s.band b).halted = true := by simp [moving]
  rcases rolls with rolling | leaving
  · rw [pageStep, rolling]
    show rollStep c b s = _
    rw [rollStep, if_neg awake, if_pos more]
  · rw [pageStep, leaving]
    show leavingStep c b s = _
    rw [leavingStep, if_neg awake, if_pos more]

end Sys2Proof.Machine

/-! PROOF. What a page build takes, the transitions of a FLIP band, and its page step (O47). -/

namespace Sys2Proof.Machine

/-! ### The candidates, in the terms of Safety.lean -/

theorem State.wrapSwaps_iff {b : Fin 4} {s : State} :
    s.wrapSwaps b = true ↔ s.wraps b = true ∧ (s.lists b).commit = some .loopEnd := by
  rw [State.wrapSwaps, Bool.and_eq_true, decide_eq_true_eq]

/-- R142: the instance of a candidate. -/
theorem Build.entry_eq {c : BandConfig} {voffset : Int} {x : Build} {width : Nat} (raster : x.state.width = width) (i : Item) :
    x.entry c voffset i = i.shownAt c (pageEnd x.page)
      (if x.page = [] then min width (x.state.slotOf c i.kind) else x.state.slotOf c i.kind) voffset := by
  rw [Build.entry, itemInstance_eq, raster]

theorem Build.took_eq (c : BandConfig) (b : Fin 4) (voffset : Int) (x : Build) (i : Item) : x.took c b voffset i =
    ⟨(x.state.shows b (x.entry c voffset i)).advanced b, x.page ++ [x.entry c voffset i], 0,
      x.state.wraps b || decide (x.page.length + 1 = 32)⟩ := by
  rw [Build.took, advanceCursor_eq, addInstance_eq]

theorem Build.skipped_eq (b : Fin 4) (x : Build) : x.skipped b = ⟨(x.state.raise .itemSkipped (.band b)).advanced b, x.page,
    if x.state.wraps b = true ∧ (x.state.lists b).commit = some .loopEnd then 0 else x.skips + 1,
    x.state.wraps b && decide (x.page ≠ [])⟩ := by
  rw [Build.skipped, advanceCursor_eq]
  exact congrArg (fun k : Nat => (⟨_, x.page, k, _⟩ : Build)) (if_congr State.wrapSwaps_iff rfl rfl)

theorem Build.Step.width {c : BandConfig} {b : Fin 4} {voffset : Int} {x y : Build} (step : Build.Step c b voffset x y) :
    y.state.width = x.state.width := by
  cases step with
  | take => exact ((kept_addInstance ..).trans (kept_advanceCursor ..)).width
  | skip => exact ((kept_raise ..).trans (kept_advanceCursor ..)).width

/-- A chain of candidates on a raster of `width` pixels, as a chain of any relation that holds of each of them. -/
theorem Build.Step.chain {c : BandConfig} {b : Fin 4} {voffset : Int} {width : Nat} {r : Build → Build → Prop}
    (each : ∀ x y, x.state.width = width → Build.Step c b voffset x y → r x y) {x y : Build} (raster : x.state.width = width)
    (steps : Relation.ReflTransGen (Build.Step c b voffset) x y) : Relation.ReflTransGen r x y := by
  induction steps using Relation.ReflTransGen.head_induction_on with
  | refl => exact .refl
  | head step _ ih => exact .head (each _ _ raster step) (ih (step.width.trans raster))

/-! ### The rows -/

theorem State.Paging.kept {b : Fin 4} {s t : State} (h : s.Paging b t) :
    t = { s with
      quotes := t.quotes, ts := { s.ts with stories := t.ts.stories, freeBlocks := t.ts.freeBlocks },
      rls := t.rls, bands := t.bands, au := t.au, freeIndex := t.freeIndex } ∧
    t.band b = { s.band b with
      cursor := (t.band b).cursor, saved := (t.band b).saved, window := (t.band b).window, page := (t.band b).page } ∧
    (∀ k, k ≠ b → t.band k = s.band k ∧ t.lists k = s.lists k) ∧
    (∀ i, (s.quote i).state ≠ .retiring → t.quote i = { s.quote i with count := (t.quote i).count }) ∧
    ∀ i, (s.story i).state ≠ .deleting → t.story i = { s.story i with count := (t.story i).count } :=
  ⟨h.frame, h.own, h.others, h.quote, h.story⟩

/-- R147: the next page of a band that is RUNNING holds, or is EMPTY when the build took nothing; the rest is as the build leaves
it. -/
theorem endLeaving_running_spec {b : Fin 4} (c : BandConfig) {s : State} (running : (s.band b).prog = .running) :
    let built := pageBuild c b 0 (removeFront b (s.band b).page.outgoing s)
    let t := endLeaving c b s
    t = { built.2 with bands := t.bands, freeIndex := t.freeIndex } ∧
    t.band b = { built.2.band b with page := (t.band b).page } ∧
    (built.1 = 0 → (t.band b).page.phase = .empty ∧ (t.band b).page.hold = 0) ∧
    (built.1 ≠ 0 → (t.band b).page.phase = .holding ∧ (t.band b).page.hold = c.flipHold) := by
  intro built t
  have settled : t = settlePage c b built.1 (built.2.repaged b (s.leftPage b) _) := endLeaving_running c running
  have own : t.band b = _ := (congrArg (State.band · b) settled).trans (settlePage_repaged_band_self ..)
  clear_value t
  refine ⟨?_, by rw [own], fun none => ?_, fun some => ?_⟩
  · rw [settled]
    exact settlePage_repaged_frame ..
  · rw [own, if_pos none]
    exact ⟨rfl, rfl⟩
  · rw [own, if_neg some]
    exact ⟨rfl, rfl⟩

/-- R140, R143: the page step of an EMPTY page that builds. -/
theorem pageStep_builds {b : Fin 4} (c : BandConfig) {s : State} (empty : (s.band b).page.phase = .empty)
    (running : (s.band b).prog = .running) :
    let built := pageBuild c b 0 s
    (built.1 = 0 → pageStep c b s = built.2.updBand b (fun d => { d with page := { (s.band b).page with hold := 0 } })) ∧
    (built.1 ≠ 0 → pageStep c b s = built.2.updBand b (fun d => { d with
      page := { (s.band b).page with phase := .holding, hold := c.flipHold } })) := by
  intro built
  obtain ⟨-, -, -, page⟩ := pageBuild_band_self c b 0 s
  rw [pageStep_empty_running c empty running, settlePage_paged c b built.1 page]
  refine ⟨fun none => ?_, fun some => ?_⟩
  · rw [if_pos none, ← empty]
  · rw [if_neg some]

/-! ### The obligation -/

/-- Settles O47: the page build by a chain of its candidates, the rows by what each transition makes of the band's window and page. -/
theorem flipTransitions : Obligations.FlipTransitions := by
  unfold Obligations.FlipTransitions
  refine ⟨fun s b c config flip drawing moving => ?rows, fun s b c voffset within => ?build⟩
  case build =>
    obtain ⟨x, steps, ends, sound, result⟩ := pageBuild_ends c b voffset s within
    refine ⟨x, ?_, ?_, sound.window, result⟩
    · refine Build.Step.chain (width := s.width) (fun x y raster step => ?_) (opened_spec b s within).1 steps
      cases step with
      | @take i candidate admissible fits =>
        rw [raster] at fits
        refine ⟨candidate.going, candidate.more, i, candidate.item, .inl ⟨admissible, fits, ?_⟩⟩
        rw [Build.took_eq, Build.entry_eq raster]
        rfl
      | @skip i candidate admissible =>
        exact ⟨candidate.going, candidate.more, i, candidate.item, .inr ⟨admissible, Build.skipped_eq b x⟩⟩
    · rwa [Build.Ends, sound.raster] at ends
  case rows =>
    have flips : s.Flips b c := ⟨config, flip, drawing, moving⟩
    refine ⟨fun holding last => ?hold, fun rolling last => ?roll, fun leaving last all => ?leave,
      fun not => flips.holdExpired.trans (congrArg _ (if_neg not)), fun not => flips.rollEnd.trans (congrArg _ (if_neg not)),
      fun not => flips.leavingEnd.trans (congrArg _ (if_neg not)), fun halted => ?page⟩
    case hold =>
      refine ⟨expirePage c b s, flips.holdExpired.trans (congrArg _ (if_pos ⟨holding, last⟩)), (paging_expirePage c b s).kept,
        fun draining cut => ?_, fun draining roll => ?_, expirePage_cut_band_self, fun running roll =>
          ⟨expirePage_starved_band_self running roll, expirePage_roll_band_self running roll⟩⟩
      · rw [expirePage_draining_cut draining cut]
        exact ⟨rfl, rfl⟩
      · rw [expirePage_draining_roll draining roll, enterLeaving_band_self]
        exact ⟨rfl, rfl⟩
    case roll =>
      refine ⟨endRoll c b s, flips.rollEnd.trans (congrArg _ (if_pos ⟨rolling, last⟩)), (paging_endRoll c b s).kept, ?_⟩
      rw [endRoll_band_self]
      exact ⟨rfl, rfl, rfl, rfl⟩
    case leave =>
      refine ⟨endLeaving c b s, flips.leavingEnd.trans (congrArg _ (if_pos ⟨leaving, last⟩)), (paging_endLeaving c b s).kept,
        fun draining => ?_, fun draining => ?_, fun running => ?_⟩
      · rw [endLeaving_draining_band_self c draining]
        exact ⟨List.drop_eq_nil_of_le all, rfl⟩
      · rw [endLeaving_draining_band_self c draining]
        rfl
      · exact endLeaving_running_spec c running
    case page =>
      have own : (s.updBand b (fun d => { d with halted := halted })).band b = { s.band b with halted := halted } :=
        State.updBand_band_self ..
      generalize s.updBand b (fun d => { d with halted := halted }) = u at own ⊢
      have page : (u.band b).page = (s.band b).page := by rw [own]
      have prog : (u.band b).prog = (s.band b).prog := by rw [own]
      have motion : (u.band b).halted = halted := by rw [own]
      have same : halted = false → u.Flips b c := fun on =>
        ⟨by rw [own]; exact config, flip, by rw [own]; exact drawing, motion.trans on⟩
      dsimp only
      rw [← page, ← prog]
      refine ⟨pageStep_builds c, pageStep_empty c, fun shown off => pageStep_halted c shown (motion.trans off), fun on =>
        ⟨fun holding more => pageStep_holding c holding (motion.trans on) more, fun holding last => ?_,
          fun rolls more => pageStep_roll c rolls (motion.trans on) more, fun rolling last => ?_, fun leaving last => ?_⟩⟩
      · rw [(same on).holdExpired, if_pos ⟨holding, last⟩,
          expirePage_eq_pageStep c (motion.trans on) (holdDue_iff.mpr ⟨holding, last⟩)]
      · rw [(same on).rollEnd, if_pos ⟨rolling, last⟩,
          endRoll_eq_pageStep c (motion.trans on) (rollDue_iff.mpr ⟨rolling, last⟩)]
      · rw [(same on).leavingEnd, if_pos ⟨leaving, last⟩,
          endLeaving_eq_pageStep c (motion.trans on) (leavingDue_iff.mpr ⟨leaving, last⟩)]

end Sys2Proof.Machine

/-! PROOF. BREAK NEXT, BREAK NOW and BREAK CLEAR: the checks in their order, the place of an entry in the break queue, and the saved
cursor (O45). -/

namespace Sys2Proof.Machine

/-! ### The break queue (R126) -/

/-- R126: when the NOW entries stand in front of the NEXT entries, a NOW entry takes its place between them. -/
theorem placeBreak_now (story : Ref) (k : Nat) {nows nexts : List BreakEntry} (now : ∀ e ∈ nows, e.urgency = .now)
    (next : ∀ e ∈ nexts, e.urgency = .next) :
    placeBreak ⟨story, .now, k⟩ (nows ++ nexts) = nows ++ ⟨story, .now, k⟩ :: nexts := by
  have front : ∀ e ∈ nows, decide (e.urgency = .now) = true := fun e h => decide_eq_true (now e h)
  rw [placeBreak, List.takeWhile_append_of_pos front, List.dropWhile_append_of_pos front]
  cases nexts with
  | nil => simp
  | cons e rest => simp [next e List.mem_cons_self]

/-! ### The judgement of a break (R127, R128) -/

/-- R127, R135: a band that takes no break and no BREAK CLEAR, by its presentation or its program state. -/
def Band.ClosedToBreaks (d : Band) : Prop :=
  d.presentation = some .flip ∨ d.prog = .off ∨ d.prog = .ready ∨ d.prog = .draining

theorem takeBreak_closed {s : State} {b : Fin 4} (e : BreakEntry) (closed : (s.band b).ClosedToBreaks) :
    takeBreak b e s = resultOnly .wrongMode s :=
  if_pos closed

theorem takeBreak_unresolved {s : State} {b : Fin 4} {e : BreakEntry} (closed : ¬ (s.band b).ClosedToBreaks)
    (unresolved : s.resolvesStory e.story = false) : takeBreak b e s = resultOnly .notFound s :=
  (if_neg closed).trans (if_pos (by rw [unresolved]; rfl))

/-- R128: a break in an open band, of a story that resolves, is judged by the room in the break queue. -/
theorem takeBreak_resolved {s : State} {b : Fin 4} {e : BreakEntry} (closed : ¬ (s.band b).ClosedToBreaks)
    (resolved : s.resolvesStory e.story = true) :
    takeBreak b e s =
      if 4 ≤ (s.band b).breaks.length then resultOnly .busy s
      else resultOnly .good
        (if e.urgency = .now ∧ (s.band b).prog = .running then
          (s.updBand b (fun d => { d with breaks := placeBreak e d.breaks, saved := some d.cursor, prog := .clearing })).raise
            .bandState (.band b)
        else s.updBand b (fun d => { d with breaks := placeBreak e d.breaks })) := by
  refine (if_neg closed).trans ((if_neg (by rw [resolved]; decide)).trans ?_)
  dsimp only
  rw [State.updBand_updBand, changeProg_updBand]

/-! ### BREAK CLEAR (R135) -/

theorem takeBreakClear_closed {s : State} {b : Fin 4} (closed : (s.band b).ClosedToBreaks) :
    takeBreakClear b s = resultOnly .wrongMode s := by
  unfold takeBreakClear
  rcases closed with flip | off | ready | draining
  · exact if_pos flip
  · rw [off, ite_self]
  · rw [ready, ite_self]
  · rw [draining, ite_self]

theorem takeBreakClear_running {s : State} {b : Fin 4} (closed : ¬ (s.band b).ClosedToBreaks) (running : (s.band b).prog = .running) :
    takeBreakClear b s = resultOnly .good (s.updBand b (fun d => { d with breaks := [] })) := by
  rw [takeBreakClear, if_neg (closed ∘ .inl), running]

/-- R135: a CLEARING or BREAKING band has its context back. -/
theorem takeBreakClear_interrupted {s : State} {b : Fin 4} (closed : ¬ (s.band b).ClosedToBreaks)
    (interrupted : (s.band b).prog ≠ .running) :
    takeBreakClear b s = resultOnly .good ((s.updBand b (fun d =>
      { d with breaks := [], cursor := d.saved.getD d.cursor, saved := none, prog := .running })).raise .bandState (.band b)) := by
  have restored := changeProg_updBand b .running (fun d => { d.restoreContext with breaks := [] }) s
  rw [takeBreakClear, if_neg (closed ∘ .inl)]
  cases prog : (s.band b).prog with
  | off => exact absurd (.inr (.inl prog)) closed
  | ready => exact absurd (.inr (.inr (.inl prog))) closed
  | draining => exact absurd (.inr (.inr (.inr prog))) closed
  | running => exact absurd prog interrupted
  | clearing => exact congrArg (resultOnly .good) restored
  | breaking => exact congrArg (resultOnly .good) restored

/-- Settles O45: the breaks by the checks of R127 in their order, and BREAK CLEAR by the program state. -/
theorem breaks : Obligations.Breaks := by
  unfold Obligations.Breaks
  intro s ticket b running d answer closed
  have answers : ∀ {q : BandRequest} {r : Result} {t : State}, judgeRequest false b q s = resultOnly r t →
      Host.Outcome.next (takeAlone (.editorial ticket) b q s) = answer r t := fun e =>
    congrArg Host.Outcome.next ((takeAlone_of_running _ b _ running).trans (by rw [e]; rfl))
  refine ⟨fun story k => ?_, fun shut => answers (takeBreakClear_closed shut),
    fun opened run => answers (takeBreakClear_running opened run),
    fun opened run => answers (takeBreakClear_interrupted opened run)⟩
  have judged : ∀ {r : Result} {t : State}, (∀ u : Urgency, takeBreak b ⟨story, u, k⟩ s = resultOnly r t) →
      exec (.breakNext ticket b story k) s = answer r t ∧ exec (.breakNow ticket b story k) s = answer r t :=
    fun e => ⟨answers (e .next), answers (e .now)⟩
  refine ⟨fun shut => judged fun u => takeBreak_closed _ shut,
    fun opened unresolved => judged fun u => takeBreak_unresolved opened unresolved,
    fun opened resolved full => judged fun u => (takeBreak_resolved opened resolved).trans (if_pos full),
    fun opened resolved room => ?_⟩
  have placed : ∀ u : Urgency, takeBreak b ⟨story, u, k⟩ s = _ := fun u =>
    (takeBreak_resolved opened resolved).trans (if_neg (not_le.mpr room))
  refine ⟨answers (placed .next), fun nows nexts split now next => ?_⟩
  have queue : placeBreak ⟨story, .now, k⟩ (s.band b).breaks = nows ++ ⟨story, .now, k⟩ :: nexts := by
    rw [show (s.band b).breaks = nows ++ nexts from split, placeBreak_now story k now next]
  refine ⟨fun other => answers ((placed .now).trans ?_), fun run => answers ((placed .now).trans ?_)⟩
  · rw [if_neg (fun h => other h.2)]
    exact congrArg (resultOnly .good) (State.updBand_congr (by rw [queue]))
  · rw [if_pos ⟨rfl, run⟩]
    exact congrArg (fun t : State => resultOnly .good (t.raise .bandState (.band b))) (State.updBand_congr (by rw [queue]))

end Sys2Proof.Machine

/-! PROOF. The timing unit and the frame start that it hands to the blocks: when a frame start is given (O5), and what no block
changes at it (O6). -/

namespace Sys2Proof.Machine

/-! ### What no frame start changes -/

theorem kept_frameBlocks (order : List Block) : ∀ (sampled : Bool) (s : State), s.Kept (frameBlocks order sampled s) := by
  induction order with
  | nil => exact fun _ s => .refl s
  | cons k t ih =>
    intro sampled s
    cases k with
    | quotes => exact (kept_quoteFrameStart s).trans (ih ..)
    | feed => exact (kept_feedFrameStart s).trans (ih ..)
    | band b => exact (kept_bandFrameStart sampled b s).trans (ih ..)
    | compositor => exact (kept_compositorFrameStart s).trans (ih ..)

/-- Settles O6: every block keeps what `State.Kept` lists. -/
theorem frameStartFrame : Obligations.FrameStartFrame := by
  unfold Obligations.FrameStartFrame
  intro order s sampled t
  have kept : s.Kept t := kept_frameBlocks order sampled s
  exact ⟨kept.run, kept.straps, kept.cleanPin, kept.tu, kept.flashSetting, kept.lane, kept.fault, kept.bad, kept.tx,
    kept.uePointer, kept.gs, kept.text, kept.loadTarget, kept.banks, kept.editStaging, kept.pins, kept.master, kept.pbi,
    kept.frames, kept.pending, kept.quoteGen, kept.storyGen, kept.eli⟩

/-! ### When the timing unit gives a frame start -/

theorem State.guarded_iff {s : State} {time : Nat} :
    s.guarded time = true ↔ 4 * (time - s.tu.lastFrame) < 3 * s.period := decide_eq_true_iff

/-- R154: while the device runs, the blocks take the frame start in the order of a free value. -/
theorem frameStart_running {s : State} (running : s.run = .running) : frameStart s = frameBlocks (blockOrder s.freeIndex) false
    { s with frames := s.frames + 1, freeIndex := s.freeIndex + 1 } := by
  rw [frameStart, running]
  rfl

/-- R155: before INIT DONE a frame start begins a frame of the pixel port at the most. -/
theorem frameStart_idle {s : State} (idle : s.run ≠ .running) : frameStart s =
    { s with frames := if s.run = .initialising then s.frames + 1 else s.frames } := by
  unfold frameStart
  split
  · next held => rw [if_neg (by rw [held]; nofun)]
  · next initialising => rw [if_pos initialising]
  · next running => exact absurd running idle

theorem raiseTiming_running {s : State} (running : s.run = .running) : raiseTiming s = s.raise .timing .none := if_pos running

theorem raiseTiming_idle {s : State} (idle : s.run ≠ .running) : raiseTiming s = s := if_neg idle

/-- R152: a pulse within the guard of a LOCKED unit. -/
theorem exec_referencePulse_guarded {s : State} {time : Nat} (locked : s.tu.lock = .locked)
    (guard : 4 * (time - s.tu.lastFrame) < 3 * s.period) : exec (.referencePulse time) s = .next s :=
  congrArg Host.Outcome.next ((if_pos locked).trans (if_pos (State.guarded_iff.mpr guard)))

/-- R152: a pulse outside it. -/
theorem exec_referencePulse_locked {s : State} {time : Nat} (locked : s.tu.lock = .locked)
    (late : 3 * s.period ≤ 4 * (time - s.tu.lastFrame)) :
    exec (.referencePulse time) s = .next (frameStart { s with tu := ⟨.locked, time⟩ }) :=
  congrArg Host.Outcome.next ((if_pos locked).trans (if_neg (fun guard => absurd (State.guarded_iff.mp guard) (not_lt.mpr late))))

/-- R153: a pulse in SEEKING or FREE-RUN. -/
theorem exec_referencePulse_unlocked {s : State} {time : Nat} (unlocked : s.tu.lock ≠ .locked) :
    exec (.referencePulse time) s = .next (frameStart (raiseTiming { s with tu := ⟨.locked, time⟩ })) :=
  congrArg Host.Outcome.next (if_neg unlocked)

theorem exec_lossLimit_locked {s : State} (locked : s.tu.lock = .locked) : exec .lossLimit s =
    .next (frameStart (raiseTiming { s with tu := ⟨.freeRun, s.tu.lastFrame + 5 * s.period / 4⟩ })) :=
  congrArg Host.Outcome.next (if_pos locked)

theorem exec_freeRunPeriod_unlocked {s : State} (unlocked : s.tu.lock ≠ .locked) :
    exec .freeRunPeriod s = .next (frameStart { s with tu := ⟨s.tu.lock, s.tu.lastFrame + s.period⟩ }) :=
  congrArg Host.Outcome.next (if_neg unlocked)

/-- Settles O5: each row of the timing unit by its lock state, and the frame start by the run mode. -/
theorem frameStarts : Obligations.FrameStarts := by
  unfold Obligations.FrameStarts
  refine ⟨?running, ?idle, fun s => ⟨fun unlocked => congrArg Host.Outcome.next (if_neg unlocked),
    fun locked => congrArg Host.Outcome.next (if_pos locked)⟩, rfl, fun rest sampled s => ⟨rfl, rfl, rfl, fun _ => rfl, rfl⟩⟩
  case running =>
    intro s running starts
    have starting : ∀ {i : Instr} (t : State) (tu : Tu), t.run = .running → t.frames = s.frames → t.freeIndex = s.freeIndex →
        exec i s = .next (frameStart { t with tu := tu }) → starts i t tu := by
      intro i t tu mode frames index row
      refine ⟨blockOrder s.freeIndex, blockOrder_perm _, row.trans (congrArg _ ?_)⟩
      rw [frameStart_running (s := { t with tu := tu }) mode]
      simp only [frames, index]
    have timed : ∀ {i : Instr} (tu : Tu), exec i s = .next (frameStart (raiseTiming { s with tu := tu })) →
        starts i (s.raise .timing .none) tu := fun tu row => by
      rw [raiseTiming_running (s := { s with tu := tu }) running] at row
      exact starting (s.raise .timing .none) tu running rfl rfl row
    exact ⟨fun _ => exec_referencePulse_guarded,
      fun time locked late => starting s _ running rfl rfl (exec_referencePulse_locked locked late),
      fun time unlocked => timed _ (exec_referencePulse_unlocked unlocked),
      fun locked => timed _ (exec_lossLimit_locked locked),
      fun unlocked => starting s _ running rfl rfl (exec_freeRunPeriod_unlocked unlocked)⟩
  case idle =>
    intro s idle moves
    have moving : ∀ {i : Instr} (tu : Tu), exec i s = .next (frameStart { s with tu := tu }) → moves i tu := fun tu row =>
      row.trans (congrArg _ (frameStart_idle (s := { s with tu := tu }) idle))
    have untimed : ∀ {i : Instr} (tu : Tu), exec i s = .next (frameStart (raiseTiming { s with tu := tu })) → moves i tu :=
      fun tu row => by
        rw [raiseTiming_idle (s := { s with tu := tu }) idle] at row
        exact moving tu row
    exact ⟨fun _ => exec_referencePulse_guarded, fun time locked late => moving _ (exec_referencePulse_locked locked late),
      fun time unlocked => untimed _ (exec_referencePulse_unlocked unlocked),
      fun locked => untimed _ (exec_lossLimit_locked locked), fun unlocked => moving _ (exec_freeRunPeriod_unlocked unlocked)⟩

end Sys2Proof.Machine

/-! PROOF. The settings of the output pins and of the attention unit (O37), and what the lines, the tallies, the pins and the events
are of the state (O38). -/

namespace Sys2Proof.Machine

/-! ### Coded parameters (R185) -/

theorem yesNoOf_of_le {n : Nat} (h : n ≤ 1) : yesNoOf n = some (decide (n = 1)) := by
  match n with
  | 0 => rfl
  | 1 => rfl

theorem yesNoOf_of_lt {n : Nat} (h : 1 < n) : yesNoOf n = none :=
  Option.not_isSome_iff_eq_none.mp (fun some => absurd (yesNoOf_isSome.mp some) (not_le.mpr h))

theorem yesNoOf_of_bit (v : Bool) : yesNoOf (bit v) = some v := by cases v <;> rfl

theorem four_of_lt {n : Nat} (h : 3 < n) : four n = none := dif_neg (by omega)

theorem masterOf_of_lt {n : Nat} (h : 2 < n) : masterOf n = none := by
  obtain ⟨k, rfl⟩ : ∃ k, n = k + 3 := ⟨n - 3, by omega⟩
  rfl

/-- R164: 3 is no function select, and 8 is the last. -/
theorem pinSelectOf_outside {n : Nat} (h : n = 3 ∨ 8 < n) : pinSelectOf n = none := by
  obtain rfl | above := h
  · rfl
  · obtain ⟨k, rfl⟩ : ∃ k, n = k + 9 := ⟨n - 9, by omega⟩
    rfl

/-! ### The owners' answers -/

theorem editorialSoftClean_of_le {v : Nat} (h : v ≤ 1) (s : State) :
    editorialSoftClean v s = (good, { s with cmp := { s.cmp with edFlag := decide (v = 1) } }) := by
  rw [editorialSoftClean, yesNoOf_of_le h]
  rfl

theorem editorialSoftClean_of_lt {v : Nat} (h : 1 < v) (s : State) : editorialSoftClean v s = (badParam, s) := by
  rw [editorialSoftClean, yesNoOf_of_lt h]

theorem panelSoftClean_of_le {v : Nat} (h : v ≤ 1) (s : State) :
    panelSoftClean v s = { s with cmp := { s.cmp with panelFlag := decide (v = 1) } } := by
  rw [panelSoftClean, yesNoOf_of_le h]
  rfl

theorem panelSoftClean_of_lt {v : Nat} (h : 1 < v) (s : State) :
    panelSoftClean v s = s.raise .commandRefused (.master .panel) := by
  rw [panelSoftClean, yesNoOf_of_lt h]

theorem setPin_of_codes {code : Nat} {select : PinSelect} (n : Fin 4) (mode level : Bool) (named : pinSelectOf code = some select)
    (s : State) : setPin n.val (bit mode) code (bit level) s = (good, { s with pins := tset s.pins n ⟨mode, select, level⟩ }) := by
  rw [setPin, four_fin, yesNoOf_of_bit, yesNoOf_of_bit, named]

theorem setPin_outside {pin mode code level : Nat} (h : 3 < pin ∨ 1 < mode ∨ 1 < level ∨ code = 3 ∨ 8 < code) (s : State) :
    setPin pin mode code level s = (badParam, s) := by
  unfold setPin
  split
  · next pins modes selects levels =>
    rcases h with out | out | out | out
    · cases (four_of_lt out).symm.trans pins
    · cases (yesNoOf_of_lt out).symm.trans modes
    · cases (yesNoOf_of_lt out).symm.trans levels
    · cases (pinSelectOf_outside out).symm.trans selects
  · rfl

/-- R187: sixteen levels of 0 to 7 make a level table. -/
theorem setLevels_inside {master : Nat} {m : Master} {levels : List Nat} (named : masterOf master = some m)
    (length : levels.length = 16) (range : ∀ l ∈ levels, l ≤ 7) : ∃ table : Vector Nat 16, tlist table = levels ∧
      ∀ s, setLevels master levels s = (good, s.updMaster m (fun t => { t with levels := table })) := by
  refine ⟨⟨levels.toArray, by simpa using length⟩, rfl, fun s => ?_⟩
  rw [setLevels, named]
  dsimp only
  rw [dif_pos length, if_pos (List.all_eq_true.mpr (fun l mem => decide_eq_true (range l mem)))]

theorem setLevels_outside {master : Nat} {levels : List Nat} (h : 2 < master ∨ ∃ l ∈ levels, 7 < l) (s : State) :
    setLevels master levels s = (badParam, s) := by
  unfold setLevels
  split
  · rfl
  · next named =>
    split
    · refine if_neg (fun all => ?_)
      obtain out | ⟨l, mem, high⟩ := h
      · cases (masterOf_of_lt out).symm.trans named
      · exact absurd (of_decide_eq_true (List.all_eq_true.mp all l mem)) (not_le.mpr high)
    · rfl

/-! ### The settings -/

/-- Settles O37: each command through the owner's answer (R170), and each panel command while the device runs (R177). -/
theorem outputAndAttentionSettings : Obligations.OutputAndAttentionSettings := by
  unfold Obligations.OutputAndAttentionSettings
  refine ⟨fun _ _ => rfl, fun s h k zero => ?editorial, fun s running => ?panel⟩
  case panel =>
    have runs : ∀ {f : State → State} {t : State}, f s = t →
        Host.Outcome.next (ρ := Refusal) (φ := Fault) (whenRunning f s) = .next t :=
      fun e => congrArg Host.Outcome.next ((whenRunning_running running _).trans e)
    exact ⟨fun v low => runs (panelSoftClean_of_le low s), fun v high => runs (panelSoftClean_of_lt high s),
      fun v low => runs (if_pos low), fun v high => runs (if_neg (not_le.mpr high))⟩
  case editorial =>
    have ends : ∀ {c : EdCommand} {r : Result} {t : State}, dataUse c = .none →
        commandPhase c h.dataLength (s.takes .idle h c) = (.answer r noValues, t.takes .idle h c) →
        Host.Outcome.next (ρ := Refusal) (φ := Fault) (edCommand h c s) = .next (t.answers h c r noValues) :=
      fun use phase => congrArg Host.Outcome.next (edCommand_answer k use zero phase)
    refine ⟨fun v low => ends rfl (editorialSoftClean_of_le low _), fun v high => ends rfl (editorialSoftClean_of_lt high _),
      fun n mode level code select mem => ends rfl (setPin_of_codes n mode level ?_ _),
      fun pin mode code level out => ends rfl (setPin_outside out _), fun master m levels mem length range => ?_,
      fun master levels out => ends rfl (setLevels_outside out _), fun v low => ends rfl (if_pos low),
      fun v high => ends rfl (if_neg (not_le.mpr high))⟩
    · simp only [List.mem_cons, Prod.mk.injEq, List.not_mem_nil, or_false] at mem
      rcases mem with ⟨rfl, rfl⟩ | ⟨rfl, rfl⟩ | ⟨rfl, rfl⟩ | ⟨rfl, rfl⟩ | ⟨rfl, rfl⟩ | ⟨rfl, rfl⟩ | ⟨rfl, rfl⟩ | ⟨rfl, rfl⟩ <;> rfl
    · have named : masterOf master = some m := by
        simp only [List.mem_cons, Prod.mk.injEq, List.not_mem_nil, or_false] at mem
        rcases mem with ⟨rfl, rfl⟩ | ⟨rfl, rfl⟩ | ⟨rfl, rfl⟩ <;> rfl
      obtain ⟨table, entries, stored⟩ := setLevels_inside named length range
      exact ⟨table, entries, ends rfl (stored _)⟩

/-! ### Lines, tallies and pins -/

/-- R188. -/
theorem State.attention_iff {s : State} {m : Master} : s.attention m = true ↔
    ∃ e ∈ (s.au.get m).pending, (s.au.get m).threshold < (s.au.get m).level e.kind := by
  simp [State.attention, MasterSet.attention]

/-- R101: the drawing states are all but OFF and READY. -/
theorem Prog.drawing_iff {p : Prog} : p.drawing = true ↔ p ≠ .off ∧ p ≠ .ready := by cases p <;> decide

/-- R163. -/
theorem State.tally_iff {s : State} {b : Fin 4} : s.tally b = true ↔
    (s.band b).prog ≠ .off ∧ (s.band b).prog ≠ .ready ∧ (s.vis b).state ≠ .hidden := by
  rw [State.tally, Bool.and_eq_true, decide_eq_true_iff, Prog.drawing_iff, and_assoc]

/-! ### Events raised (R186) -/

theorem MasterSet.record_of_silent {m : MasterSet} {e : Event} (silent : m.level e.kind = 0) : m.record e = m := if_pos silent

theorem MasterSet.record_of_idle {m : MasterSet} {e : Event} (above : 0 < m.level e.kind) (idle : m.latch = none) :
    m.record e = { m with pending := addEvent m.pending e } :=
  (if_neg above.ne').trans (if_neg (by rw [idle]; nofun))

theorem MasterSet.record_of_reading {m : MasterSet} {e : Event} (above : 0 < m.level e.kind) (reading : m.latch ≠ none) :
    m.record e = { m with hold := addEvent m.hold e } :=
  (if_neg above.ne').trans (if_pos (Option.isSome_iff_ne_none.mpr reading))

/-- Settles O38: the indications by their definitions, and what a raised pair does to the sets of one master. -/
theorem eventsLinesAndPins : Obligations.EventsLinesAndPins := by
  unfold Obligations.EventsLinesAndPins
  refine ⟨⟨fun s m => State.attention_iff, fun s b => State.tally_iff, fun s n => ⟨fun level => ?_, fun function => ?_⟩⟩,
    fun s k src m => ?_⟩
  · exact if_neg (by rw [level]; nofun)
  · rw [State.driven, if_pos function]
    cases (s.pin n).select <;> rfl
  · intro old new e
    have recorded : new = old.record e := State.raise_get s k src m
    rw [recorded]
    exact ⟨MasterSet.record_of_silent (e := e), MasterSet.record_of_idle (e := e), MasterSet.record_of_reading (e := e), rfl⟩

end Sys2Proof.Machine

/-! PROOF. The visibility of the bands and the compositor's action of a frame start (O39). -/

namespace Sys2Proof.Machine

/-! ### One step of a visibility (R160) -/

/-- The step of a band fully shown. -/
theorem fullStep_eq (fade : Nat) : fullStep fade = if fade = 0 then 1 else fade := by
  unfold fullStep
  split <;> omega

theorem moveVisibility_down {v : Visibility} (full : Nat) (visible : v.state ≠ .hidden) :
    moveVisibility true full v = if v.step ≤ 1 then ⟨.hidden, 0⟩ else ⟨.fadingOut, v.step - 1⟩ := by
  unfold moveVisibility
  cases state : v.state with
  | hidden => exact absurd state visible
  | shown => rfl
  | fadingOut => rfl
  | fadingIn => rfl

theorem moveVisibility_up {v : Visibility} (full : Nat) (faded : v.state ≠ .shown) :
    moveVisibility false full v = if full ≤ v.step + 1 then ⟨.shown, full⟩ else ⟨.fadingIn, v.step + 1⟩ := by
  unfold moveVisibility
  cases state : v.state with
  | shown => exact absurd state faded
  | hidden => rfl
  | fadingOut => rfl
  | fadingIn => rfl

theorem moveVisibility_hidden {v : Visibility} (full : Nat) (hidden : v.state = .hidden) : moveVisibility true full v = v := by
  cases v
  cases hidden
  rfl

theorem moveVisibility_shown {v : Visibility} (full : Nat) (shown : v.state = .shown) : moveVisibility false full v = v := by
  cases v
  cases shown
  rfl

/-! ### The move of one band -/

theorem State.setVis_same {s : State} {b : Fin 4} {v : Visibility} (h : v = s.vis b) : s.setVis b v = s := by
  have table : tset s.cmp.vis b v = s.cmp.vis := table_ext fun k => by
    rw [tget_tset]
    split
    · next e => rw [h, e]; rfl
    · rfl
  rw [State.setVis, table]

@[simp] theorem State.setVis_vis_self (s : State) (b : Fin 4) (v : Visibility) : (s.setVis b v).vis b = v := by
  rw [State.setVis_vis, if_pos rfl]

theorem moveBand_of_drawing {s : State} {b : Fin 4} {c : BandConfig} (clean : Bool) (config : (s.band b).config = some c)
    (drawing : (s.band b).prog.drawing = true) :
    moveBand clean b s = s.setVis b (moveVisibility clean (fullStep c.fade) (s.vis b)) := by
  rw [moveBand, config]
  exact if_pos drawing

theorem moveBand_of_idle {s : State} {b : Fin 4} (clean : Bool) (idle : (s.band b).prog.drawing = false) :
    moveBand clean b s = s := by
  unfold moveBand
  split
  · rfl
  · exact if_neg (by simp [idle])

theorem moveBand_of_unconfigured {s : State} {b : Fin 4} (clean : Bool) (config : (s.band b).config = none) :
    moveBand clean b s = s := by
  rw [moveBand, config]

/-- A move changes the visibility of its band alone. -/
theorem moveBand_eq (clean : Bool) (b : Fin 4) (s : State) : moveBand clean b s = s.setVis b ((moveBand clean b s).vis b) := by
  cases config : (s.band b).config with
  | none => rw [moveBand_of_unconfigured clean config, State.setVis_same rfl]
  | some c =>
    cases drawing : (s.band b).prog.drawing with
    | false => rw [moveBand_of_idle clean drawing, State.setVis_same rfl]
    | true => rw [moveBand_of_drawing clean config drawing, State.setVis_vis_self]

@[simp] theorem moveBand_band (clean : Bool) (b k : Fin 4) (s : State) : (moveBand clean b s).band k = s.band k := by
  rw [moveBand_eq, State.setVis_band]

theorem moveBand_vis_other {b k : Fin 4} (clean : Bool) (s : State) (other : k ≠ b) :
    (moveBand clean b s).vis k = s.vis k := by
  rw [moveBand_eq, State.setVis_vis, if_neg other.symm]

/-- A move is settled by its band and that band's visibility. -/
theorem moveBand_vis_congr {s t : State} {b : Fin 4} (clean : Bool) (band : t.band b = s.band b) (vis : t.vis b = s.vis b) :
    (moveBand clean b t).vis b = (moveBand clean b s).vis b := by
  cases config : (s.band b).config with
  | none => rw [moveBand_of_unconfigured clean config, moveBand_of_unconfigured clean (band ▸ config), vis]
  | some c =>
    cases drawing : (s.band b).prog.drawing with
    | false => rw [moveBand_of_idle clean drawing, moveBand_of_idle clean (band ▸ drawing), vis]
    | true =>
      rw [moveBand_of_drawing clean config drawing, moveBand_of_drawing clean (band ▸ config) (band ▸ drawing), vis,
        State.setVis_vis_self, State.setVis_vis_self]

/-! ### The moves of several bands -/

/-- R160: the bands of a list move, one after another. -/
def moveBands (clean : Bool) (l : List (Fin 4)) (s : State) : State := l.foldl (fun t b => moveBand clean b t) s

/-- Each band moves by itself. -/
theorem moveBands_vis (clean : Bool) (b : Fin 4) (l : List (Fin 4)) : ∀ s : State, l.Nodup →
    (moveBands clean l s).vis b = if b ∈ l then (moveBand clean b s).vis b else s.vis b := by
  induction l with
  | nil => exact fun _ _ => rfl
  | cons k l ih =>
    intro s distinct
    obtain ⟨new, rest⟩ := List.nodup_cons.mp distinct
    refine (ih (moveBand clean k s) rest).trans ?_
    by_cases same : b = k
    · subst same
      rw [if_neg new, if_pos List.mem_cons_self]
    · have before := moveBand_vis_other clean s same
      rw [before, moveBand_vis_congr clean (moveBand_band ..) before]
      simp only [List.mem_cons, same, false_or]

/-- Between `s` and `t` no more changes than the visibility of bands. -/
def State.VisOnly (s t : State) : Prop := t = { s with cmp := { s.cmp with vis := t.cmp.vis } }

theorem State.VisOnly.trans {s t u : State} (h : s.VisOnly t) (k : t.VisOnly u) : s.VisOnly u := by
  unfold State.VisOnly at *
  rw [k, h]

theorem visOnly_moveBand (clean : Bool) (b : Fin 4) (s : State) : s.VisOnly (moveBand clean b s) := by
  rw [moveBand_eq]
  rfl

theorem visOnly_moveBands (clean : Bool) (l : List (Fin 4)) : ∀ s : State, s.VisOnly (moveBands clean l s) := by
  induction l with
  | nil => exact fun _ => rfl
  | cons k l ih => exact fun s => (visOnly_moveBand clean k s).trans (ih _)

/-! ### The judgement of CLEAN ACK (R162) -/

theorem State.allHidden_iff {s : State} :
    s.allHidden = true ↔ ∀ b, (s.band b).prog.drawing = true → (s.vis b).state = .hidden := by
  simp only [State.allHidden, List.all_eq_true, List.mem_finRange, true_imp_iff]
  refine forall_congr' fun b => ?_
  cases (s.band b).prog.drawing <;> simp

theorem judgeAck_clear (s : State) : judgeAck false s = { s with cmp := { s.cmp with ack := false } } := rfl

theorem judgeAck_hidden {s : State} (hidden : s.allHidden = true) :
    judgeAck true s = { s with cmp := { s.cmp with ack := true } } := if_pos hidden

theorem judgeAck_visible {s : State} (visible : ¬ s.allHidden = true) : judgeAck true s = s := if_neg visible

/-- R162: CLEAN ACK alone is judged. -/
theorem judgeAck_frame (clean : Bool) (s : State) :
    judgeAck clean s = { s with cmp := { s.cmp with ack := (judgeAck clean s).cmp.ack } } := by
  cases clean with
  | false => rfl
  | true =>
    by_cases hidden : s.allHidden = true
    · rw [judgeAck_hidden hidden]
    · rw [judgeAck_visible hidden]

/-! ### The compositor's action of a frame start -/

/-- R159: the request is sampled. -/
def State.sampledClean (s : State) : State := { s with cmp := { s.cmp with sampled := s.cleanRequested } }

/-- R159, R160: the bands after their moves. -/
def State.visMoved (s : State) : State := moveBands s.cleanRequested (List.finRange 4) s.sampledClean

theorem compositorFrameStart_eq (s : State) : compositorFrameStart s = judgeAck s.cleanRequested s.visMoved := rfl

theorem visOnly_visMoved (s : State) : s.sampledClean.VisOnly s.visMoved := visOnly_moveBands ..

theorem visMoved_band (s : State) (b : Fin 4) : s.visMoved.band b = s.band b := by
  rw [visOnly_visMoved s]
  rfl

theorem visMoved_vis (s : State) (b : Fin 4) : s.visMoved.vis b = (moveBand s.cleanRequested b s).vis b := by
  have moved := moveBands_vis s.cleanRequested b (List.finRange 4) s.sampledClean (List.nodup_finRange 4)
  rw [if_pos (List.mem_finRange b)] at moved
  exact moved.trans (moveBand_vis_congr (s := s) _ rfl rfl)

/-- What the action changes. -/
theorem compositorFrameStart_frame (s : State) : compositorFrameStart s = { s with cmp := { s.cmp with
    sampled := s.cleanRequested, ack := (compositorFrameStart s).cmp.ack, vis := (compositorFrameStart s).cmp.vis } } := by
  have judged := judgeAck_frame s.cleanRequested s.visMoved
  have moved : s.visMoved = _ := visOnly_visMoved s
  have vis : (judgeAck s.cleanRequested s.visMoved).cmp.vis = s.visMoved.cmp.vis := by rw [judged]
  rw [compositorFrameStart_eq, vis]
  refine judged.trans ?_
  generalize (judgeAck s.cleanRequested s.visMoved).cmp.ack = ack
  rw [moved]
  rfl

theorem compositorFrameStart_band (s : State) (b : Fin 4) : (compositorFrameStart s).band b = s.band b := by
  rw [compositorFrameStart_frame]
  rfl

theorem compositorFrameStart_vis (s : State) (b : Fin 4) :
    (compositorFrameStart s).vis b = (moveBand s.cleanRequested b s).vis b := by
  rw [compositorFrameStart_eq, judgeAck_frame, ← visMoved_vis]
  rfl

/-- R162: without a request CLEAN ACK is low. -/
theorem compositorFrameStart_ack_clear {s : State} (clear : s.cleanRequested = false) :
    (compositorFrameStart s).cmp.ack = false := by
  rw [compositorFrameStart_eq, clear, judgeAck_clear]

/-- R162: with a request it is high when every band that draws is HIDDEN, and else as it was. -/
theorem compositorFrameStart_ack_clean {s : State} (clean : s.cleanRequested = true) :
    (compositorFrameStart s).cmp.ack = (s.cmp.ack || s.visMoved.allHidden) := by
  have kept : s.visMoved.cmp.ack = s.cmp.ack := by rw [visOnly_visMoved s]; rfl
  rw [compositorFrameStart_eq, clean]
  by_cases hidden : s.visMoved.allHidden = true
  · rw [judgeAck_hidden hidden, hidden, Bool.or_true]
  · rw [judgeAck_visible hidden, kept, Bool.eq_false_iff.mpr hidden, Bool.or_false]

theorem visMoved_allHidden_iff {s : State} : s.visMoved.allHidden = true ↔
    ∀ b, (s.band b).prog.drawing = true → ((compositorFrameStart s).vis b).state = .hidden := by
  simp only [State.allHidden_iff, visMoved_band, visMoved_vis, compositorFrameStart_vis]

/-- Settles O39: the moves by the state of the visibility, the rows by the same moves, and the compositor's action band by band. -/
theorem visibilityMoves : Obligations.VisibilityMoves := by
  unfold Obligations.VisibilityMoves
  refine ⟨fun s b c config drawing => ?move, fun s => ?act⟩
  case move =>
    intro v full
    have steps : fullStep c.fade = full := fullStep_eq c.fade
    have moves : ∀ {clean : Bool} {w : Visibility}, moveVisibility clean full v = w → moveBand clean b s = s.setVis b w :=
      fun e => by rw [moveBand_of_drawing _ config drawing, steps]; exact congrArg _ e
    have stays : ∀ {clean : Bool}, moveVisibility clean full v = v → moveBand clean b s = s := fun e =>
      (moves e).trans (State.setVis_same rfl)
    have out : v.state ≠ .hidden → v.step ≤ 1 → moveBand true b s = s.setVis b ⟨.hidden, 0⟩ := fun visible last =>
      moves ((moveVisibility_down full visible).trans (if_pos last))
    have shows : v.state ≠ .shown → full ≤ v.step + 1 → moveBand false b s = s.setVis b ⟨.shown, full⟩ := fun faded last =>
      moves ((moveVisibility_up full faded).trans (if_pos last))
    have fadeIn : exec (.fadeInComplete b) s = .next (if (s.band b).prog.drawing ∧ v.state = .fadingIn ∧ full ≤ v.step + 1 then
        moveBand false b s else s) := by
      rw [← steps]
      show execFadeInComplete b s = _
      rw [execFadeInComplete, config]
    refine ⟨out, fun visible more => moves ((moveVisibility_down full visible).trans (if_neg (not_le.mpr more))),
      fun hidden => stays (moveVisibility_hidden full hidden),
      fun faded more => moves ((moveVisibility_up full faded).trans (if_neg (not_le.mpr more))), shows,
      fun shown => stays (moveVisibility_shown full shown), fun fading last => ?_, fun other => ?_, fun fading last => ?_,
      fun other => ?_⟩
    · refine congrArg Host.Outcome.next ((if_pos ⟨drawing, fading, last⟩).trans (out ?_ last))
      rw [fading]
      nofun
    · exact congrArg Host.Outcome.next (if_neg (fun ⟨_, fading, last⟩ =>
        other.elim (absurd fading) (absurd last ∘ not_le.mpr)))
    · refine fadeIn.trans (congrArg Host.Outcome.next ((if_pos ⟨drawing, fading, last⟩).trans (shows ?_ last)))
      rw [fading]
      nofun
    · exact fadeIn.trans (congrArg Host.Outcome.next (if_neg (fun ⟨_, fading, last⟩ =>
        other.elim (absurd fading) (absurd last ∘ not_le.mpr))))
  case act =>
    intro clean t
    refine ⟨compositorFrameStart_frame s, fun b _ _ => compositorFrameStart_vis s b, fun b idle => ?_,
      compositorFrameStart_ack_clear, fun request hidden => ?_, fun request b drawing visible => ?_⟩
    · rw [compositorFrameStart_vis, moveBand_of_idle _ idle]
    · rw [compositorFrameStart_ack_clean request, visMoved_allHidden_iff.mpr hidden, Bool.or_true]
    · have some : ¬ s.visMoved.allHidden = true := fun all => visible (visMoved_allHidden_iff.mp all b drawing)
      rw [compositorFrameStart_ack_clean request, Bool.eq_false_iff.mpr some, Bool.or_false]

end Sys2Proof.Machine

/-! SUPPORT for O40. What a band engine does at a frame start to the visibility of the bands (R96, R161): `State.Screens`. -/

namespace Sys2Proof.Machine

/-! ### What a band engine does to the visibility -/

/-- The request that a band finds at a frame start: the one sampled once the compositor has acted, and before it the present one. -/
def State.asked (sampled : Bool) (s : State) : Bool := if sampled then s.cmp.sampled else s.cleanRequested

/-- From `s` to `t` the compositor keeps its flags, and each band keeps its visibility and does not begin to draw, or is HIDDEN
with step 0, or, where clean is not requested, is SHOWN. -/
structure State.Screens (asked : Bool) (s t : State) : Prop where
  flags : t.cmp = { s.cmp with vis := t.cmp.vis }
  band : ∀ b, (t.vis b = s.vis b ∧ ((t.band b).prog.drawing = true → (s.band b).prog.drawing = true)) ∨
    t.vis b = Visibility.off ∨ (asked = false ∧ (t.vis b).state = .shown)

theorem State.Screens.of_cmp {asked : Bool} {s t : State} (cmp : t.cmp = s.cmp)
    (drawing : ∀ b, (t.band b).prog.drawing = true → (s.band b).prog.drawing = true) : s.Screens asked t :=
  ⟨by rw [cmp], fun b => .inl ⟨by rw [State.vis, cmp]; rfl, drawing b⟩⟩

theorem State.Screens.refl (asked : Bool) (s : State) : s.Screens asked s := .of_cmp rfl (fun _ => id)

theorem State.Screens.trans {asked : Bool} {s t u : State} (h : s.Screens asked t) (k : t.Screens asked u) :
    s.Screens asked u where
  flags := by rw [k.flags, h.flags]
  band b := by
    obtain ⟨same, draws⟩ | off | shown := k.band b
    · rw [same]
      exact (h.band b).imp_left (fun ⟨before, drew⟩ => ⟨before, drew ∘ draws⟩)
    · exact .inr (.inl off)
    · exact .inr (.inr shown)

theorem State.Screens.ite {asked : Bool} {c : Prop} [Decidable c] {s t u : State} (h : c → s.Screens asked t)
    (k : ¬c → s.Screens asked u) : s.Screens asked (if c then t else u) := by
  split
  · exact h ‹_›
  · exact k ‹_›

/-- An operation that leaves the compositor and the seats of the bands as they were. -/
theorem State.Screens.of_seats {asked : Bool} {s t : State} (cmp : t.cmp = s.cmp) (seats : t.seats = s.seats) :
    s.Screens asked t := .of_cmp cmp fun b => by
  have seat : (t.band b).seat = (s.band b).seat := congrFun (congrArg Prod.snd seats) b
  have drawing : (t.band b).prog.drawing = (s.band b).prog.drawing := congrArg (fun d => d.2.2.2) seat
  rw [drawing]
  exact id

/-! ### The named updates -/

theorem screens_updBand (asked : Bool) (s : State) (b : Fin 4) (f : Band → Band)
    (h : (f (s.band b)).prog.drawing = true → (s.band b).prog.drawing = true := by exact id) :
    s.Screens asked (s.updBand b f) := .of_cmp rfl fun k => by
  rw [State.updBand_band]
  split
  · next e => exact e ▸ h
  · exact id

theorem screens_raise (asked : Bool) (s : State) (k : EventKind) (src : EventSource) : s.Screens asked (s.raise k src) :=
  .of_cmp rfl (fun _ => id)

theorem screens_changeProg (asked : Bool) {s : State} {b : Fin 4} {p : Prog}
    (h : p.drawing = true → (s.band b).prog.drawing = true) : s.Screens asked (changeProg b p s) :=
  (screens_updBand asked s b (fun d => { d with prog := p }) h).trans (screens_raise ..)

/-- A band that goes from one drawing state to another, with other changes before it. -/
theorem screens_goesOn (asked : Bool) {s : State} {b : Fin 4} {p q : Prog} {f : Band → Band} (prog : (s.band b).prog = q)
    (same : (f (s.band b)).prog = (s.band b).prog := by rfl) (drawing : q.drawing = true := by rfl) :
    s.Screens asked (changeProg b p (s.updBand b f)) := by
  have draws : (s.band b).prog.drawing = true := by rw [prog, drawing]
  refine (screens_updBand asked s b f (fun _ => draws)).trans (screens_changeProg asked (fun _ => ?_))
  rw [State.updBand_band_self, same, draws]

theorem screens_setVis (asked : Bool) (s : State) (b : Fin 4) {v : Visibility}
    (h : v = Visibility.off ∨ (asked = false ∧ v.state = .shown)) : s.Screens asked (s.setVis b v) where
  flags := rfl
  band k := by
    rw [State.setVis_vis]
    split
    · exact .inr h
    · exact .inl ⟨rfl, id⟩

theorem screens_swapIf (asked : Bool) (p : CommitMode → Bool) (b : Fin 4) (s : State) : s.Screens asked (swapIf p b s) :=
  .ite (fun _ => .of_seats rfl (swapBanks_seats b s)) (fun _ => .refl asked s)

/-- R161: a band that becomes READY is HIDDEN. -/
theorem screens_enterReady (asked : Bool) (b : Fin 4) (s : State) : s.Screens asked (enterReady b s) :=
  (((screens_updBand asked s b (fun d => { d with page := Page.initial })).trans
    (screens_setVis asked _ b (.inl rfl))).trans (screens_changeProg asked (p := .ready) nofun)).trans (screens_swapIf ..)

/-! ### Operations that leave the compositor alone -/

theorem State.Paging.cmp {b : Fin 4} {s t : State} (h : s.Paging b t) : t.cmp = s.cmp := by
  rw [h.frame]

theorem removeFront_cmp (b : Fin 4) (n : Nat) (s : State) : (removeFront b n s).cmp = s.cmp := (paging_removeFront b n s).cmp

theorem admitInst_cmp (b : Fin 4) (x : Inst) (s : State) : (admitInst b x s).cmp = s.cmp := (paging_addInstance b x _).cmp

@[simp] theorem swapBanks_cmp (b : Fin 4) (s : State) : (swapBanks b s).cmp = s.cmp := rfl

@[simp] theorem deferAdmission_cmp (b : Fin 4) (s : State) : (deferAdmission b s).cmp = s.cmp := by
  unfold deferAdmission
  split <;> rfl

theorem endBreaks_cmp (b : Fin 4) (s : State) : (endBreaks b s).cmp = s.cmp := by
  unfold endBreaks
  split
  · split <;> rfl
  · rfl

@[simp] theorem considerBreak_cmp (c : BandConfig) (b : Fin 4) (e : BreakEntry) (rest : List BreakEntry) (s : State) :
    (considerBreak c b e rest s).cmp = s.cmp := by
  unfold considerBreak
  rw [endBreaks_cmp]
  split
  · exact admitInst_cmp ..
  · rfl

@[simp] theorem considerItem_cmp (c : BandConfig) (b : Fin 4) (i : Item) (s : State) : (considerItem c b i s).cmp = s.cmp := by
  unfold considerItem
  refine (paging_advanceCursor b _).cmp.trans ?_
  split
  · exact admitInst_cmp ..
  · rfl

theorem admitLoop_cmp (c : BandConfig) (b : Fin 4) (fuel : Nat) : ∀ (skips : Nat) (s : State),
    (admitLoop c b fuel skips s).cmp = s.cmp := by
  induction fuel with
  | zero => exact fun _ _ => rfl
  | succ fuel ih =>
    intro skips s
    unfold admitLoop
    repeat' split
    all_goals simp [ih]

theorem admissionStep_cmp (c : BandConfig) (b : Fin 4) (s : State) : (admissionStep c b s).cmp = s.cmp := by
  have begun : (swapIf (fun m => decide (m = .immediate)) b s).cmp = s.cmp := (paging_swapIf ..).cmp
  unfold admissionStep
  dsimp only
  split
  · exact (admitLoop_cmp ..).trans begun
  · exact begun

theorem paging_pageStep (c : BandConfig) (b : Fin 4) (s : State) : s.Paging b (pageStep c b s) := by
  unfold pageStep
  split
  · exact .ite ((paging_pageBuild ..).trans (paging_settlePage ..)) (.refl b s)
  · exact .ite (.refl b s) (.ite (paging_expirePage ..) (paging_updPage ..))
  · exact .ite (.refl b s) (.ite (paging_setRoll ..) (paging_endRoll ..))
  · exact .ite (.refl b s) (.ite (paging_setRoll ..) (paging_endLeaving ..))

/-! ### The steps of a band -/

theorem screens_drainEndStep (asked : Bool) (b : Fin 4) (s : State) : s.Screens asked (drainEndStep b s) :=
  .ite (fun _ => (screens_updBand asked s b (fun d => { d with speed := 0, deferral := false })).trans (screens_enterReady ..))
    (fun _ => .refl asked s)

theorem screens_clearingEndStep (asked : Bool) (b : Fin 4) (s : State) : s.Screens asked (clearingEndStep b s) := by
  refine .ite (fun ⟨clearing, _⟩ => screens_changeProg asked (fun _ => ?_)) (fun _ => .refl asked s)
  rw [clearing]
  rfl

theorem screens_crawlSteps (asked : Bool) (c : BandConfig) (b : Fin 4) (s : State) : s.Screens asked (crawlSteps c b s) := by
  have ramped : s.Screens asked (rampStep c b s) := screens_updBand ..
  have moved : ∀ t : State, t.Screens asked (moveStep b t) := fun t => .of_seats (removeFront_cmp ..) (moveStep_seats b t)
  have admitted : ∀ t : State, t.Screens asked (admissionStep c b t) := fun t =>
    .of_seats (admissionStep_cmp c b t) (admissionStep_seats c b t)
  exact (((ramped.trans (moved _)).trans (admitted _)).trans (screens_drainEndStep ..)).trans (screens_clearingEndStep ..)

theorem screens_flipSteps (asked : Bool) (c : BandConfig) (b : Fin 4) (s : State) : s.Screens asked (flipSteps c b s) :=
  (State.Screens.of_seats (paging_pageStep c b s).cmp (pageStep_seats c b s)).trans (screens_drainEndStep ..)

/-! ### Requests -/

theorem screens_takeConfigure (asked : Bool) (b : Fin 4) (c : ConfigRecord) (s : State) :
    s.Screens asked (takeConfigure b c s).2 := by
  have stored := screens_updBand asked s b (fun d => { d with config := storedConfig c })
  unfold takeConfigure
  split
  · exact .refl asked s
  · split
    · exact .refl asked s
    · split
      · exact .refl asked s
      · exact .ite (fun _ => stored.trans (screens_enterReady ..)) (fun _ => stored)

/-- A band that begins to draw with a visibility of its own. -/
theorem screens_begins (asked : Bool) (s : State) (b : Fin 4) (p : Prog) (f : Band → Band) {v : Visibility}
    (h : v = Visibility.off ∨ (asked = false ∧ v.state = .shown)) :
    s.Screens asked (changeProg b p ((s.updBand b f).setVis b v)) where
  flags := rfl
  band k := by
    have vis : (changeProg b p ((s.updBand b f).setVis b v)).vis k = if b = k then v else s.vis k := State.setVis_vis s b k v
    rw [vis]
    split
    · exact .inr h
    · next other =>
      have beside := ((beside_updBand s b f).trans (beside_setVis _ b v)).trans (beside_changeProg _ b p)
      exact .inl ⟨rfl, by rw [beside.band k (Ne.symm other)]; exact id⟩

theorem takeOnVisibility_eq (sampled : Bool) (fade : Nat) (s : State) :
    takeOnVisibility sampled fade s = if s.asked sampled then Visibility.off else ⟨.shown, fullStep fade⟩ := rfl

theorem takeOnVisibility_by_request (sampled : Bool) (fade : Nat) (s : State) :
    takeOnVisibility sampled fade s = Visibility.off ∨
      (s.asked sampled = false ∧ (takeOnVisibility sampled fade s).state = .shown) := by
  rw [takeOnVisibility_eq]
  cases s.asked sampled with
  | true => exact .inl rfl
  | false => exact .inr ⟨rfl, rfl⟩

/-- R161: a band taken on from READY takes its visibility by the request; one taken on while it drains keeps it. -/
theorem screens_takeTakeOn (sampled : Bool) (b : Fin 4) (fromTop : Bool) (s : State) :
    s.Screens (s.asked sampled) (takeTakeOn sampled b fromTop s).2 := by
  unfold takeTakeOn
  extract_lets top
  split
  case h_1 =>
    split
    · exact .refl _ s
    · next c _ =>
      exact screens_begins _ s b .running _ (takeOnVisibility_by_request sampled c.fade s)
  case h_2 draining => exact screens_goesOn _ draining
  all_goals exact .refl _ s

theorem screens_takeTakeOffDrain (asked : Bool) (b : Fin 4) (s : State) : s.Screens asked (takeTakeOffDrain b s).2 := by
  unfold takeTakeOffDrain
  split
  case h_1 running => exact screens_goesOn asked running
  case h_2 clearing => exact screens_goesOn asked clearing
  case h_3 breaking => exact screens_goesOn asked breaking
  all_goals exact .refl asked s

theorem screens_takeTakeOffCut (asked : Bool) (b : Fin 4) (s : State) : s.Screens asked (takeTakeOffCut b s).2 := by
  unfold takeTakeOffCut
  split
  · have removed : s.Screens asked (removeFront b (s.band b).window.length s) :=
      .of_seats (removeFront_cmp ..) (removeFront_seats ..)
    exact (removed.trans (screens_updBand asked _ b (fun d =>
      { d with breaks := [], saved := none, deferral := false, speed := 0 }))).trans (screens_enterReady ..)
  · exact .refl asked s

theorem screens_takeBreak (asked : Bool) (b : Fin 4) (e : BreakEntry) (s : State) : s.Screens asked (takeBreak b e s).2 := by
  have placed := screens_updBand asked s b (fun d => { d with breaks := placeBreak e d.breaks })
  unfold takeBreak
  split
  · exact .refl asked s
  · split
    · exact .refl asked s
    · split
      · exact .refl asked s
      · refine .ite (fun ⟨_, running⟩ => placed.trans (screens_goesOn asked (q := .running) ?_)) (fun _ => placed)
        rw [State.updBand_band_self]
        exact running

theorem screens_takeBreakClear (asked : Bool) (b : Fin 4) (s : State) : s.Screens asked (takeBreakClear b s).2 := by
  unfold takeBreakClear
  split
  · exact .refl asked s
  · split
    case h_1 clearing => exact screens_goesOn asked clearing
    case h_2 breaking => exact screens_goesOn asked breaking
    case h_3 => exact screens_updBand asked s b (fun d => { d with breaks := [] })
    all_goals exact .refl asked s

theorem screens_judgeRequest (sampled : Bool) (b : Fin 4) (r : BandRequest) (s : State) :
    s.Screens (s.asked sampled) (judgeRequest sampled b r s).2 := by
  have otherwise : ∀ (p : Prop) [Decidable p] (q q' : Result) (t : State), s.Screens (s.asked sampled) t →
      s.Screens (s.asked sampled) (if p then resultOnly q s else resultOnly q' t).2 := fun p _ q q' t h => by
    split
    · exact .refl _ s
    · exact h
  cases r with
  | configure c => exact screens_takeConfigure _ b c s
  | release =>
    show State.Screens _ s (takeRelease b s).2
    unfold takeRelease
    split
    · exact (screens_updBand _ s b (fun d => { d with config := none, halted := false, cursor := 0 })).trans
        (screens_changeProg _ nofun)
    · exact .refl _ s
  | takeOn fromTop => exact screens_takeTakeOn sampled b fromTop s
  | takeOffDrain => exact screens_takeTakeOffDrain _ b s
  | takeOffCut => exact screens_takeTakeOffCut _ b s
  | halt => exact otherwise _ _ _ _ (screens_updBand ..)
  | resume => exact otherwise _ _ _ _ (screens_updBand ..)
  | setSpeed v => exact otherwise _ _ _ _ (screens_updBand ..)
  | nudge up => exact otherwise _ _ _ _ (screens_updBand ..)
  | commit m => exact .ite (fun _ => .of_cmp rfl (fun _ => id)) (fun _ => .of_seats rfl (swapBanks_seats b s))
  | brk story repeats urgency => exact screens_takeBreak _ b _ s
  | breakClear => exact screens_takeBreakClear _ b s

theorem screens_deliver (asked : Bool) (o : Origin) (b : Fin 4) (r : Result) (v : List Byte) (s : State) :
    s.Screens asked (deliver o b r v s) := by
  unfold deliver
  split
  · exact .ite (fun _ => .refl asked s) (fun _ => screens_raise ..)
  · exact .ite (fun _ => .of_cmp rfl (fun _ => id)) (fun _ => .refl asked s)

theorem State.Screens.request {asked : Bool} {s t : State} (h : s.Screens asked t) (kept : s.Kept t) :
    t.cleanRequested = s.cleanRequested := by
  rw [State.cleanRequested, kept.cleanPin, h.flags]
  rfl

/-- The request stands as it was while a band takes its queue. -/
theorem State.Screens.asked_eq {asked : Bool} {s t : State} (h : s.Screens asked t) (kept : s.Kept t) (sampled : Bool) :
    t.asked sampled = s.asked sampled := by
  rw [State.asked, h.request kept, h.flags]
  rfl

theorem screens_takeRequest (sampled : Bool) (o : Origin) (b : Fin 4) (r : BandRequest) (s : State) :
    s.Screens (s.asked sampled) (takeRequest sampled o b r s) :=
  (screens_judgeRequest sampled b r s).trans (screens_deliver ..)

theorem screens_takeRequests (sampled : Bool) (b : Fin 4) (l : List QueuedRequest) : ∀ s : State,
    s.Screens (s.asked sampled) (takeRequests sampled b l s) := by
  induction l with
  | nil => exact fun s => .refl _ s
  | cons q l ih =>
    intro s
    have taken := screens_takeRequest sampled q.origin b q.request s
    have rest := ih (takeRequest sampled q.origin b q.request s)
    rw [taken.asked_eq (kept_takeRequest ..)] at rest
    exact taken.trans rest

/-- R96, R161: the frame-start action of a band engine. -/
theorem screens_bandFrameStart (sampled : Bool) (b : Fin 4) (s : State) :
    s.Screens (s.asked sampled) (bandFrameStart sampled b s) := by
  have emptied := screens_updBand (s.asked sampled) s b (fun d => { d with queue := [] })
  have taken := screens_takeRequests sampled b (s.band b).queue (s.updBand b (fun d => { d with queue := [] }))
  refine (emptied.trans taken).trans (.ite (fun _ => ?_) (fun _ => .refl _ _))
  split
  · exact .refl _ _
  · split
    · exact screens_crawlSteps ..
    · exact screens_flipSteps ..

end Sys2Proof.Machine

/-! PROOF. The clean acknowledge over a frame start, in whatever order the blocks take it (O40). -/

namespace Sys2Proof.Machine

/-! ### What the moves of the compositor keep -/

/-- A HIDDEN band stays as it is while clean is requested. -/
theorem moveBand_vis_hidden {s : State} {b : Fin 4} (hidden : (s.vis b).state = .hidden) :
    (moveBand true b s).vis b = s.vis b := by
  cases config : (s.band b).config with
  | none => rw [moveBand_of_unconfigured true config]
  | some c =>
    cases drawing : (s.band b).prog.drawing with
    | false => rw [moveBand_of_idle true drawing]
    | true => rw [moveBand_of_drawing true config drawing, State.setVis_vis_self, moveVisibility_hidden _ hidden]

/-- R160: a band that moves to HIDDEN has step 0. -/
theorem moveVisibility_step {v : Visibility} (clean : Bool) (full : Nat) (before : v.state = .hidden → v.step = 0)
    (hidden : (moveVisibility clean full v).state = .hidden) : (moveVisibility clean full v).step = 0 := by
  cases clean with
  | false =>
    by_cases shown : v.state = .shown
    · rw [moveVisibility_shown full shown] at hidden ⊢
      exact before hidden
    · rw [moveVisibility_up full shown] at hidden
      split at hidden <;> cases hidden
  | true =>
    by_cases was : v.state = .hidden
    · rw [moveVisibility_hidden full was]
      exact before was
    · rw [moveVisibility_down full was] at hidden ⊢
      split at hidden
      · next last => rw [if_pos last]
      · cases hidden

/-- Every HIDDEN band has step 0. -/
def State.stepless (s : State) : Prop := ∀ b, (s.vis b).state = .hidden → (s.vis b).step = 0

theorem State.stepless.moveBand {s : State} (h : s.stepless) (clean : Bool) (b : Fin 4)
    (hidden : ((moveBand clean b s).vis b).state = .hidden) : ((moveBand clean b s).vis b).step = 0 := by
  cases config : (s.band b).config with
  | none =>
    rw [moveBand_of_unconfigured clean config] at hidden ⊢
    exact h b hidden
  | some c =>
    cases drawing : (s.band b).prog.drawing with
    | false =>
      rw [moveBand_of_idle clean drawing] at hidden ⊢
      exact h b hidden
    | true =>
      rw [moveBand_of_drawing clean config drawing, State.setVis_vis_self] at hidden ⊢
      exact moveVisibility_step clean _ (h b) hidden

theorem compositorFrameStart_allHidden_iff {s : State} :
    (compositorFrameStart s).allHidden = true ↔ s.visMoved.allHidden = true := by
  rw [visMoved_allHidden_iff, State.allHidden_iff]
  simp only [compositorFrameStart_band]

/-- With clean requested, bands that are all HIDDEN stay so. -/
theorem compositorFrameStart_allHidden {s : State} (clean : s.cleanRequested = true) (hidden : s.allHidden = true) :
    (compositorFrameStart s).allHidden = true := by
  rw [compositorFrameStart_allHidden_iff, visMoved_allHidden_iff]
  intro b drawing
  have before := State.allHidden_iff.mp hidden b drawing
  rw [compositorFrameStart_vis, clean, moveBand_vis_hidden before, before]

/-! ### What a band engine keeps -/

theorem State.Screens.stepless {asked : Bool} {s t : State} (h : s.Screens asked t) (k : s.stepless) : t.stepless := by
  intro b hidden
  obtain ⟨same, -⟩ | off | ⟨-, shown⟩ := h.band b
  · rw [same] at hidden ⊢
    exact k b hidden
  · rw [off]
    rfl
  · cases shown.symm.trans hidden

/-- R161: with clean requested, bands that are all HIDDEN stay so, and a band taken on is HIDDEN. -/
theorem State.Screens.allHidden {s t : State} (h : s.Screens true t) (k : s.allHidden = true) : t.allHidden = true := by
  rw [State.allHidden_iff] at k ⊢
  intro b drawing
  obtain ⟨same, draws⟩ | off | ⟨no, -⟩ := h.band b
  · rw [same]
    exact k b (draws drawing)
  · rw [off]
    rfl
  · cases no

/-! ### The invariant of a frame start -/

/-- A frame start with the request at `clean`, in which the compositor has acted (`taken`) or not yet. `black` says that clean was
requested and every band HIDDEN when it began. -/
structure State.Screened (clean : Bool) (black : Prop) (taken : Bool) (s : State) : Prop where
  request : s.cleanRequested = clean
  sampled : taken = true → s.cmp.sampled = clean
  stepless : s.stepless
  clear : taken = true → clean = false → s.cmp.ack = false
  hidden : clean = true → s.cmp.ack = true → s.allHidden = true
  stays : black → clean = true ∧ s.allHidden = true ∧ (taken = true → s.cmp.ack = true)

theorem State.Screened.asked {clean taken : Bool} {black : Prop} {s : State} (h : s.Screened clean black taken) :
    s.asked taken = clean := by
  cases taken with
  | false => exact h.request
  | true => exact h.sampled rfl

/-- The blocks other than the compositor keep it. -/
theorem State.Screened.of_screens {clean taken : Bool} {black : Prop} {s t : State} (h : s.Screened clean black taken)
    (k : s.Screens (s.asked taken) t) (kept : s.Kept t) : t.Screened clean black taken := by
  have ack : t.cmp.ack = s.cmp.ack := by rw [k.flags]
  have stays : clean = true → s.allHidden = true → t.allHidden = true := fun request =>
    State.Screens.allHidden (by rwa [h.asked, request] at k)
  constructor
  case request => exact (k.request kept).trans h.request
  case sampled => rw [k.flags]; exact h.sampled
  case stepless => exact k.stepless h.stepless
  case clear => rw [ack]; exact h.clear
  case hidden => rw [ack]; exact fun request high => stays request (h.hidden request high)
  case stays =>
    rw [ack]
    exact fun black => (h.stays black).imp_right fun ⟨dark, high⟩ => ⟨stays (h.stays black).1 dark, high⟩

/-- R160, R162: so does the compositor, which settles the request sampled and CLEAN ACK. -/
theorem State.Screened.compositor {clean taken : Bool} {black : Prop} {s : State} (h : s.Screened clean black taken) :
    (compositorFrameStart s).Screened clean black true := by
  have frame := compositorFrameStart_frame s
  have stays : clean = true → s.allHidden = true → (compositorFrameStart s).allHidden = true := fun request =>
    compositorFrameStart_allHidden (h.request.trans request)
  have judged : clean = true → (compositorFrameStart s).cmp.ack = (s.cmp.ack || (compositorFrameStart s).allHidden) :=
    fun request => by
      rw [compositorFrameStart_ack_clean (h.request.trans request),
        Bool.eq_iff_iff.mpr compositorFrameStart_allHidden_iff]
  constructor
  case request =>
    rw [frame]
    exact h.request
  case sampled =>
    rw [frame]
    exact fun _ => h.request
  case stepless =>
    intro b
    rw [compositorFrameStart_vis]
    exact h.stepless.moveBand _ b
  case clear => exact fun _ clear => compositorFrameStart_ack_clear (h.request.trans clear)
  case hidden =>
    intro request high
    rw [judged request, Bool.or_eq_true] at high
    exact high.elim (fun was => stays request (h.hidden request was)) id
  case stays =>
    intro black
    obtain ⟨request, dark, -⟩ := h.stays black
    exact ⟨request, stays request dark, fun _ => by rw [judged request, stays request dark, Bool.or_true]⟩

theorem feedFrameStart_cmp (s : State) : (feedFrameStart s).cmp = s.cmp := by
  have counted : ∀ (n : Fin 4) (t : State), (countSilence n t).cmp = t.cmp := fun n t => by
    unfold countSilence
    dsimp only
    split
    · split <;> rfl
    · rfl
  simp only [feedFrameStart, counted]

theorem feedFrameStart_programme (s : State) : (feedFrameStart s).programme = s.programme := by
  simp [feedFrameStart]

theorem State.Screened.frameBlocks {clean : Bool} {black : Prop} (order : List Block) : ∀ {taken : Bool} {s : State},
    s.Screened clean black taken → taken = true ∨ .compositor ∈ order →
    (Machine.frameBlocks order taken s).Screened clean black true := by
  induction order with
  | nil =>
    rintro taken s h (rfl | none)
    · exact h
    · cases none
  | cons k order ih =>
    intro taken s h last
    have later : k ≠ .compositor → taken = true ∨ .compositor ∈ order := fun other =>
      last.imp_right fun mem => (List.mem_cons.mp mem).resolve_left other.symm
    cases k with
    | quotes => exact ih (h.of_screens (.of_cmp rfl (fun _ => id)) (kept_quoteFrameStart s)) (later nofun)
    | feed =>
      have bands := State.seats_of_programme (feedFrameStart_programme s)
      exact ih (h.of_screens (.of_seats (feedFrameStart_cmp s) bands) (kept_feedFrameStart s)) (later nofun)
    | band b => exact ih (h.of_screens (screens_bandFrameStart taken b s) (kept_bandFrameStart taken b s)) (later nofun)
    | compositor => exact ih h.compositor (.inl rfl)

/-- Settles O40: the invariant of a frame start, once every block has taken it. -/
theorem cleanAcknowledge : Obligations.CleanAcknowledge := by
  unfold Obligations.CleanAcknowledge
  intro order s perm acknowledged stepless t
  have begun : s.Screened s.cleanRequested (s.cleanRequested = true ∧ s.allHidden = true) false := by
    refine ⟨rfl, nofun, stepless, nofun, fun _ high => State.allHidden_iff.mpr fun b drawing => ?_,
      fun black => ⟨black.1, black.2, nofun⟩⟩
    rw [acknowledged high b drawing]
  have compositor : Block.compositor ∈ order := perm.mem_iff.mpr (by decide)
  have ended : t.Screened _ _ true := begun.frameBlocks order (.inr compositor)
  refine ⟨ended.sampled rfl, ended.clear rfl, fun high b drawing => ?_, ended.stepless, fun request dark => ?_⟩
  · have request : s.cleanRequested = true := by
      by_contra clear
      rw [ended.clear rfl (Bool.eq_false_iff.mpr clear)] at high
      cases high
    have hidden := State.allHidden_iff.mp (ended.hidden request high) b drawing
    have step := ended.stepless b hidden
    revert hidden step
    cases t.vis b
    rintro rfl rfl
    rfl
  · obtain ⟨-, hidden, high⟩ := ended.stays ⟨request, State.allHidden_iff.mpr dark⟩
    exact ⟨high rfl, State.allHidden_iff.mp hidden⟩

end Sys2Proof.Machine

/-! PROOF. The status read and the LINK RESET (O34), after what a frame does to what is in flight on the editorial link (R175, R176):
a data phase is dropped, a READ EVENTS that has begun is abandoned, and every other phase is left as it is. -/

namespace Sys2Proof.Machine

/-! ### What was in flight is settled (R175, R176) -/

/-- R189, R190: a READ EVENTS that has begun to send its pairs is in progress. -/
def State.readsEvents (s : State) : Prop :=
  s.eli.phase = .dataIn ∧ s.eli.command = some .readEvents ∧ s.au.editorial.latch ≠ none

theorem abandon_dataOut {s : State} (phase : s.eli.phase = .dataOut) : abandon s = dropData s := by
  unfold abandon
  rw [phase]

theorem abandon_readsEvents {s : State} (h : s.readsEvents) : abandon s = s.updMaster .editorial MasterSet.abandonRead := by
  obtain ⟨phase, command, latch⟩ := h
  unfold abandon
  rw [phase]
  exact if_pos ⟨command, Option.isSome_iff_ne_none.mpr latch⟩

theorem abandon_other {s : State} (out : s.eli.phase ≠ .dataOut) (events : ¬ s.readsEvents) : abandon s = s := by
  unfold abandon
  split
  case h_1 phase => exact absurd phase out
  case h_2 phase => exact if_neg fun ⟨command, latch⟩ => events ⟨phase, command, Option.isSome_iff_ne_none.mp latch⟩
  all_goals rfl

/-- R189: an incomplete read loses no pair, and gives back the pairs held. -/
theorem mem_abandonRead_pending {m : MasterSet} (e : Event) :
    e ∈ m.abandonRead.pending ↔ e ∈ m.pending ∨ e ∈ m.hold := mem_foldl_addEvent

/-! ### LINK RESET and STATUS (R173, R176) -/

theorem exec_linkReset {s : State} (held : s.run ≠ .held) (acts : s.eli.straddles = false) :
    exec .linkReset s = .next { abandon s with eli := { Eli.reset with ticket := s.eli.ticket, dout := [0] } } := by
  refine congrArg Host.Outcome.next ?_
  unfold linkReset inFrame
  rw [if_neg held, acts]
  show { abandon s with eli := { (abandon s).eli.toIdle with dout := [0] } } = _
  rw [abandon_eli, Eli.toIdle, acts]
  rfl

/-- R173: a status read in STATUS READY, and its end at the twelfth byte. -/
theorem exec_statusFrame_ready {s : State} {st : Status} (n : Nat) (k : s.listens) (phase : s.eli.phase = .statusReady)
    (status : s.eli.status = some st) : exec (.statusFrame n) s = .next
      (if 12 ≤ n then consumeStatus (driveBlock (statusBlock s.eli.tag st.result st.residue st.values) n s)
      else driveBlock (statusBlock s.eli.tag st.result st.residue st.values) n s) := by
  have block : commandBlock s.eli = statusBlock s.eli.tag st.result st.residue st.values := by rw [commandBlock, status]; rfl
  refine congrArg Host.Outcome.next ((inFrame_listens n _ k).trans ?_)
  simp only [k.1, phase, block]
  rfl

/-- R174: a status read in EXECUTING. -/
theorem exec_statusFrame_executing {s : State} (n : Nat) (k : s.listens) (phase : s.eli.phase = .executing) :
    exec (.statusFrame n) s = .next (driveBlock (statusBlock s.eli.tag .pending 0 noValues) n s) := by
  refine congrArg Host.Outcome.next ((inFrame_listens n _ k).trans ?_)
  simp only [k.1, phase]
  rfl

/-- R173: the status of every command but a DEVICE RESET ends the exchange, and nothing more. -/
theorem consumeStatus_of_ne {s : State} (h : s.eli.command ≠ some .deviceReset) : consumeStatus s = s.updEli Eli.toIdle :=
  if_neg fun both => h both.1

theorem statusBlock_length {tag : Byte} {r : Result} {residue : Nat} {values : List Byte} (five : values.length = 5) :
    (statusBlock tag r residue values).length = 12 := by
  simp [statusBlock, five]

/-- R169, R173: a status block of twelve bytes, and 00h after it. -/
theorem driveBlock_eq {block : List Byte} (n : Nat) (s : State) (twelve : block.length = 12) :
    driveBlock block n s = s.withDout (0 :: (block.take n ++ List.replicate (n - 12) 0)) := by
  unfold driveBlock
  rw [twelve]
  rfl

/-- Settles O34: what a status read and a LINK RESET do, phase by phase. -/
theorem statusAndLinkReset : Obligations.StatusAndLinkReset := by
  unfold Obligations.StatusAndLinkReset
  refine ⟨fun s st n k phase status five => ?_, fun s n k phase few => ?_, fun s held acts => ?_⟩
  · have twelve : (statusBlock s.eli.tag st.result st.residue st.values).length = 12 := statusBlock_length five
    rw [exec_statusFrame_ready n k phase status, driveBlock_eq n s twelve]
    refine ⟨fun few => ?_, fun whole other => ?_⟩
    · rw [if_neg (by omega), Nat.sub_eq_zero_of_le (by omega), List.replicate_zero, List.append_nil]
      rfl
    · rw [if_pos whole, consumeStatus_of_ne (by exact other), List.take_of_length_le (by omega)]
      show Host.Outcome.next { s with eli := { s.eli.toIdle with dout := _ } } = _
      rw [Eli.toIdle, k.2]
      rfl
  · rw [exec_statusFrame_executing n k phase, driveBlock_eq n s (statusBlock_length rfl), Nat.sub_eq_zero_of_le few,
      List.replicate_zero, List.append_nil]
    rfl
  · rw [exec_linkReset held acts]
    refine ⟨fun phase => ?_, fun phase command latch => ?_, fun out events => ?_⟩
    · rw [abandon_dataOut phase]
      rfl
    · rw [abandon_readsEvents ⟨phase, command, latch⟩]
      exact ⟨_, rfl, rfl, rfl, mem_abandonRead_pending⟩
    · rw [abandon_other out events]

end Sys2Proof.Machine

/-! PROOF. The frame without a whole byte (O36). -/

namespace Sys2Proof.Machine

/-! ### A frame without a whole byte (R169, log entry 14) -/

/-- R169: every frame's end ends a frame from before the release of RESET, so that a frame without a whole byte changes nothing
exactly when no such frame is in progress. -/
theorem edFrame_nil_eq_iff {s : State} : edFrame [] s = s ↔ s.eli.straddles = false := by
  constructor
  · intro same
    have ended : (edFrame [] s).eli.straddles = false := rfl
    rwa [same] at ended
  · intro acts
    show { s with eli := { s.eli with straddles := false } } = s
    rw [← acts]

/-- The device after a POWER ON that finds an editorial frame in progress (R169, log entry 36). -/
def State.straddling : State := { State.reset with eli := { Eli.reset with straddles := true } }

theorem exec_powerOn_straddling : exec (.powerOn ⟨Straps.low, true⟩ 0) State.reset = .next State.straddling := rfl

/-- Refutes O36: its clause `edFrame [] s = s` speaks of every state. After a POWER ON that finds ED SEL low, a frame without a
whole byte ends the frame that is in progress, and that changes the state. -/
theorem not_commandFrames : ¬ Obligations.CommandFrames := by
  unfold Obligations.CommandFrames
  rintro ⟨-, -, -, kinds⟩
  obtain ⟨empty, -⟩ := kinds State.straddling []
  exact absurd (edFrame_nil_eq_iff.mp empty) (by decide)

end Sys2Proof.Machine

/-! PROOF. The panel status read, from the address byte to its end (O52). -/

namespace Sys2Proof.Machine

/-! ### Updates of the panel bus interface and of one master -/

theorem State.updPbi_updPbi (s : State) (f g : Pbi → Pbi) : (s.updPbi f).updPbi g = s.updPbi (g ∘ f) := rfl

theorem State.updMaster_updPbi (s : State) (f : Pbi → Pbi) (m : Master) (g : MasterSet → MasterSet) :
    (s.updPbi f).updMaster m g = (s.updMaster m g).updPbi f := rfl

theorem State.updMaster_updMaster (s : State) (m : Master) (f g : MasterSet → MasterSet) :
    (s.updMaster m f).updMaster m g = s.updMaster m (g ∘ f) := by cases m <;> rfl

/-! ### The bytes of a read (R179) -/

/-- R179: a byte of the block, before the last, or a byte after it. -/
theorem readByte_goesOn {s : State} {p : Nat} (h : s.pbi.transfer = .read p) (more : p + 1 ≠ 8) :
    readByte s = (byteAt s.pbi.block p, setTransfer (.read (p + 1)) s) := by
  simp only [readByte, h]
  rw [if_neg (by exact more)]

/-- R179, R189: the last byte of the block completes the read. -/
theorem readByte_last {s : State} (h : s.pbi.transfer = .read 7) :
    readByte s = (byteAt s.pbi.block 7, (setTransfer (.read 8) s).updMaster .panel MasterSet.completeRead) := by
  simp only [readByte, h]
  rfl

theorem setTransfer_self {s : State} {t : Transfer} (h : s.pbi.transfer = t) : setTransfer t s = s := by
  rw [← h]
  rfl

/-- R179: bytes that do not reach the last one of the block, or that follow it. -/
theorem readBytes_goesOn (n : Nat) : ∀ {s : State} {p : Nat}, s.pbi.transfer = .read p → p + n < 8 ∨ 8 ≤ p →
    readBytes n s = ((List.range' p n).map (byteAt s.pbi.block), setTransfer (.read (p + n)) s) := by
  induction n with
  | zero => exact fun h _ => Prod.ext rfl (setTransfer_self h).symm
  | succ n ih =>
    intro s p h within
    rw [readBytes, readByte_goesOn h (by omega)]
    dsimp only
    rw [ih (p := p + 1) rfl (by omega), Nat.add_right_comm p 1 n]
    rfl

theorem readBytes_add (n m : Nat) (s : State) : readBytes (n + m) s =
    ((readBytes n s).1 ++ (readBytes m (readBytes n s).2).1, (readBytes m (readBytes n s).2).2) := by
  induction n generalizing s with
  | zero => simp [readBytes]
  | succ n ih => simp [Nat.succ_add, readBytes, ih]

/-- The bytes of a list from position `p` on. -/
theorem map_byteAt_range' (block : List Byte) (p n : Nat) (within : p + n ≤ block.length) :
    (List.range' p n).map (byteAt block) = (block.drop p).take n := by
  refine List.ext_getElem (by simp; omega) fun i h _ => ?_
  rw [List.length_map, List.length_range'] at h
  simp only [List.getElem_map, List.getElem_range', one_mul, List.getElem_take, List.getElem_drop]
  exact List.getD_eq_getElem block 0 (by omega)

/-- R179: past the block there is 00h. -/
theorem map_byteAt_past (block : List Byte) (p n : Nat) (past : block.length ≤ p) :
    (List.range' p n).map (byteAt block) = List.replicate n 0 := by
  refine List.eq_replicate_iff.mpr ⟨by simp, fun b mem => ?_⟩
  obtain ⟨i, at_, rfl⟩ := List.mem_map.mp mem
  exact List.getD_eq_default block 0 (past.trans (List.mem_range'_1.mp at_).1)

/-- R179, R189: a read from position `p` to the end of the block, and past it for `m` bytes. -/
theorem readBytes_whole {s : State} {p n : Nat} (m : Nat) (h : s.pbi.transfer = .read p) (block : s.pbi.block.length = 8)
    (last : p + n = 7) : readBytes (n + (1 + m)) s = (s.pbi.block.drop p ++ List.replicate m 0,
      (setTransfer (.read (8 + m)) s).updMaster .panel MasterSet.completeRead) := by
  have before := readBytes_goesOn n h (.inl (by omega))
  have completes := readByte_last (s := setTransfer (.read (p + n)) s) (congrArg Transfer.read last)
  have after := readBytes_goesOn m (s := (setTransfer (.read 8) s).updMaster .panel MasterSet.completeRead) rfl (.inr le_rfl)
  have rest : readBytes (1 + m) (setTransfer (.read (p + n)) s) = (byteAt s.pbi.block 7 :: List.replicate m 0,
      (setTransfer (.read (8 + m)) s).updMaster .panel MasterSet.completeRead) := by
    rw [Nat.add_comm, readBytes, completes]
    refine Prod.ext ?_ ?_
    · exact congrArg (byteAt s.pbi.block 7 :: ·) ((congrArg Prod.fst after).trans (map_byteAt_past _ 8 m block.le))
    · exact (congrArg Prod.snd after :)
  have sent : (List.range' p n).map (byteAt s.pbi.block) ++ [byteAt s.pbi.block 7] = s.pbi.block.drop p := by
    have all := map_byteAt_range' s.pbi.block p (n + 1) (by omega)
    rw [List.range'_concat, List.map_append, one_mul, last, List.take_of_length_le (by rw [List.length_drop]; omega)] at all
    exact all
  rw [readBytes_add, before]
  dsimp only
  rw [rest, List.append_cons, sent]

/-! ### The address byte (R177, R179) -/

theorem readAddress_ne_writeAddress (s : State) : readAddress s ≠ writeAddress s := by
  unfold readAddress writeAddress byteOf
  bv_omega

/-- R179: the device acknowledges its address for reading, and latches its block. -/
theorem writeBytes_readAddress {s : State} (run : s.run = .running) (address : s.pbi.transfer = .address) :
    writeBytes [readAddress s] s = (beginStatusRead s).updPbi (fun p => { p with acks := [true] }) := by
  have taken : panelByte (readAddress s) s = (true, beginStatusRead s) := by
    simp [panelByte, address, run, readAddress_ne_writeAddress]
  simp only [writeBytes, panelBytes, taken]

theorem exec_panelStatusRead {s : State} (n : Nat) (run : s.run = .running) (address : s.pbi.transfer = .address) :
    exec (.panelStatusRead n) s = .next (clockRead n ((beginStatusRead s).updPbi (fun p => { p with acks := [true] }))) := by
  rw [← writeBytes_readAddress run address]
  exact congrArg Host.Outcome.next (if_neg (by simp [run]))

theorem panelBlock_length (s : State) (l : List Event) : (panelBlock s l).length = 8 := by
  simp [panelBlock]

/-- R179: a read of less than the block. -/
theorem exec_panelStatusRead_part {s : State} {n : Nat} (run : s.run = .running) (address : s.pbi.transfer = .address)
    (few : n < 8) : exec (.panelStatusRead n) s = .next { s with
      pbi := ⟨.read n, panelBlock s s.au.panel.pending, [true], (panelBlock s s.au.panel.pending).take n⟩,
      au := { s.au with panel := s.au.panel.beginRead } } := by
  have length : (panelBlock s s.au.panel.pending).length = 8 := panelBlock_length ..
  rw [exec_panelStatusRead n run address]
  unfold clockRead
  rw [readBytes_goesOn n (p := 0) rfl (.inl (by omega)), map_byteAt_range' _ 0 n (by exact length ▸ by omega)]
  dsimp only
  rw [Nat.zero_add]
  rfl

/-- R179, R189: a read of the block, and past it for `m` bytes. -/
theorem exec_panelStatusRead_whole {s : State} (m : Nat) (run : s.run = .running) (address : s.pbi.transfer = .address) :
    exec (.panelStatusRead (8 + m)) s = .next { s with
      pbi := ⟨.read (8 + m), panelBlock s s.au.panel.pending, [true], panelBlock s s.au.panel.pending ++ List.replicate m 0⟩,
      au := { s.au with panel := s.au.panel.beginRead.completeRead } } := by
  rw [exec_panelStatusRead _ run address, show 8 + m = 7 + (1 + m) by omega]
  unfold clockRead
  rw [readBytes_whole m (p := 0) rfl (panelBlock_length ..) rfl, List.drop_zero,
    show 7 + (1 + m) = 8 + m by omega]
  simp only [beginStatusRead, setTransfer, State.updPbi_updPbi, State.updMaster_updPbi, State.updMaster_updMaster]
  rfl

/-! ### The end of a read (R179, R180) -/

/-- R189: a read of every pair pending leaves the pairs held back. -/
theorem mem_beginRead_completeRead {m : MasterSet} (e : Event) : e ∈ m.beginRead.completeRead.pending ↔ e ∈ m.hold := by
  rw [mem_completeRead_pending (m := m.beginRead) rfl]
  exact or_iff_right fun both => both.2 both.1

theorem exec_stopCondition {s : State} (run : s.run = .running) : exec .stopCondition s = .next (restart .notAddressed s) :=
  congrArg Host.Outcome.next (if_neg (by simp [run]))

theorem exec_startCondition {s : State} (run : s.run = .running) : exec .startCondition s = .next (restart .address s) :=
  congrArg Host.Outcome.next (if_neg (by simp [run]))

/-- R179, R180: a read before the end of byte 7 ends incomplete. -/
theorem endTransfer_read {s : State} {p : Nat} (h : s.pbi.transfer = .read p) :
    endTransfer s = if p < 8 then s.updMaster .panel MasterSet.abandonRead else s := by
  unfold endTransfer
  rw [h]
  rfl

theorem exec_panelStatusReadComplete {s : State} {p : Nat} (h : s.pbi.transfer = .read p) :
    exec .panelStatusReadComplete s = .next (if 8 - p = 0 then s else clockRead (8 - p) s) := by
  have unsent : unsentBytes s = 8 - p := by rw [unsentBytes, h]; rfl
  rw [← unsent]
  rfl

/-- Settles O52: a read that stops before the last byte of the block, one that reaches it, and what follows each. -/
theorem panelStatusReads : Obligations.PanelStatusReads := by
  unfold Obligations.PanelStatusReads
  refine ⟨fun s n run address => ?_, fun s p run h past => ?_, fun s p latched run h less block latch => ?_⟩
  · refine ⟨fun few => exec_panelStatusRead_part run address few, fun whole => ?_⟩
    obtain ⟨m, rfl⟩ := Nat.exists_eq_add_of_le whole
    rw [exec_panelStatusRead_whole m run address, Nat.add_sub_cancel_left]
    exact ⟨_, rfl, rfl, rfl, mem_beginRead_completeRead⟩
  · rw [exec_panelStatusReadComplete h, if_pos (by omega), exec_stopCondition run, exec_startCondition run]
    unfold restart
    rw [endTransfer_read h, if_neg (by omega)]
    exact ⟨rfl, rfl, rfl⟩
  · refine ⟨?_, fun stop => ?_⟩
    · obtain ⟨n, last⟩ : ∃ n, p + n = 7 := ⟨7 - p, by omega⟩
      have sent := readBytes_whole 0 h block last
      rw [exec_panelStatusReadComplete h, if_neg (by omega), show 8 - p = n + (1 + 0) by omega]
      unfold clockRead
      rw [sent, List.replicate_zero, List.append_nil]
      exact ⟨_, rfl, rfl, rfl, mem_completeRead_pending latch⟩
    · have ended : endTransfer s = s.updMaster .panel MasterSet.abandonRead := by rw [endTransfer_read h, if_pos less]
      have run' : exec (if stop then .stopCondition else .startCondition) s =
          .next (restart (if stop then .notAddressed else .address) s) := by
        cases stop
        · exact exec_startCondition run
        · exact exec_stopCondition run
      rw [run', restart, ended]
      exact ⟨_, rfl, rfl, rfl, mem_abandonRead_pending⟩

end Sys2Proof.Machine

/-! PROOF. A frame of the wrong kind, and a data byte past the data length, end in PHASE ERROR (O35). -/

namespace Sys2Proof.Machine

/-! ### Entering PHASE ERROR (R175) -/

theorem abandon_withDout (s : State) (d : List Byte) : abandon (s.withDout d) = (abandon s).withDout d := by
  by_cases out : s.eli.phase = .dataOut
  · rw [abandon_dataOut out, abandon_dataOut (by exact out)]
    rfl
  · by_cases events : s.readsEvents
    · rw [abandon_readsEvents events, abandon_readsEvents (by exact events)]
      rfl
    · rw [abandon_other out events, abandon_other (by exact out) (by exact events)]

theorem phaseError_of_other {s : State} (h : s.eli.phase ≠ .phaseError) :
    phaseError s = (abandon s).updEli Eli.toPhaseError := if_neg h

theorem phaseError_withDout (s : State) (d : List Byte) : phaseError (s.withDout d) = (phaseError s).withDout d := by
  by_cases h : s.eli.phase = .phaseError
  · rw [phaseError_same h, phaseError_same (by exact h)]
  · rw [phaseError_of_other h, phaseError_of_other (by exact h), abandon_withDout]
    rfl

/-- R175: outside the link, PHASE ERROR settles what was in flight, and changes nothing else. -/
theorem phaseError_frame {s : State} (h : s.eli.phase ≠ .phaseError) :
    phaseError s = { abandon s with eli := s.eli.toPhaseError } := by
  rw [phaseError_of_other h, State.updEli, abandon_eli]

/-- R175, R176: what is settled lies in the text store, the glyph store, the item entries and the attention unit. -/
theorem abandon_frame (s : State) : abandon s =
    { s with ts := (abandon s).ts, gs := (abandon s).gs, editStaging := (abandon s).editStaging, au := (abandon s).au } := by
  by_cases out : s.eli.phase = .dataOut
  · rw [abandon_dataOut out]
    rfl
  · by_cases events : s.readsEvents
    · rw [abandon_readsEvents events]
      rfl
    · rw [abandon_other out events]

/-- R189: a merge keeps the pairs pending in their places. -/
theorem foldl_addEvent_append (hold l : List Event) : ∃ new, hold.foldl addEvent l = l ++ new := by
  induction hold generalizing l with
  | nil => exact ⟨[], (List.append_nil l).symm⟩
  | cons e hold ih =>
    obtain ⟨new, merged⟩ := ih (addEvent l e)
    rw [List.foldl_cons, merged]
    unfold addEvent
    split
    · exact ⟨new, rfl⟩
    · exact ⟨e :: new, List.append_assoc ..⟩

/-! ### Frames of the wrong kind (R169, R174) -/

theorem inPhase_wrong {s : State} {p : EdPhase} (n : Nat) (f : State → State) (k : s.listens) (h : s.eli.phase ≠ p) :
    inPhase p n f s = (phaseError s).withDout (List.replicate (n + 1) 0) := by
  rw [inPhase_of_other n f k h]
  exact phaseError_withDout s _

theorem exec_frameOfUnknownKind {s : State} {kind : Byte} (k : s.listens)
    (unknown : kind ∉ [(0x01 : Byte), 0x02, 0x03, 0x04, 0x0F]) :
    exec (.frameOfUnknownKind kind) s = .next ((phaseError s).withDout [0]) := by
  refine congrArg Host.Outcome.next ?_
  simp only [edFrame, frameKindOf_eq_none.mpr unknown]
  refine (inFrame_listens _ _ k).trans ((if_neg (by simp [k.1])).trans ?_)
  exact phaseError_withDout s [0]

theorem exec_commandFrame_wrong {s : State} (bytes : List Byte) (k : s.listens) (h : s.eli.phase ≠ .idle) :
    exec (.commandFrame bytes) s = .next ((phaseError s).withDout (List.replicate (bytes.length + 1) 0)) :=
  congrArg Host.Outcome.next (inPhase_wrong _ _ k h)

theorem imagesOutside_of_other {s : State} (h : s.eli.phase ≠ .dataOut) : imagesOutside s = false := by
  unfold imagesOutside
  split
  · next phase _ => exact absurd phase h
  · rfl

theorem exec_dataOutFrame_wrong {s : State} (bytes : List Byte) (k : s.listens) (h : s.eli.phase ≠ .dataOut) :
    exec (.dataOutFrame bytes) s = .next ((phaseError s).withDout (List.replicate (bytes.length + 1) 0)) :=
  (if_neg (by simp [imagesOutside_of_other h])).trans (congrArg Host.Outcome.next (inPhase_wrong _ _ k h))

theorem exec_dataInFrame_wrong {s : State} (n : Nat) (k : s.listens) (h : s.eli.phase ≠ .dataIn) :
    exec (.dataInFrame n) s = .next ((phaseError s).withDout (List.replicate (n + 1) 0)) :=
  congrArg Host.Outcome.next (inPhase_wrong _ _ k h)

/-- R175: a STATUS frame sends the block of PHASE ERROR from the frame on that enters it. -/
theorem exec_statusFrame_wrong {s : State} (n : Nat) (k : s.listens) (executing : s.eli.phase ≠ .executing)
    (ready : s.eli.phase ≠ .statusReady) : exec (.statusFrame n) s = .next ((phaseError s).withDout
      (0 :: ((phaseErrorBlock (phaseError s).eli).take n ++ List.replicate (n - 12) 0))) := by
  have stray : exec (.statusFrame n) s = .next (strayStatus n s) := by
    refine congrArg Host.Outcome.next ((inFrame_listens n _ k).trans ((if_neg (by simp [k.1])).trans ?_))
    split
    · next phase => exact absurd phase ready
    · next phase => exact absurd phase executing
    all_goals rfl
  rw [stray, strayStatus]
  exact congrArg Host.Outcome.next (driveBlock_eq n (phaseError s) (statusBlock_length rfl))

/-! ### The bytes of a data phase do not look at ED DOUT (R169, R171) -/

theorem applySource_withDout (r : Ref) (src : Source) (text : List Byte) (s : State) (d : List Byte) :
    applySource r src text (s.withDout d) = ((applySource r src text s).1, (applySource r src text s).2.withDout d) := by
  have updated : ∀ f, (s.withDout d).updQuoteAt r.index f = (s.updQuoteAt r.index f).withDout d := fun f => by
    unfold State.updQuoteAt
    split <;> rfl
  cases resolves : s.resolvesQuote r with
  | false => rw [applySource_fails src text resolves, applySource_fails (s := s.withDout d) src text resolves]
  | true =>
    rw [applySource, applySource, if_pos resolves, if_pos (by exact resolves), updated]

theorem writeStoryByte_withDout (k : Nat) (b : Byte) (s : State) (d : List Byte) :
    writeStoryByte k b (s.withDout d) = (writeStoryByte k b s).withDout d := by
  cases target : s.ts.loadTarget with
  | none =>
    have none' : (s.withDout d).ts.loadTarget = none := target
    simp only [writeStoryByte, target, none']
  | some l =>
    rw [writeStoryByte_target target, writeStoryByte_target (s := s.withDout d) target]
    rfl

theorem completeStory_withDout (n : Nat) (s : State) (d : List Byte) :
    completeStory n (s.withDout d) = ((completeStory n s).1, (completeStory n s).2.withDout d) := by
  cases target : s.ts.loadTarget with
  | none =>
    have none' : (s.withDout d).ts.loadTarget = none := target
    simp only [completeStory, target, none']
  | some l =>
    rw [completeStory_target target, completeStory_target (s := s.withDout d) target]
    rfl

theorem completeFace_withDout (a : FaceArgs) (s : State) (d : List Byte) :
    completeFace a (s.withDout d) = ((completeFace a s).1, (completeFace a s).2.withDout d) := by
  have use : ∀ f, (s.withDout d).drawingUse f = s.drawingUse f := fun _ => rfl
  have staged : (s.withDout d).gs = s.gs := rfl
  unfold completeFace
  simp only [use, staged]
  split
  · rfl
  · split_ifs <;> rfl

theorem completeEdit_withDout (band op pos count : Nat) (s : State) (d : List Byte) :
    completeEdit band op pos count (s.withDout d) =
      ((completeEdit band op pos count s).1, (completeEdit band op pos count s).2.withDout d) := by
  have lists : ∀ b, (s.withDout d).lists b = s.lists b := fun _ => rfl
  have staged : (s.withDout d).editStaging = s.editStaging := rfl
  have resolves : (s.withDout d).itemResolves = s.itemResolves := funext fun i => by
    unfold State.itemResolves State.admissible
    split <;> rfl
  unfold completeEdit
  simp only [lists, staged, resolves]
  split
  · rfl
  · split_ifs
    · rfl
    · split
      · rfl
      · split
        · rfl
        · split <;> rfl

theorem completeConfigure_withDout (band : Nat) (s : State) (d : List Byte) :
    completeConfigure band (s.withDout d) = (completeConfigure band s).withDout d := by
  cases known : four band with
  | none =>
    simp only [completeConfigure, known]
    rfl
  | some b =>
    obtain rfl := four_val known
    by_cases room : (s.band b).queue.length < 8
    · rw [completeConfigure_of_room room, completeConfigure_of_room (s := s.withDout d) room]
      rfl
    · rw [completeConfigure_of_full (not_lt.mp room), completeConfigure_of_full (s := s.withDout d) (not_lt.mp room)]
      rfl

theorem completeData_withDout (c : EdCommand) (s : State) (d : List Byte) :
    completeData c (s.withDout d) = (completeData c s).withDout d := by
  cases c with
  | setSource r source =>
    have done := applySource_withDout r ((sourceOf source).getD .live) s.eli.data s d
    exact congrArg (fun t : Result × State => finish ⟨t.1, 0, noValues⟩ t.2) done
  | loadStory => exact congrArg (fun t : Status × State => finish t.1 t.2) (completeStory_withDout s.eli.dataLength s d)
  | loadFace a =>
    exact congrArg (fun t : Result × State => finish ⟨t.1, 0, noValues⟩ t.2) (completeFace_withDout a s d)
  | edit band op pos count =>
    exact congrArg (fun t : Status × State => finish t.1 t.2) (completeEdit_withDout band op pos count s d)
  | request band r => exact completeConfigure_withDout band s d
  | _ => rfl

theorem storeByte_withDout (c : EdCommand) (k : Nat) (b : Byte) (s : State) (d : List Byte) :
    storeByte c k b (s.withDout d) = (storeByte c k b s).withDout d := by
  cases c with
  | loadStory => exact writeStoryByte_withDout k b s d
  | _ => rfl

/-- R171: a byte past the data, or outside a data phase. -/
theorem receiveByte_excess {s : State} (b : Byte) (h : ¬ (s.eli.phase = .dataOut ∧ ∃ c, s.eli.command = some c)) :
    receiveByte b s = phaseError s := by
  unfold receiveByte
  split
  · next c phase command => exact absurd ⟨phase, c, command⟩ h
  · rfl

theorem receiveByte_withDout (b : Byte) (s : State) (d : List Byte) :
    receiveByte b (s.withDout d) = (receiveByte b s).withDout d := by
  by_cases out : s.eli.phase = .dataOut ∧ ∃ c, s.eli.command = some c
  · obtain ⟨phase, c, command⟩ := out
    have stored : (storeByte c s.eli.counter b (s.withDout d)).updEli (fun e => { e with counter := e.counter + 1 }) =
        ((storeByte c s.eli.counter b s).updEli (fun e => { e with counter := e.counter + 1 })).withDout d := by
      rw [storeByte_withDout]
      rfl
    by_cases last : s.eli.dataLength ≤ s.eli.counter + 1
    · rw [receiveByte_last b phase command last, receiveByte_last (s := s.withDout d) b phase command last]
      exact (congrArg (completeData c) stored).trans (completeData_withDout c _ d)
    · rw [receiveByte_more b phase command (by omega),
        receiveByte_more (s := s.withDout d) b phase command (not_le.mp last)]
      exact stored
  · rw [receiveByte_excess b out, receiveByte_excess (s := s.withDout d) b out, phaseError_withDout]

theorem receiveBytes_withDout (bytes : List Byte) (d : List Byte) : ∀ s : State,
    receiveBytes bytes (s.withDout d) = (receiveBytes bytes s).withDout d := by
  induction bytes with
  | nil => exact fun _ => rfl
  | cons b t ih => exact fun s => (congrArg (receiveBytes t) (receiveByte_withDout b s d)).trans (ih _)

/-- R171: a DATA OUT frame in a data phase, by the bytes that it carries. -/
theorem exec_dataOutFrame {s : State} (bytes : List Byte) (k : s.listens) (phase : s.eli.phase = .dataOut)
    (inside : imagesOutside s = false) : exec (.dataOutFrame bytes) s =
      .next ((receiveBytes bytes s).withDout (List.replicate (bytes.length + 1) 0)) := by
  refine (if_neg (by simp [inside])).trans (congrArg Host.Outcome.next ((inPhase_of_phase _ _ k phase).trans ?_))
  exact receiveBytes_withDout bytes _ s

/-! ### After the last byte (R171) -/

/-- The data phase of a command has ended: the link is in EXECUTING, or its status stands, and is no LENGTH ERROR. -/
def State.ended (s : State) : Prop :=
  s.eli.phase = .executing ∨ (s.eli.phase = .statusReady ∧ ∃ st, s.eli.status = some st ∧ st.result ≠ .lengthError)

theorem ended_finish {st : Status} (s : State) (h : st.result ≠ .lengthError) : (finish st s).ended := .inr ⟨rfl, st, rfl, h⟩

theorem editFit_ne_lengthError (op pos count n : Nat) : editFit op pos count n ≠ some .lengthError := by
  unfold editFit
  split_ifs <;> exact nofun

/-- R170, R171: no owner answers LENGTH ERROR at the end of the data. -/
theorem ended_completeData (c : EdCommand) (s : State) : (completeData c s).ended := by
  cases c with
  | setSource r source =>
    refine ended_finish _ ?_
    show (applySource r _ _ s).1 ≠ _
    unfold applySource
    split <;> exact nofun
  | loadStory =>
    refine ended_finish _ ?_
    unfold completeStory
    split <;> exact nofun
  | loadFace a =>
    refine ended_finish _ ?_
    show (completeFace a s).1 ≠ _
    unfold completeFace
    dsimp only
    repeat' split
    all_goals exact nofun
  | edit band op pos count =>
    refine ended_finish _ ?_
    unfold completeEdit
    dsimp only
    split
    · exact nofun
    · split
      · exact nofun
      · split
        · next r fit => exact fun e => editFit_ne_lengthError _ _ _ _ (fit.trans (congrArg some e))
        · repeat' split
          all_goals exact nofun
  | request band r =>
    show (completeConfigure band s).ended
    unfold completeConfigure
    split
    · exact ended_finish _ nofun
    · dsimp only
      split
      · exact .inl rfl
      · exact ended_finish _ nofun
  | _ => exact ended_finish s nofun

/-- R171: the last byte of the data ends the data phase. -/
theorem ended_receiveBytes {c : EdCommand} (bytes : List Byte) : ∀ {s : State}, s.eli.phase = .dataOut →
    s.eli.command = some c → bytes ≠ [] → s.eli.counter + bytes.length = s.eli.dataLength → (receiveBytes bytes s).ended := by
  induction bytes with
  | nil => exact fun _ _ ne => absurd rfl ne
  | cons b t ih =>
    intro s phase command _ whole
    rw [List.length_cons] at whole
    rw [receiveBytes]
    by_cases last : t = []
    · subst last
      rw [receiveByte_last b phase command (by simp at whole; omega)]
      exact ended_completeData c _
    · have more : s.eli.counter + 1 < s.eli.dataLength := by have := List.length_pos_iff.mpr last; omega
      obtain ⟨counter, length, phase', command'⟩ := storeByte_counts c s.eli.counter b s
      rw [receiveByte_more b phase command more]
      refine ih (phase'.trans phase) (command'.trans command) last ?_
      show (storeByte c s.eli.counter b s).eli.counter + 1 + t.length = (storeByte c s.eli.counter b s).eli.dataLength
      rw [counter, length]
      omega

theorem State.ended.phase_ne {s : State} {p : EdPhase} (h : s.ended) (executing : p ≠ .executing) (ready : p ≠ .statusReady) :
    s.eli.phase ≠ p := by
  rintro rfl
  obtain phase | ⟨phase, -⟩ := h
  · exact executing phase
  · exact ready phase

theorem State.ended.inFlight {s : State} (h : s.ended) : s.eli.inFlight = true := by
  obtain phase | ⟨phase, st, status, fine⟩ := h
  · simp [Eli.inFlight, phase]
  · simp [Eli.inFlight, phase, status, fine]

/-- R175: after the end of the data nothing is in flight to be settled, and the command's tag and counts are kept. -/
theorem State.ended.phaseError {s : State} (h : s.ended) : phaseError s = s.updEli (fun e => { e with
    phase := .phaseError, command := none, data := [], reportNo := 0, latch := [], status := none }) := by
  have quiet : ¬ s.readsEvents := fun events => h.phase_ne (p := .dataIn) nofun nofun events.1
  rw [phaseError_frame (h.phase_ne nofun nofun), abandon_other (h.phase_ne nofun nofun) quiet, Eli.toPhaseError, h.inFlight]
  rfl

/-- R174, R175: in PHASE ERROR every data byte is ignored. -/
theorem receiveBytes_phaseError (bytes : List Byte) : ∀ {s : State}, s.eli.phase = .phaseError → receiveBytes bytes s = s := by
  induction bytes with
  | nil => exact fun _ => rfl
  | cons b t ih =>
    intro s phase
    have ignored : receiveByte b s = s := by
      rw [receiveByte_excess b (fun out => by rw [phase] at out; cases out.1), phaseError_same phase]
    rw [receiveBytes, ignored, ih phase]

/-- Settles O35: each frame of the wrong kind enters PHASE ERROR, a link in PHASE ERROR stays in it, and so does the first byte past
the data. -/
theorem phaseErrors : Obligations.PhaseErrors := by
  unfold Obligations.PhaseErrors
  intro unknown block settled silent
  have settles : ∀ (s : State) (d : List Byte), s.eli.phase ≠ .phaseError → settled s ((phaseError s).withDout d) := by
    intro s d other
    rw [phaseError_frame other]
    refine ⟨?_, fun none => ?_, fun some => ?_, fun data => ?_, fun idle => ?_, fun quiet => ?_, fun events => ?_⟩
    · rw [abandon_frame s]
      rfl
    · have flight := Eli.inFlight_eq_false.mpr none
      simp [State.withDout, State.updEli, Eli.toPhaseError, flight]
    · have flight : s.eli.inFlight = true := Bool.of_not_eq_false fun no => some (Eli.inFlight_eq_false.mp no)
      simp [State.withDout, State.updEli, Eli.toPhaseError, flight]
    · rw [abandon_dataOut data]
      exact ⟨rfl, rfl, rfl⟩
    · by_cases events : s.readsEvents
      · rw [abandon_readsEvents events]
        exact ⟨rfl, rfl, rfl⟩
      · rw [abandon_other idle events]
        exact ⟨rfl, rfl, rfl⟩
    · by_cases data : s.eli.phase = .dataOut
      · rw [abandon_dataOut data]
        rfl
      · rw [abandon_other data quiet]
        rfl
    · rw [abandon_readsEvents events]
      exact ⟨rfl, foldl_addEvent_append .., mem_abandonRead_pending⟩
  refine ⟨fun s k other => ?_, fun s k error => ?_, ?_⟩
  · refine ⟨fun kind no => ?_, fun wrong bytes => ?_, fun wrong bytes => ?_, fun wrong n => ?_, fun executing ready n => ?_⟩
    · exact ⟨_, exec_frameOfUnknownKind k no, settles s _ other, rfl⟩
    · exact ⟨_, exec_commandFrame_wrong bytes k wrong, settles s _ other, rfl⟩
    · exact ⟨_, exec_dataOutFrame_wrong bytes k wrong, settles s _ other, rfl⟩
    · exact ⟨_, exec_dataInFrame_wrong n k wrong, settles s _ other, rfl⟩
    · exact ⟨_, exec_statusFrame_wrong n k executing ready, settles s _ other, rfl⟩
  · have ne : ∀ p, p ≠ .phaseError → s.eli.phase ≠ p := fun p no e => no (e.symm.trans error)
    have same := phaseError_same error
    intro ignored
    refine ⟨fun kind no => ?_, fun bytes => ?_, fun bytes => ?_, fun n => ?_, fun n => ?_⟩
    · exact ⟨_, exec_frameOfUnknownKind k no, by rw [same]; rfl⟩
    · exact ⟨_, exec_commandFrame_wrong bytes k (ne _ nofun), by rw [same]; rfl⟩
    · exact ⟨_, exec_dataOutFrame_wrong bytes k (ne _ nofun), by rw [same]; rfl⟩
    · exact ⟨_, exec_dataInFrame_wrong n k (ne _ nofun), by rw [same]; rfl⟩
    · rw [exec_statusFrame_wrong n k (ne _ nofun) (ne _ nofun), same]
      rfl
  · intro s t bytes more extra k phase command some_data whole run
    obtain ⟨c, command⟩ := Option.ne_none_iff_exists'.mp command
    have inside : imagesOutside s = false := by
      by_contra outside
      cases (if_pos (Bool.of_not_eq_false outside)).symm.trans run
    rw [exec_dataOutFrame bytes k phase inside] at run
    cases run
    have ended := ended_receiveBytes bytes phase command some_data whole
    have past : ¬ ((receiveBytes bytes s).eli.phase = .dataOut ∧ ∃ c, (receiveBytes bytes s).eli.command = some c) :=
      fun out => ended.phase_ne (p := .dataOut) nofun nofun out.1
    rw [exec_dataOutFrame _ k phase inside, receiveBytes_append, receiveBytes, receiveByte_excess extra past, ended.phaseError,
      receiveBytes_phaseError more rfl, List.length_append, List.length_cons]
    rfl

end Sys2Proof.Machine

/-! SUPPORT for O51. Which bytes of a transfer the panel bus interface acknowledges (R177, R178): a write at the device's own
address and a broadcast take their bytes in one way, `Taking`, and differ in the command bytes that they know. -/

namespace Sys2Proof.Machine

/-! ### The bytes of a write and of a broadcast (R177, R178) -/

/-- R177, R178: a transfer that takes bytes, with the command bytes that it knows; after a byte that is not acknowledged it takes
none. -/
def Taking (T : List Byte → Bool → Transfer) (known : Byte → Bool) : Prop :=
  ∀ {s : State} {bytes : List Byte} {discard : Bool} (b : Byte), s.pbi.transfer = T bytes discard → panelByte b s =
    if !discard && acknowledges known bytes b then (true, setTransfer (T (bytes ++ [b]) false) s)
    else (false, setTransfer (T bytes true) s)

theorem taking_write : Taking .write (fun c => (panelArguments c).isSome) := fun b h => by
  unfold panelByte
  rw [h]

theorem taking_broadcast : Taking .broadcast broadcastCommand := fun b h => by
  unfold panelByte
  rw [h]

theorem panelBytes_append (l l' : List Byte) (s : State) : panelBytes (l ++ l') s =
    ((panelBytes l s).1 ++ (panelBytes l' (panelBytes l s).2).1, (panelBytes l' (panelBytes l s).2).2) := by
  induction l generalizing s with
  | nil => rfl
  | cons b t ih => simp [panelBytes, ih]

section
variable {T : List Byte → Bool → Transfer} {known : Byte → Bool} (taking : Taking T known)
include taking

/-- R177: the arguments of a known command are acknowledged, up to their count. -/
theorem Taking.arguments {c : Byte} (arguments : List Byte) : ∀ {s : State} {before : List Byte},
    s.pbi.transfer = T (c :: before) false → panelArguments c = some (before.length + arguments.length) →
    panelBytes arguments s = (List.replicate arguments.length true, setTransfer (T (c :: (before ++ arguments)) false) s) := by
  induction arguments with
  | nil =>
    intro s before h _
    rw [List.append_nil, setTransfer_self h]
    rfl
  | cons b rest ih =>
    intro s before h count
    rw [List.length_cons] at count
    have room : acknowledges known (c :: before) b = true := by
      simp only [acknowledges, count, Option.getD_some, decide_eq_true_eq]
      omega
    have taken : panelByte b s = (true, setTransfer (T (c :: (before ++ [b])) false) s) := by
      rw [taking b h, room]
      rfl
    rw [panelBytes, taken]
    dsimp only
    rw [ih (before := before ++ [b]) rfl (by rw [count, List.length_append, List.length_singleton]; congr 1; omega),
      List.append_assoc]
    rfl

/-- R177: a command with its arguments is acknowledged whole. -/
theorem Taking.whole {c : Byte} {arguments : List Byte} {s : State} (h : s.pbi.transfer = T [] false) (knows : known c = true)
    (count : panelArguments c = some arguments.length) : panelBytes (c :: arguments) s =
      (List.replicate (arguments.length + 1) true, setTransfer (T (c :: arguments) false) s) := by
  have taken : panelByte c s = (true, setTransfer (T [c] false) s) := by
    rw [taking c h]
    exact if_pos knows
  rw [panelBytes, taken]
  dsimp only
  rw [taking.arguments arguments (before := []) rfl (by rw [count, List.length_nil, Nat.zero_add])]
  rfl

/-- R177: nothing is acknowledged after a byte that was not. -/
theorem Taking.discards {bytes : List Byte} (rest : List Byte) : ∀ {s : State}, s.pbi.transfer = T bytes true →
    panelBytes rest s = (List.replicate rest.length false, s) := by
  induction rest with
  | nil => exact fun _ => rfl
  | cons b rest ih =>
    intro s h
    have passed : panelByte b s = (false, s) := (taking b h).trans (congrArg (Prod.mk false) (setTransfer_self h))
    rw [panelBytes, passed, ih h]
    rfl

/-- R177: a byte that is not acknowledged, and those after it. -/
theorem Taking.refuses {bytes : List Byte} {s : State} {b : Byte} (rest : List Byte) (h : s.pbi.transfer = T bytes false)
    (no : acknowledges known bytes b = false) :
    panelBytes (b :: rest) s = (List.replicate (rest.length + 1) false, setTransfer (T bytes true) s) := by
  have passed : panelByte b s = (false, setTransfer (T bytes true) s) := by
    rw [taking b h, no]
    rfl
  rw [panelBytes, passed]
  dsimp only
  rw [taking.discards rest rfl]
  rfl

/-- R177: a byte beyond the arguments of a command is not acknowledged. -/
theorem Taking.beyond {c x : Byte} {arguments rest : List Byte} {s : State} (h : s.pbi.transfer = T [] false)
    (knows : known c = true) (count : panelArguments c = some arguments.length) : panelBytes (c :: arguments ++ x :: rest) s =
      (List.replicate (arguments.length + 1) true ++ List.replicate (rest.length + 1) false,
        setTransfer (T (c :: arguments) true) s) := by
  have full : acknowledges known (c :: arguments) x = false := by simp [acknowledges, count]
  rw [panelBytes_append, taking.whole h knows count]
  dsimp only
  rw [taking.refuses rest rfl full]
  rfl

end

/-! ### The address byte (R177, R178) -/

theorem readAddress_eq (s : State) : readAddress s = writeAddress s + 1 := by
  unfold readAddress writeAddress byteOf
  bv_omega

/-- R177: no strapped address is the general call address. -/
theorem address_ne_generalCall (s : State) : writeAddress s ≠ 0 ∧ readAddress s ≠ 0 := by
  have strap := s.straps.panelAddr.isLt
  unfold readAddress writeAddress byteOf ownAddress
  constructor <;> bv_omega

/-- R177: a device that is not addressed acknowledges nothing. -/
theorem panelBytes_notAddressed (bytes : List Byte) : ∀ {s : State}, s.pbi.transfer = .notAddressed →
    panelBytes bytes s = (List.replicate bytes.length false, s) := by
  induction bytes with
  | nil => exact fun _ => rfl
  | cons b rest ih =>
    intro s h
    have passed : panelByte b s = (false, s) := by
      unfold panelByte
      rw [h]
    rw [panelBytes, passed, ih h]
    rfl

section
variable {s : State} (run : s.run = .running) (address : s.pbi.transfer = .address)
include run address

theorem panelByte_ownAddress : panelByte (writeAddress s) s = (true, setTransfer (.write [] false) s) := by
  simp [panelByte, address, run]

theorem panelByte_generalCall : panelByte 0 s = (true, setTransfer (.broadcast [] false) s) := by
  obtain ⟨own, read⟩ := address_ne_generalCall s
  simp only [panelByte, address]
  rw [if_neg (not_not.mpr run), if_neg own.symm, if_neg read.symm]
  rfl

theorem panelBytes_otherAddress {b : Byte} (rest : List Byte) (own : b ≠ writeAddress s) (read : b ≠ readAddress s)
    (general : b ≠ 0) :
    panelBytes (b :: rest) s = (List.replicate (rest.length + 1) false, setTransfer .notAddressed s) := by
  have passed : panelByte b s = (false, setTransfer .notAddressed s) := by
    simp only [panelByte, address]
    rw [if_neg (not_not.mpr run), if_neg own, if_neg read, if_neg (show b ≠ generalCall from general)]
  rw [panelBytes, passed]
  dsimp only
  rw [panelBytes_notAddressed rest rfl]
  rfl

end

theorem exec_panelWrite {s : State} {bytes : List Byte} {acks : List Bool} {t t' : Transfer} (run : s.run = .running)
    (heard : panelBytes bytes (setTransfer t s) = (acks, setTransfer t' s)) : exec (.panelWrite bytes) (setTransfer t s) =
      .next { s with pbi := { s.pbi with transfer := t', acks := acks } } := by
  refine congrArg Host.Outcome.next ((if_neg (by simp [setTransfer, run])).trans ?_)
  unfold writeBytes
  rw [heard]
  rfl

/-! ### The command bytes of the broadcasts (R178) -/

theorem broadcastCommand_eq_false {c : Byte} (h : c ∉ [(0x20 : Byte), 0x30, 0x31, 0x32]) : broadcastCommand c = false := by
  simpa [broadcastCommand, ← BitVec.toNat_inj] using h

theorem broadcastCommand_of_mem {c : Byte} {n : Nat} (h : (c, n) ∈ [((0x20 : Byte), 1), (0x30, 1), (0x31, 0), (0x32, 0)]) :
    broadcastCommand c = true ∧ panelArguments c = some n := by
  simp only [List.mem_cons, Prod.mk.injEq, List.not_mem_nil, or_false] at h
  obtain ⟨rfl, rfl⟩ | ⟨rfl, rfl⟩ | ⟨rfl, rfl⟩ | ⟨rfl, rfl⟩ := h <;> exact ⟨rfl, rfl⟩

end Sys2Proof.Machine

/-! PROOF. What a write and a broadcast do at their end (O51). -/

namespace Sys2Proof.Machine

/-! ### A command that is handed over does not look at the transfer (R177) -/

theorem panelRequest_setTransfer (b : Fin 4) (r : BandRequest) (t : Transfer) (s : State) :
    panelRequest b r (setTransfer t s) = setTransfer t (panelRequest b r s) := by
  by_cases room : (s.band b).queue.length < 8
  · rw [panelRequest_of_room r room, panelRequest_of_room (s := setTransfer t s) r room]
    rfl
  · rw [panelRequest_of_full r (not_lt.mp room), panelRequest_of_full (s := setTransfer t s) r (not_lt.mp room)]
    rfl

theorem panelBand_setTransfer (band : Nat) (r : BandRequest) (t : Transfer) (s : State) :
    panelBand band r (setTransfer t s) = setTransfer t (panelBand band r s) := by
  unfold panelBand
  split
  · rfl
  · exact panelRequest_setTransfer ..

theorem panelBroadcast_setTransfer (r : BandRequest) (t : Transfer) (s : State) :
    panelBroadcast r (setTransfer t s) = setTransfer t (panelBroadcast r s) := by
  simp only [panelBroadcast, panelRequest_setTransfer]

theorem panelLaneCommand_setTransfer {f : Fin 4 → State → State} (lane : Nat) (t : Transfer) (s : State)
    (h : ∀ n, f n (setTransfer t s) = setTransfer t (f n s)) :
    panelLaneCommand lane f (setTransfer t s) = setTransfer t (panelLaneCommand lane f s) := by
  unfold panelLaneCommand
  split
  · rfl
  · exact h _

theorem handOver_setTransfer (c a0 a1 : Byte) (t : Transfer) (s : State) :
    handOver c a0 a1 (setTransfer t s) = setTransfer t (handOver c a0 a1 s) := by
  unfold handOver
  split
  case h_6 =>
    split
    · rfl
    · exact panelBand_setTransfer ..
  case h_7 | h_8 => exact panelLaneCommand_setTransfer _ _ _ (fun _ => rfl)
  case h_9 =>
    dsimp only [releaseLink, setTransfer, State.updPbi]
    split <;> rfl
  case h_10 =>
    unfold panelSoftClean
    split <;> rfl
  case h_11 =>
    unfold panelThreshold
    split <;> rfl
  case h_12 =>
    split
    · rfl
    · exact panelBroadcast_setTransfer ..
  case h_13 | h_14 => exact panelBroadcast_setTransfer ..
  case h_15 => rfl
  all_goals exact panelBand_setTransfer ..

theorem takeWrite_setTransfer (bytes : List Byte) (discard : Bool) (t : Transfer) (s : State) :
    takeWrite bytes discard (setTransfer t s) = setTransfer t (takeWrite bytes discard s) := by
  unfold takeWrite
  split
  · rfl
  · split
    · rfl
    · split
      · exact handOver_setTransfer ..
      · rfl

/-! ### The end of a write (R177, R180) -/

theorem takeWrite_whole {c : Byte} {arguments : List Byte} (s : State) (whole : panelArguments c = some arguments.length) :
    takeWrite (c :: arguments) false s = handOver c (byteAt arguments 0) (byteAt arguments 1) s := if_pos whole

theorem takeWrite_short {c : Byte} {arguments : List Byte} {n : Nat} (s : State) (count : panelArguments c = some n)
    (short : arguments.length < n) : takeWrite (c :: arguments) false s = refuseWrite s :=
  if_neg fun whole => short.ne (Option.some.inj (whole.symm.trans count))

theorem takeWrite_discarded (bytes : List Byte) (s : State) : takeWrite bytes true s = s := by cases bytes <;> rfl

/-- R177: what a stop does after a write. -/
theorem exec_stopCondition_write {s : State} (bytes : List Byte) (discard : Bool) (run : s.run = .running) :
    exec .stopCondition (setTransfer (.write bytes discard) s) =
      .next ((takeWrite bytes discard s).updPbi (fun p => { p with transfer := .notAddressed, block := [] })) := by
  refine (exec_stopCondition (s := setTransfer (.write bytes discard) s) run).trans (congrArg Host.Outcome.next ?_)
  show (takeWrite bytes discard (setTransfer (.write bytes discard) s)).updPbi _ = _
  rw [takeWrite_setTransfer]
  rfl

/-- R178, R180: a broadcast ends as the same write does, by a stop and by a start. -/
theorem restart_broadcast (t : Transfer) (bytes : List Byte) (discard : Bool) (s : State) :
    restart t (setTransfer (.broadcast bytes discard) s) = restart t (setTransfer (.write bytes discard) s) := by
  show (takeWrite bytes discard (setTransfer (.broadcast bytes discard) s)).updPbi _ =
    (takeWrite bytes discard (setTransfer (.write bytes discard) s)).updPbi _
  rw [takeWrite_setTransfer, takeWrite_setTransfer]
  rfl

/-! ### The band argument -/

theorem panelBand_fin (b : Fin 4) (r : BandRequest) (s : State) : panelBand (byteOf b.val).toNat r s = panelRequest b r s := by
  have code : (byteOf b.val).toNat = b.val := by
    rw [byteOf, BitVec.toNat_ofNat]
    omega
  unfold panelBand
  rw [code, four_fin]

theorem panelBand_outside {band : Nat} (h : 3 < band) (r : BandRequest) (s : State) : panelBand band r s = refuseWrite s := by
  unfold panelBand
  rw [four_of_large h]

/-! ### The yes-or-no arguments (R184) -/

theorem handOver_nudge (a0 a1 : Byte) (s : State) : handOver 0x06 a0 a1 s =
    (yesNoOf a1.toNat).elim (refuseWrite s) (fun up => panelBand a0.toNat (.nudge up) s) := by
  unfold handOver
  cases yesNoOf a1.toNat <;> rfl

theorem handOver_allTakeOff_refused {a0 : Byte} (a1 : Byte) (s : State) (h : yesNoOf a0.toNat = none) :
    handOver 0x30 a0 a1 s = refuseWrite s := by
  unfold handOver
  rw [h]
  rfl

/-- Settles O51: the bytes acknowledged, and each write at its end. -/
theorem panelWrites : Obligations.PanelWrites := by
  unfold Obligations.PanelWrites
  intro s run own during heard acts refused
  have hears : ∀ {b : Byte} {bytes : List Byte} {acks : List Bool} {u : State} {t : Transfer},
      panelByte b (setTransfer .address s) = (true, u) → panelBytes bytes u = (acks, setTransfer t s) →
      heard .address (b :: bytes) t (true :: acks) := by
    intro b bytes acks u t addressed taken
    refine exec_panelWrite run ?_
    rw [panelBytes, addressed]
    dsimp only
    rw [taken]
  have written := panelByte_ownAddress (s := setTransfer .address s) run rfl
  have called := panelByte_generalCall (s := setTransfer .address s) run rfl
  have handed : ∀ {c : Byte} {arguments : List Byte} {i : Instr} {f : State → State}, panelArguments c = some arguments.length →
      (∀ u, exec i u = .next (whenRunning f u)) → (∀ u, handOver c (byteAt arguments 0) (byteAt arguments 1) u = f u) →
      acts (c :: arguments) i := by
    intro c arguments i f whole row same
    refine ⟨f (during (.write (c :: arguments) false)), ?_, ?_⟩
    · rw [row, whenRunning_running (by exact run)]
    · refine (exec_stopCondition (s := during (.write (c :: arguments) false)) run).trans (congrArg Host.Outcome.next ?_)
      show (takeWrite (c :: arguments) false (during (.write (c :: arguments) false))).updPbi _ = _
      rw [takeWrite_whole _ whole, same]
      rfl
  have refuses : ∀ {bytes : List Byte}, takeWrite bytes false s = refuseWrite s → refused bytes := by
    intro bytes taken
    refine (exec_stopCondition_write bytes false run).trans ?_
    rw [taken]
    rfl
  have known : ∀ {c : Byte} {n : Nat}, panelArguments c = some n → (panelArguments c).isSome = true := fun count => by
    rw [count]
    rfl
  refine ⟨exec_startCondition (s := during .notAddressed) run, fun c arguments count => ?_, fun c arguments mem => ?_,
    fun c rest no => ?_, fun c arguments rest x mem => ?_, fun c rest no => ?_, fun c arguments rest x count => ?_,
    fun b rest ne ne' general => ?_, fun b x => ?_, fun x y high => ?_, fun x y high => ?_,
    fun c arguments n count short => ?_, fun bytes => ?_, fun bytes discard => ?_⟩
  · exact hears written (taking_write.whole rfl (known count) count)
  · obtain ⟨knows, count⟩ := broadcastCommand_of_mem mem
    exact hears called (taking_broadcast.whole rfl knows count)
  · exact hears called (taking_broadcast.refuses rest rfl (broadcastCommand_eq_false no))
  · obtain ⟨knows, count⟩ := broadcastCommand_of_mem mem
    exact hears called (taking_broadcast.beyond rfl knows count)
  · exact hears written (taking_write.refuses rest rfl (congrArg Option.isSome no))
  · exact hears written (taking_write.beyond rfl (known count) count)
  · exact exec_panelWrite run (panelBytes_otherAddress (s := during .address) run rfl rest ne
      (by rw [readAddress_eq]; exact ne') general)
  · have band : ∀ r u, panelBand (byteOf b.val).toNat r u = panelRequest b r u := panelBand_fin b
    exact ⟨handed rfl (fun _ => rfl) (band _), handed rfl (fun _ => rfl) (band _), handed rfl (fun _ => rfl) (band _),
      handed rfl (fun _ => rfl) (band _), handed rfl (fun _ => rfl) (band _), handed rfl (fun _ => rfl) (band _),
      handed rfl (fun _ => rfl) (band _), handed rfl (fun _ => rfl) (fun _ => rfl), handed rfl (fun _ => rfl) (fun _ => rfl),
      handed rfl (fun _ => rfl) (fun _ => rfl), handed rfl (fun _ => rfl) (fun _ => rfl),
      handed rfl (fun _ => rfl) (fun _ => rfl), handed rfl (fun _ => rfl) (fun _ => rfl),
      handed rfl (fun _ => rfl) (fun _ => rfl), handed rfl (fun _ => rfl) (fun _ => rfl),
      handed rfl (fun _ => rfl) (fun _ => rfl)⟩
  · have outside : ∀ r, panelBand x.toNat r s = refuseWrite s := fun r => panelBand_outside high r s
    refine ⟨refuses (outside _), refuses (outside _), refuses (outside _), refuses (outside _), refuses (outside _), refuses ?_⟩
    refine (takeWrite_whole (c := 0x06) (arguments := [x, y]) s rfl).trans ((handOver_nudge x y s).trans ?_)
    cases yesNoOf y.toNat with
    | none => rfl
    | some up => exact outside _
  · have none := yesNoOf_of_lt high
    refine ⟨refuses ?_, refuses ?_⟩
    · refine (takeWrite_whole (c := 0x06) (arguments := [y, x]) s rfl).trans ((handOver_nudge y x s).trans ?_)
      rw [none]
      rfl
    · exact (takeWrite_whole (c := 0x30) (arguments := [x]) s rfl).trans (handOver_allTakeOff_refused _ s none)
  · exact refuses (takeWrite_short s count short)
  · refine (exec_stopCondition_write bytes true run).trans ?_
    rw [takeWrite_discarded]
    rfl
  · have started : ∀ t, exec .startCondition (during t) = .next (restart .address (during t)) :=
      fun t => exec_startCondition (s := during t) run
    have stopped : ∀ t, exec .stopCondition (during t) = .next (restart .notAddressed (during t)) :=
      fun t => exec_stopCondition (s := during t) run
    refine ⟨?_, ?_, ⟨_, stopped _, rfl, started _⟩⟩
    · exact (stopped _).trans ((congrArg Host.Outcome.next (restart_broadcast _ bytes discard s)).trans (stopped _).symm)
    · exact (started _).trans ((congrArg Host.Outcome.next (restart_broadcast _ bytes discard s)).trans (started _).symm)

end Sys2Proof.Machine

/-! SUPPORT for O58. What a step can do to the attention unit, said once: `AuStep` lists the single steps, and `attends_of_step` says
that every step of the device is a chain of them. An invariant of the attention unit is then one lemma, with one case for each kind
of step. -/

namespace Sys2Proof.Machine

/-! ### What a step can do to the attention unit -/

/-- One step of the attention unit: an event raised, a level table or a threshold stored, the beginning or an end of a master's read,
or a reset. -/
inductive AuStep : Au → Au → Prop
  | raise {a : Au} (e : Event) : AuStep a (a.raise e)
  | store {a : Au} (m : Master) (f : MasterSet → MasterSet)
      (sets : ∀ t, (f t).pending = t.pending ∧ (f t).hold = t.hold ∧ (f t).latch = t.latch) : AuStep a (a.upd m f)
  | beginRead {a : Au} (m : Master) : AuStep a (a.upd m MasterSet.beginRead)
  | completeRead {a : Au} (m : Master) : AuStep a (a.upd m MasterSet.completeRead)
  | abandonRead {a : Au} (m : Master) : AuStep a (a.upd m MasterSet.abandonRead)
  | reset {a : Au} : AuStep a Au.reset

/-- From `s` to `t` the attention unit has made steps of these kinds, one after another. -/
def State.Attends (s t : State) : Prop := Relation.ReflTransGen AuStep s.au t.au

theorem State.Attends.of_eq {s t : State} (h : t.au = s.au) : s.Attends t := by
  unfold State.Attends
  rw [h]

theorem State.Attends.refl (s : State) : s.Attends s := .of_eq rfl

theorem State.Attends.trans {s t u : State} (h : s.Attends t) (k : t.Attends u) : s.Attends u := Relation.ReflTransGen.trans h k

theorem State.Attends.one {s t : State} (h : AuStep s.au t.au) : s.Attends t := Relation.ReflTransGen.single h

theorem State.Attends.ite {c : Prop} [Decidable c] {s t u : State} (h : s.Attends t) (k : s.Attends u) :
    s.Attends (if c then t else u) := by
  split
  · exact h
  · exact k

/-- An event raised beside changes of the other blocks. -/
theorem State.Attends.raised {s t : State} {k : EventKind} {src : EventSource} (h : t.au = s.au.raise ⟨k, src⟩) : s.Attends t :=
  .one (h ▸ .raise _)

theorem attends_raise (s : State) (k : EventKind) (src : EventSource) : s.Attends (s.raise k src) := .raised rfl

/-! ### Each kind of step keeps the sets free of equal pairs -/

theorem nodup_addEvent {l : List Event} (h : l.Nodup) (e : Event) : (addEvent l e).Nodup := by
  unfold addEvent
  split
  · exact h
  · next fresh => exact List.concat_eq_append ▸ h.concat fresh

theorem nodup_foldl_addEvent {l k : List Event} (h : l.Nodup) : (k.foldl addEvent l).Nodup := by
  induction k generalizing l with
  | nil => exact h
  | cons e k ih => exact ih (nodup_addEvent h e)

theorem MasterSet.ok.record {m : MasterSet} (h : m.ok) (e : Event) : (m.record e).ok := by
  obtain ⟨pending, hold, outside⟩ := h
  unfold MasterSet.record
  split
  · exact ⟨pending, hold, outside⟩
  · split
    · next reading => exact ⟨pending, nodup_addEvent hold e, fun none => by rw [none] at reading; cases reading⟩
    · exact ⟨nodup_addEvent pending e, hold, outside⟩

/-- R189: the end of a read, whole or not, empties the hold set. -/
theorem MasterSet.mergeHold_ok {m : MasterSet} (h : m.pending.Nodup) : m.mergeHold.ok :=
  ⟨nodup_foldl_addEvent h, List.nodup_nil, fun _ => rfl⟩

theorem MasterSet.reset_ok (m : Master) : (MasterSet.reset m).ok := ⟨List.nodup_nil, List.nodup_nil, fun _ => rfl⟩

/-- No set of the attention unit holds two equal pairs, and outside a read the hold set is empty. -/
def Au.ok (a : Au) : Prop := ∀ m, (a.get m).ok

theorem Au.ok.upd {a : Au} (h : a.ok) (m : Master) {f : MasterSet → MasterSet} (k : ∀ t, t.ok → (f t).ok) : (a.upd m f).ok := by
  intro n
  rw [Au.upd_get]
  split
  · exact k _ (h m)
  · exact h n

theorem AuStep.ok {a a' : Au} (k : AuStep a a') (h : a.ok) : a'.ok := by
  cases k with
  | raise e => exact fun m => by rw [Au.raise_get]; exact (h m).record e
  | store m f sets =>
    refine h.upd m fun t ok => ?_
    obtain ⟨pending, hold, latch⟩ := sets t
    unfold MasterSet.ok
    rw [pending, hold, latch]
    exact ok
  | beginRead m => exact h.upd m fun _ ok => ⟨ok.1, ok.2.1, nofun⟩
  | completeRead m => exact h.upd m fun _ ok => MasterSet.mergeHold_ok (ok.1.filter _)
  | abandonRead m => exact h.upd m fun _ ok => MasterSet.mergeHold_ok ok.1
  | reset => exact fun m => by cases m <;> exact MasterSet.reset_ok _

theorem State.Attends.attentionOk {s t : State} (k : s.Attends t) (h : s.attentionOk) : t.attentionOk := by
  have ok : t.au.ok := by
    refine Relation.ReflTransGen.head_induction_on (motive := fun a _ => a.ok → t.au.ok) k id (fun step _ ih first => ?_) h
    exact ih (step.ok first)
  exact ok

/-! ### Banks, counts and program states -/

@[simp] theorem State.updQuoteAt_au (s : State) (i : Nat) (f : Quote → Quote) : (s.updQuoteAt i f).au = s.au := by
  unfold State.updQuoteAt
  split <;> rfl

@[simp] theorem freeStoryIfGone_au (i : Fin 256) (s : State) : (freeStoryIfGone i s).au = s.au := by
  unfold freeStoryIfGone
  dsimp only
  split <;> rfl

theorem reportRemoval_au (i : Inst) (s : State) : (reportRemoval i s).au = s.au := by
  unfold reportRemoval dropStory
  split
  · exact State.updQuoteAt_au ..
  · split
    · exact freeStoryIfGone_au ..
    · rfl
  all_goals rfl

theorem reportRemovals_au (l : List Inst) (s : State) : (reportRemovals l s).au = s.au := by
  induction l generalizing s with
  | nil => rfl
  | cons i t ih => exact (ih _).trans (reportRemoval_au i s)

@[simp] theorem removeFront_au (b : Fin 4) (n : Nat) (s : State) : (removeFront b n s).au = s.au := reportRemovals_au ..

@[simp] theorem addInstance_au (b : Fin 4) (i : Inst) (s : State) : (addInstance b i s).au = s.au := by
  unfold addInstance reportCreation
  split
  · exact State.updQuoteAt_au ..
  · split <;> rfl
  all_goals rfl

theorem attends_swapBanks (b : Fin 4) (s : State) : s.Attends (swapBanks b s) := .raised rfl

theorem attends_swapIf (p : CommitMode → Bool) (b : Fin 4) (s : State) : s.Attends (swapIf p b s) :=
  .ite (attends_swapBanks b s) (.refl s)

theorem attends_changeProg (b : Fin 4) (p : Prog) (s : State) : s.Attends (changeProg b p s) := .raised rfl

theorem attends_enterReady (b : Fin 4) (s : State) : s.Attends (enterReady b s) :=
  (State.Attends.raised rfl).trans (attends_swapIf ..)

theorem attends_takeCommit (b : Fin 4) (m : CommitMode) (s : State) : s.Attends (takeCommit b m s) :=
  .ite (.of_eq rfl) (attends_swapBanks b s)

theorem attends_advanceCursor (b : Fin 4) (s : State) : s.Attends (advanceCursor b s) :=
  .ite ((State.Attends.raised rfl).trans (attends_swapIf ..)) (.of_eq rfl)

/-! ### A CRAWL band -/

@[simp] theorem admitInst_au (b : Fin 4) (i : Inst) (s : State) : (admitInst b i s).au = s.au := addInstance_au ..

theorem attends_deferAdmission (b : Fin 4) (s : State) : s.Attends (deferAdmission b s) := .ite (.refl s) (.raised rfl)

theorem attends_endBreaks (b : Fin 4) (s : State) : s.Attends (endBreaks b s) :=
  .ite ((State.Attends.ite (.raised rfl) (.refl s)).trans (attends_raise ..)) (.refl s)

theorem attends_considerBreak (c : BandConfig) (b : Fin 4) (e : BreakEntry) (rest : List BreakEntry) (s : State) :
    s.Attends (considerBreak c b e rest s) :=
  State.Attends.trans (.ite (.of_eq (by simp [useRepeat])) (attends_raise (s.updBand b (fun d => { d with breaks := rest })) ..))
    (attends_endBreaks ..)

theorem attends_considerItem (c : BandConfig) (b : Fin 4) (i : Item) (s : State) : s.Attends (considerItem c b i s) :=
  State.Attends.trans (.ite (.of_eq (admitInst_au ..)) (attends_raise ..)) (attends_advanceCursor ..)

theorem attends_admitLoop (c : BandConfig) (b : Fin 4) (fuel : Nat) : ∀ (skips : Nat) (s : State),
    s.Attends (admitLoop c b fuel skips s) := by
  induction fuel with
  | zero => exact fun _ s => .refl s
  | succ fuel ih =>
    intro skips s
    unfold admitLoop
    refine .ite (.refl s) (.ite (attends_deferAdmission b s) ?_)
    split
    · exact (attends_considerBreak ..).trans (ih ..)
    · refine .ite (.ite ((attends_swapBanks b s).trans (ih ..)) (attends_raise ..)) (.ite (attends_raise ..) ?_)
      split
      · exact .refl s
      · exact (attends_considerItem ..).trans (ih ..)

theorem attends_admissionStep (c : BandConfig) (b : Fin 4) (s : State) : s.Attends (admissionStep c b s) :=
  .ite ((attends_swapIf ..).trans (attends_admitLoop ..)) (attends_swapIf ..)

theorem attends_drainEndStep (b : Fin 4) (s : State) : s.Attends (drainEndStep b s) :=
  .ite (attends_enterReady b (s.updBand b (fun d => { d with speed := 0, deferral := false }))) (.refl s)

theorem attends_clearingEndStep (b : Fin 4) (s : State) : s.Attends (clearingEndStep b s) :=
  .ite (attends_changeProg ..) (.refl s)

theorem attends_crawlSteps (c : BandConfig) (b : Fin 4) (s : State) : s.Attends (crawlSteps c b s) := by
  have moved : s.Attends (moveStep b (rampStep c b s)) := .of_eq (by simp [moveStep, rampStep])
  exact ((moved.trans (attends_admissionStep ..)).trans (attends_drainEndStep ..)).trans (attends_clearingEndStep ..)

/-! ### A FLIP band -/

theorem attends_buildLoop (c : BandConfig) (b : Fin 4) (voffset : Int) (fuel : Nat) :
    ∀ (taken used lastGap skips : Nat) (s : State), s.Attends (buildLoop c b voffset fuel taken used lastGap skips s).2 := by
  induction fuel with
  | zero => exact fun _ _ _ _ s => .refl s
  | succ fuel ih =>
    intro taken used lastGap skips s
    have added : ∀ x, s.Attends (advanceCursor b (addInstance b x s)) := fun x =>
      (State.Attends.of_eq (addInstance_au b x s)).trans (attends_advanceCursor ..)
    have skipped : s.Attends (advanceCursor b (s.raise .itemSkipped (.band b))) :=
      (attends_raise ..).trans (attends_advanceCursor ..)
    unfold buildLoop
    split
    · exact .refl s
    · split
      · exact .refl s
      · split
        · split
          · exact .refl s
          · dsimp only
            split
            · exact added _
            · exact (added _).trans (ih ..)
        · dsimp only
          split
          · exact skipped
          · exact skipped.trans (ih ..)

theorem attends_pageBuild (c : BandConfig) (b : Fin 4) (voffset : Int) (s : State) : s.Attends (pageBuild c b voffset s).2 := by
  unfold pageBuild
  extract_lets s1 s2 r
  have immediate : s.Attends s1 := attends_swapIf ..
  have empty : s.Attends s2 := immediate.trans (.ite (attends_swapIf ..) (.refl s1))
  have built : s.Attends r.2 := empty.trans (attends_buildLoop ..)
  split
  · exact built.trans (attends_raise ..)
  · exact built

@[simp] theorem updPage_au (b : Fin 4) (f : Page → Page) (s : State) : (updPage b f s).au = s.au := rfl

@[simp] theorem setRoll_au (c : BandConfig) (b : Fin 4) (k : Nat) (s : State) : (setRoll c b k s).au = s.au := rfl

@[simp] theorem settlePage_au (c : BandConfig) (b : Fin 4) (n : Nat) (s : State) : (settlePage c b n s).au = s.au := rfl

@[simp] theorem enterLeaving_au (c : BandConfig) (b : Fin 4) (s : State) : (enterLeaving c b s).au = s.au := rfl

theorem attends_settled (c : BandConfig) (b : Fin 4) (voffset : Int) (s : State) :
    s.Attends (settlePage c b (pageBuild c b voffset s).1 (pageBuild c b voffset s).2) :=
  (attends_pageBuild ..).trans (.of_eq (settlePage_au ..))

theorem attends_expirePage (c : BandConfig) (b : Fin 4) (s : State) : s.Attends (expirePage c b s) := by
  unfold expirePage
  dsimp only
  split
  · split
    · exact .of_eq (by simp)
    · exact .of_eq (by simp)
  · split
    · exact (attends_pageBuild c b 0 s).trans (.of_eq (by simp))
    · exact (attends_pageBuild c b ((c.height : Int) - (rollLines c 1 : Int)) s).trans (.ite (.of_eq (by simp)) (.of_eq (by simp)))

theorem attends_endRoll (c : BandConfig) (b : Fin 4) (s : State) : s.Attends (endRoll c b s) := .of_eq (by simp [endRoll])

theorem attends_endLeaving (c : BandConfig) (b : Fin 4) (s : State) : s.Attends (endLeaving c b s) := by
  unfold endLeaving
  extract_lets k m s' r
  have left : s.Attends s' := .of_eq (by simp [s'])
  split
  · exact left.trans (attends_settled ..)
  · exact left

theorem attends_pageStep (c : BandConfig) (b : Fin 4) (s : State) : s.Attends (pageStep c b s) := by
  unfold pageStep
  split
  · exact .ite (attends_settled ..) (.refl s)
  · exact .ite (.refl s) (.ite (attends_expirePage ..) (.of_eq (updPage_au ..)))
  · exact .ite (.refl s) (.ite (.of_eq (setRoll_au ..)) (attends_endRoll ..))
  · exact .ite (.refl s) (.ite (.of_eq (setRoll_au ..)) (attends_endLeaving ..))

theorem attends_flipSteps (c : BandConfig) (b : Fin 4) (s : State) : s.Attends (flipSteps c b s) :=
  (attends_pageStep ..).trans (attends_drainEndStep ..)

/-! ### Requests -/

theorem attends_judgeRequest (sampled : Bool) (b : Fin 4) (r : BandRequest) (s : State) :
    s.Attends (judgeRequest sampled b r s).2 := by
  have updated : ∀ f, s.Attends (s.updBand b f) := fun _ => .of_eq rfl
  have moved : ∀ f p, s.Attends (changeProg b p (s.updBand b f)) := fun f p => (updated f).trans (attends_changeProg ..)
  cases r with
  | configure c =>
    show s.Attends (takeConfigure b c s).2
    unfold takeConfigure
    split
    · exact .refl s
    · split
      · exact .refl s
      · split
        · exact .refl s
        · exact .ite ((updated _).trans (attends_enterReady ..)) (updated _)
  | release =>
    show s.Attends (takeRelease b s).2
    unfold takeRelease
    split
    · exact moved _ _
    · exact .refl s
  | takeOn fromTop =>
    show s.Attends (takeTakeOn sampled b fromTop s).2
    unfold takeTakeOn
    extract_lets top
    split
    · split
      · exact .refl s
      · exact State.Attends.trans (.of_eq (by simp)) (attends_changeProg ..)
    · exact moved _ _
    all_goals exact .refl s
  | takeOffDrain =>
    show s.Attends (takeTakeOffDrain b s).2
    unfold takeTakeOffDrain
    split
    case h_1 => exact moved _ _
    case h_2 => exact moved _ _
    case h_3 => exact moved _ _
    all_goals exact .refl s
  | takeOffCut =>
    show s.Attends (takeTakeOffCut b s).2
    unfold takeTakeOffCut
    split
    · exact State.Attends.trans (.of_eq (by simp)) (attends_enterReady ..)
    · exact .refl s
  | halt =>
    show s.Attends (takeHalted b true s).2
    unfold takeHalted
    split
    · exact .refl s
    · exact updated _
  | resume =>
    show s.Attends (takeHalted b false s).2
    unfold takeHalted
    split
    · exact .refl s
    · exact updated _
  | setSpeed v =>
    show s.Attends (takeTarget b _ s).2
    unfold takeTarget
    split
    · exact .refl s
    · exact updated _
  | nudge up =>
    show s.Attends (takeTarget b _ s).2
    unfold takeTarget
    split
    · exact .refl s
    · exact updated _
  | commit m => exact attends_takeCommit ..
  | brk story repeats urgency =>
    show s.Attends (takeBreak b _ s).2
    unfold takeBreak
    split
    · exact .refl s
    · split
      · exact .refl s
      · split
        · exact .refl s
        · exact .ite (State.Attends.trans (.of_eq (by simp)) (attends_changeProg ..)) (updated _)
  | breakClear =>
    show s.Attends (takeBreakClear b s).2
    unfold takeBreakClear
    split
    · exact .refl s
    · split
      case h_1 => exact moved _ _
      case h_2 => exact moved _ _
      case h_3 => exact updated _
      all_goals exact .refl s

theorem attends_deliver (o : Origin) (b : Fin 4) (r : Result) (v : List Byte) (s : State) : s.Attends (deliver o b r v s) := by
  unfold deliver
  split
  · exact .ite (.refl s) (attends_raise ..)
  · exact .ite (.of_eq rfl) (.refl s)

theorem attends_takeRequest (sampled : Bool) (o : Origin) (b : Fin 4) (r : BandRequest) (s : State) :
    s.Attends (takeRequest sampled o b r s) :=
  (attends_judgeRequest sampled b r s).trans (attends_deliver ..)

theorem attends_takeRequests (sampled : Bool) (b : Fin 4) (l : List QueuedRequest) :
    ∀ s : State, s.Attends (takeRequests sampled b l s) := by
  induction l with
  | nil => exact State.Attends.refl
  | cons q t ih => exact fun s => (attends_takeRequest ..).trans (ih _)

theorem attends_takeAlone (o : Origin) (b : Fin 4) (r : BandRequest) (s : State) : s.Attends (takeAlone o b r s) :=
  .ite (attends_takeRequest ..) (.refl s)

theorem attends_bandFrameStart (sampled : Bool) (b : Fin 4) (s : State) : s.Attends (bandFrameStart sampled b s) := by
  have queue : s.Attends (takeQueue sampled b s) :=
    State.Attends.trans (.of_eq (State.updBand_au ..)) (attends_takeRequests ..)
  refine queue.trans (.ite ?_ (.refl _))
  split
  · exact .refl _
  · split
    · exact attends_crawlSteps ..
    · exact attends_flipSteps ..

theorem attends_panelRequest (b : Fin 4) (r : BandRequest) (s : State) : s.Attends (panelRequest b r s) := by
  have joined : s.Attends (joinQueue b ⟨.panel, r⟩ s).2 := by
    unfold joinQueue
    split <;> exact .of_eq rfl
  exact .ite joined (joined.trans (attends_raise ..))

theorem attends_panelBroadcast (r : BandRequest) (s : State) : s.Attends (panelBroadcast r s) :=
  (((attends_panelRequest ..).trans (attends_panelRequest ..)).trans (attends_panelRequest ..)).trans (attends_panelRequest ..)

end Sys2Proof.Machine

/-! SUPPORT for O58. What the feed link, a frame start and the links of the other two masters do to the attention unit. -/

namespace Sys2Proof.Machine

/-! ### The feed link and the update engine -/

theorem attends_hearLane (n : Fin 4) (s : State) : s.Attends (hearLane n s) := .ite (.of_eq rfl) (.raised rfl)

theorem attends_countSilence (n : Fin 4) (s : State) : s.Attends (countSilence n s) :=
  .ite (.ite (.raised rfl) (.of_eq rfl)) (.refl s)

@[simp] theorem queueTx_au (items : List TxItem) (s : State) : (queueTx items s).au = s.au := rfl

theorem attends_badVerdict (s : State) : s.Attends (badVerdict s) := by
  refine State.Attends.trans ?_ (.of_eq (queueTx_au ..))
  exact .ite (.refl s) (.ite (.raised rfl) (.of_eq rfl))

@[simp] theorem otherVerdict_au (items : List TxItem) (s : State) : (otherVerdict items s).au = s.au := rfl

theorem attends_judgeData (n : Fin 4) (rs : List (List Byte)) (s : State) : s.Attends (judgeData n rs s) := by
  have refused : ∀ code, s.Attends (refusePacket code n s) := fun code => .raised rfl
  have taken : ∀ us, s.Attends (takePacket n us s) := fun us =>
    (State.Attends.trans (.of_eq (State.updLane_au ..)) (attends_hearLane ..)).trans (.of_eq (otherVerdict_au ..))
  exact .ite (refused _) (.ite (refused _) (.ite (refused _) (taken _)))

theorem attends_heartbeat (mask : Byte) (s : State) : s.Attends (heartbeat mask s) := by
  unfold heartbeat
  generalize List.finRange 4 = l
  induction l generalizing s with
  | nil => exact .refl s
  | cons n t ih => exact State.Attends.trans (.ite (attends_hearLane ..) (.refl s)) (ih _)

theorem attends_statusQuery (s : State) : s.Attends (statusQuery s).2 := by
  unfold statusQuery
  split
  · exact .refl s
  · exact .one (.beginRead .feed)

theorem attends_storeThreshold (m : Master) (v : Nat) (s : State) : s.Attends (storeThreshold m v s) :=
  .one (.store m (fun t => { t with threshold := v }) fun _ => ⟨rfl, rfl, rfl⟩)

theorem attends_serveControls (rs : List (List Byte)) : ∀ s : State, s.Attends (serveControls rs s).2 := by
  induction rs with
  | nil => exact State.Attends.refl
  | cons r t ih =>
    intro s
    unfold serveControls
    split
    · exact (attends_heartbeat ..).trans (ih _)
    · split
      · exact (attends_storeThreshold .feed (min 7 (byteAt r 1).toNat) s).trans (ih _)
      · exact (attends_statusQuery s).trans (ih _)

theorem attends_judgePacket (bs : List Byte) (s : State) : s.Attends (judgePacket bs s) := by
  unfold judgePacket
  dsimp only
  split
  · exact .refl s
  · exact .of_eq rfl
  · refine .ite (attends_badVerdict s) ?_
    split
    · exact .ite ((attends_serveControls ..).trans (.of_eq (otherVerdict_au ..))) (attends_badVerdict s)
    · exact attends_judgeData ..

theorem attends_feedBytes (bs : List Byte) : ∀ s : State, s.Attends (feedBytes bs s) := by
  induction bs with
  | nil => exact State.Attends.refl
  | cons b t ih =>
    intro s
    refine State.Attends.trans (t := feedByte b s) ?_ (ih _)
    unfold feedByte
    split
    · exact .ite (.of_eq rfl) (.refl s)
    · next bs _ => exact .ite (attends_judgePacket _ { s with fli := { s.fli with rx := none } }) (.of_eq rfl)

/-- FEED TX sends what waits, and the last byte of a record whose query began a read completes it. -/
theorem attends_sent (own : Bool) (f : Fli) (s : State) : s.Attends (endRecord own { s with fli := f }) :=
  .ite (.one (.completeRead .feed)) (.of_eq rfl)

theorem attends_sendFeedByte (s : State) : s.Attends (sendFeedByte s) := by
  unfold sendFeedByte
  split
  case h_3 => exact attends_sent ..
  case h_4 => exact attends_sent ..
  all_goals exact .of_eq rfl

theorem attends_applyUpdate (n : Fin 4) (u : Update) (s : State) : s.Attends (applyUpdate n u s) := by
  have updated : ∀ f, s.Attends (s.updQuoteAt u.index f) := fun f => .of_eq (State.updQuoteAt_au ..)
  unfold applyUpdate
  dsimp only
  refine .ite (attends_raise ..) (.ite (attends_raise ..) ?_)
  split
  · exact attends_raise ..
  · refine .ite (attends_raise ..) (.ite ?_ (.ite ?_ (.ite (updated _) (.ite (updated _) (updated _)))))
    all_goals
      split
      · exact attends_raise ..
      · exact updated _

theorem attends_engineTurn (s : State) : s.Attends (engineTurn s) := by
  unfold engineTurn
  split
  · exact .refl s
  · next n _ =>
    split
    · exact .refl s
    · next u rest _ => exact attends_applyUpdate n u { s.updLane n (fun l => { l with queue := rest }) with uePointer := n }

theorem attends_panelLaneCommand {f : Fin 4 → State → State} (lane : Nat) (s : State) (h : ∀ n, (f n s).au = s.au) :
    s.Attends (panelLaneCommand lane f s) := by
  unfold panelLaneCommand
  split
  · exact attends_raise ..
  · exact .of_eq (h _)

theorem laneCommand_au {f : Fin 4 → State → State} (lane : Nat) (s : State) (h : ∀ n, (f n s).au = s.au) :
    (laneCommand lane f s).2.au = s.au := by
  unfold laneCommand
  split
  · rfl
  · exact h _

@[simp] theorem releaseLink_au (s : State) : (releaseLink s).au = s.au := by
  unfold releaseLink
  split <;> rfl

/-! ### The compositor and frame starts -/

@[simp] theorem moveBand_au (clean : Bool) (b : Fin 4) (s : State) : (moveBand clean b s).au = s.au := by
  unfold moveBand
  split
  · rfl
  · split <;> rfl

@[simp] theorem judgeAck_au (clean : Bool) (s : State) : (judgeAck clean s).au = s.au := by
  unfold judgeAck
  split
  · rfl
  · split <;> rfl

theorem compositorFrameStart_au (s : State) : (compositorFrameStart s).au = s.au := by simp [compositorFrameStart]

theorem attends_frameBlocks (order : List Block) : ∀ (sampled : Bool) (s : State),
    s.Attends (frameBlocks order sampled s) := by
  induction order with
  | nil => exact fun _ s => .refl s
  | cons k t ih =>
    intro sampled s
    cases k with
    | quotes => exact State.Attends.trans (.of_eq rfl) (ih _ (quoteFrameStart s))
    | feed =>
      have counted : s.Attends (feedFrameStart s) :=
        (((attends_countSilence ..).trans (attends_countSilence ..)).trans (attends_countSilence ..)).trans
          (attends_countSilence ..)
      exact counted.trans (ih ..)
    | band b => exact (attends_bandFrameStart ..).trans (ih ..)
    | compositor => exact (State.Attends.of_eq (compositorFrameStart_au s)).trans (ih ..)

theorem attends_frameStart (s : State) : s.Attends (frameStart s) := by
  unfold frameStart
  split
  · exact .refl s
  · exact .of_eq rfl
  · exact attends_frameBlocks _ _ ({ s with frames := s.frames + 1 } : State).bumpFree

theorem attends_raiseTiming (s : State) : s.Attends (raiseTiming s) := .ite (attends_raise ..) (.refl s)

/-- R151: a frame start of the timing unit with a lock state of its own, and the change of that state that raises TIMING. -/
theorem attends_timed (tu : Tu) (s : State) : s.Attends (frameStart { s with tu := tu }) :=
  attends_frameStart { s with tu := tu }

theorem attends_timedAnew (tu : Tu) (s : State) : s.Attends (frameStart (raiseTiming { s with tu := tu })) :=
  State.Attends.trans (attends_raiseTiming { s with tu := tu }) (attends_frameStart _)

theorem attends_flipAlone {b : Fin 4} {due : BandConfig → Band → Bool} {f : BandConfig → Fin 4 → State → State} (s : State)
    (h : ∀ c, s.Attends (f c b s)) : s.Attends (flipAlone b due f s) := by
  unfold flipAlone
  split
  · exact .refl s
  · exact .ite (h _) (.refl s)

/-! ### The owners of the editorial commands -/

@[simp] theorem applyEdit_au (b : Fin 4) (op pos count : Nat) (items : List Item) (s : State) :
    (applyEdit b op pos count items s).2.au = s.au := rfl

@[simp] theorem joinQueue_au (b : Fin 4) (q : QueuedRequest) (s : State) : (joinQueue b q s).2.au = s.au := by
  unfold joinQueue
  split <;> rfl

@[simp] theorem editorialJoin_au (b : Fin 4) (r : BandRequest) (s : State) : (editorialJoin b r s).2.au = s.au := by
  unfold editorialJoin
  dsimp only
  split <;> exact joinQueue_au ..

@[simp] theorem writeSoftClean_au (panel v : Bool) (s : State) : (writeSoftClean panel v s).au = s.au := by
  unfold writeSoftClean
  split <;> rfl

@[simp] theorem applySource_au (r : Ref) (src : Source) (text : List Byte) (s : State) :
    (applySource r src text s).2.au = s.au := by
  unfold applySource
  split
  · exact State.updQuoteAt_au ..
  · rfl

theorem attends_setLevels (master : Nat) (levels : List Nat) (s : State) : s.Attends (setLevels master levels s).2 := by
  unfold setLevels
  split
  · exact .refl s
  · next m _ =>
    split
    · next whole =>
      split
      · exact .one (.store m (fun t => { t with levels := ⟨levels.toArray, by simpa using whole⟩ }) fun _ => ⟨rfl, rfl, rfl⟩)
      · exact .refl s
    · exact .refl s

/-- R187: of the command phases, SET LEVELS and SET THRESHOLD alone reach the attention unit. -/
theorem attends_commandPhase (c : EdCommand) (n : Nat) (s : State) : s.Attends (commandPhase c n s).2 := by
  cases c with
  | setLevels master levels => exact attends_setLevels ..
  | setThreshold v =>
    show s.Attends (editorialThreshold v s).2
    unfold editorialThreshold
    split
    · exact attends_storeThreshold ..
    · exact .refl s
  | laneHold lane => exact .of_eq (laneCommand_au lane s (fun _ => rfl))
  | laneRelease lane => exact .of_eq (laneCommand_au lane s (fun _ => rfl))
  | laneFlush lane => exact .of_eq (laneCommand_au lane s (fun _ => rfl))
  | setSilenceLimit lane limit =>
    show s.Attends (setSilenceLimit lane limit s).2
    unfold setSilenceLimit
    split
    · exact .of_eq (laneCommand_au lane s (fun _ => rfl))
    · exact .refl s
  | _ =>
    refine .of_eq ?_
    simp only [commandPhase, defineQuote, retireQuote, setSource, setReference, setFlash, loadStory, deleteStory,
      loadFace, unloadFace, loadImages, editorialSoftClean, setPin, editRunList, copyBank, editorialRequest]
    repeat' split
    all_goals simp

/-! ### The editorial link -/

@[simp] theorem finish_au (st : Status) (s : State) : (finish st s).au = s.au := rfl
@[simp] theorem enterPhase_au (p : EdPhase) (s : State) : (enterPhase p s).au = s.au := rfl
@[simp] theorem driveZeros_au (n : Nat) (s : State) : (driveZeros n s).au = s.au := rfl
@[simp] theorem driveBlock_au (block : List Byte) (n : Nat) (s : State) : (driveBlock block n s).au = s.au := rfl

@[simp] theorem completeConfigure_au (band : Nat) (s : State) : (completeConfigure band s).au = s.au := by
  unfold completeConfigure
  split
  · rfl
  · dsimp only
    split <;> simp

@[simp] theorem completeData_au (c : EdCommand) (s : State) : (completeData c s).au = s.au := by
  cases c with
  | setSource r source => exact applySource_au ..
  | loadStory =>
    show (completeStory s.eli.dataLength s).2.au = s.au
    unfold completeStory
    split <;> rfl
  | loadFace a =>
    show (completeFace a s).2.au = s.au
    unfold completeFace
    dsimp only
    repeat' split
    all_goals rfl
  | edit band op pos count =>
    show (completeEdit band op pos count s).2.au = s.au
    unfold completeEdit
    dsimp only
    repeat' split
    all_goals rfl
  | request band r => exact completeConfigure_au ..
  | _ => rfl

theorem attends_runCommand (h : EdHeader) (c : EdCommand) (s : State) : s.Attends (runCommand h c s) := by
  have settled : ∀ t : Reply × State, (settle c h.dataLength t).au = t.2.au := fun t => by
    unfold settle
    split
    · rfl
    · split
      · exact completeData_au ..
      · rfl
    all_goals rfl
  have taken : s.Attends (takeBlock h.tag (some c) h.dataLength s) := .of_eq rfl
  exact .ite ((taken.trans (attends_commandPhase ..)).trans (.of_eq (settled _))) (.of_eq rfl)

theorem attends_abandon (s : State) : s.Attends (abandon s) := by
  unfold abandon
  split
  case h_1 => exact .of_eq rfl
  case h_2 => exact .ite (.one (.abandonRead .editorial)) (.refl s)
  all_goals exact .refl s

theorem attends_phaseError (s : State) : s.Attends (phaseError s) :=
  .ite (.refl s) ((attends_abandon s).trans (.of_eq (State.updEli_au ..)))

theorem attends_inFrame (n : Nat) {f : State → State} (s : State) (h : s.Attends (f s)) : s.Attends (inFrame n f s) :=
  .ite (.refl s) (.ite (.of_eq rfl) h)

theorem attends_inPhase (p : EdPhase) (n : Nat) {f : State → State} (s : State) (h : ∀ t, State.Attends t (f t)) :
    s.Attends (inPhase p n f s) := by
  have driven : s.Attends (driveZeros n s) := .of_eq rfl
  exact attends_inFrame n s (.ite driven (.ite (driven.trans (h _)) (driven.trans (attends_phaseError _))))

theorem attends_edCommand (h : EdHeader) (c : EdCommand) (s : State) : s.Attends (edCommand h c s) :=
  attends_inPhase _ _ s (attends_runCommand h c)

theorem attends_commandFrame (bytes : List Byte) (s : State) : s.Attends (commandFrame bytes s) :=
  attends_inPhase _ _ s (fun t => by
    unfold judgeBlock
    split
    · split
      · exact attends_runCommand ..
      · exact .of_eq rfl
    · exact .of_eq rfl)

theorem storeByte_au (c : EdCommand) (k : Nat) (b : Byte) (s : State) : (storeByte c k b s).au = s.au := by
  cases c with
  | loadStory =>
    show (writeStoryByte k b s).au = _
    unfold writeStoryByte
    split <;> rfl
  | _ => rfl

theorem attends_receiveByte (b : Byte) (s : State) : s.Attends (receiveByte b s) := by
  unfold receiveByte
  split
  · next c _ _ =>
    have stored : s.Attends ((storeByte c s.eli.counter b s).updEli (fun e => { e with counter := e.counter + 1 })) :=
      .of_eq (storeByte_au ..)
    exact .ite (stored.trans (.of_eq (completeData_au ..))) stored
  · exact attends_phaseError s

theorem attends_receiveBytes (bytes : List Byte) : ∀ s : State, s.Attends (receiveBytes bytes s) := by
  induction bytes with
  | nil => exact State.Attends.refl
  | cons b t ih => exact fun s => (attends_receiveByte b s).trans (ih _)

theorem attends_dataOut (bytes : List Byte) (s : State) : s.Attends (dataOut bytes s) :=
  attends_inPhase _ _ s (attends_receiveBytes bytes)

theorem attends_lastByte (p : EdCommand → Bool) (b : Byte) (s : State) : s.Attends (lastByte p b s) :=
  .ite (attends_dataOut ..) (.refl s)

theorem attends_latchReport (c : EdCommand) (s : State) : s.Attends (latchReport c s) := by
  have begun : s.Attends (beginEvents c s) := .ite (.one (.beginRead .editorial)) (.refl s)
  refine begun.trans (.of_eq ?_)
  unfold latchReport takeFree
  dsimp only
  split <;> rfl

theorem attends_completeRead (c : EdCommand) (s : State) : s.Attends (completeRead c s) :=
  State.Attends.trans (.ite (.one (.completeRead .editorial)) (.refl s)) (.of_eq (finish_au ..))

theorem attends_sendByte (s : State) : s.Attends (sendByte s).2 := by
  unfold sendByte
  split
  · next c _ _ =>
    extract_lets s' s''
    have latched : s.Attends s' := .ite (attends_latchReport ..) (.refl s)
    have sent : s.Attends s'' := latched.trans (.of_eq (State.updEli_au ..))
    exact .ite (sent.trans (attends_completeRead ..)) sent
  · exact .refl s

theorem attends_sendBytes (n : Nat) : ∀ s : State, s.Attends (sendBytes n s).2 := by
  induction n with
  | zero => exact State.Attends.refl
  | succ n ih => exact fun s => (attends_sendByte s).trans (ih _)

theorem attends_dataIn (n : Nat) (s : State) : s.Attends (dataIn n s) :=
  attends_inPhase _ _ s (fun t => (attends_sendBytes n t).trans (.of_eq (State.updEli_au ..)))

/-- R192: the status of a DEVICE RESET, once read, resets the attention unit with the other blocks. -/
theorem attends_statusFrame (n : Nat) (s : State) : s.Attends (statusFrame n s) := by
  have driven : ∀ block, s.Attends (driveBlock block n s) := fun _ => .of_eq rfl
  have stray : s.Attends (strayStatus n s) := (attends_phaseError s).trans (.of_eq (driveBlock_au ..))
  have read : ∀ t : State, t.Attends (consumeStatus t) := fun t => .ite (.one .reset) (.of_eq rfl)
  refine attends_inFrame n s (.ite (driven _) ?_)
  split
  case h_1 => exact .ite ((driven _).trans (read _)) (driven _)
  case h_2 => exact driven _
  all_goals exact stray

theorem attends_linkReset (s : State) : s.Attends (linkReset s) :=
  attends_inFrame 0 s ((attends_abandon s).trans (.of_eq rfl))

theorem attends_edFrame (bytes : List Byte) (s : State) : s.Attends (edFrame bytes s) := by
  unfold edFrame
  split
  · exact .of_eq rfl
  · next kind rest =>
    split
    · exact attends_commandFrame ..
    · exact attends_dataOut ..
    · exact attends_dataIn ..
    · exact attends_statusFrame ..
    · exact attends_linkReset s
    · have driven : s.Attends (driveZeros rest.length s) := .of_eq rfl
      exact attends_inFrame _ s (.ite driven (driven.trans (attends_phaseError _)))

/-! ### The panel bus -/

theorem attends_panelBand (band : Nat) (r : BandRequest) (s : State) : s.Attends (panelBand band r s) := by
  unfold panelBand
  split
  · exact attends_raise ..
  · exact attends_panelRequest ..

theorem attends_panelSoftClean (value : Nat) (s : State) : s.Attends (panelSoftClean value s) := by
  unfold panelSoftClean
  split
  · exact attends_raise ..
  · exact .of_eq (writeSoftClean_au ..)

theorem attends_panelThreshold (v : Nat) (s : State) : s.Attends (panelThreshold v s) :=
  .ite (attends_storeThreshold ..) (attends_raise ..)

theorem attends_handOver (c a0 a1 : Byte) (s : State) : s.Attends (handOver c a0 a1 s) := by
  unfold handOver
  split
  case h_6 =>
    split
    · exact attends_raise ..
    · exact attends_panelBand ..
  case h_7 => exact attends_panelLaneCommand _ s (fun _ => rfl)
  case h_8 => exact attends_panelLaneCommand _ s (fun _ => rfl)
  case h_9 => exact .of_eq (releaseLink_au s)
  case h_10 => exact attends_panelSoftClean ..
  case h_11 => exact attends_panelThreshold ..
  case h_12 =>
    split
    · exact attends_raise ..
    · exact attends_panelBroadcast ..
  case h_13 => exact attends_panelBroadcast ..
  case h_14 => exact attends_panelBroadcast ..
  case h_15 => exact .refl s
  all_goals exact attends_panelBand ..

theorem attends_takeWrite (bytes : List Byte) (discard : Bool) (s : State) : s.Attends (takeWrite bytes discard s) := by
  unfold takeWrite
  split
  · exact .refl s
  · exact .ite (.refl s) (.ite (attends_handOver ..) (attends_raise ..))

theorem attends_panelByte (b : Byte) (s : State) : s.Attends (panelByte b s).2 := by
  have begun : s.Attends (beginStatusRead s) := .one (.beginRead .panel)
  have transferred : ∀ t, s.Attends (setTransfer t s) := fun _ => .of_eq rfl
  unfold panelByte
  split
  · exact .refl s
  · repeat' split
    all_goals first | exact begun | exact transferred _
  · split <;> exact transferred _
  · split <;> exact transferred _
  · exact .refl s

theorem attends_panelBytes (bytes : List Byte) : ∀ s : State, s.Attends (panelBytes bytes s).2 := by
  induction bytes with
  | nil => exact State.Attends.refl
  | cons b t ih => exact fun s => (attends_panelByte b s).trans (ih _)

theorem attends_writeBytes (bytes : List Byte) (s : State) : s.Attends (writeBytes bytes s) :=
  (attends_panelBytes bytes s).trans (.of_eq (State.updPbi_au ..))

theorem attends_readByte (s : State) : s.Attends (readByte s).2 := by
  unfold readByte
  split
  · exact .ite (.one (.completeRead .panel)) (.of_eq rfl)
  · exact .refl s

theorem attends_readBytes (n : Nat) : ∀ s : State, s.Attends (readBytes n s).2 := by
  induction n with
  | zero => exact State.Attends.refl
  | succ n ih => exact fun s => (attends_readByte s).trans (ih _)

theorem attends_clockRead (n : Nat) (s : State) : s.Attends (clockRead n s) :=
  (attends_readBytes n s).trans (.of_eq (State.updPbi_au ..))

theorem attends_restart (t : Transfer) (s : State) : s.Attends (restart t s) := by
  have ended : s.Attends (endTransfer s) := by
    unfold endTransfer
    split
    · exact .refl s
    · exact .refl s
    · exact attends_takeWrite ..
    · exact attends_takeWrite ..
    · exact .ite (.one (.abandonRead .panel)) (.refl s)
  exact ended.trans (.of_eq (State.updPbi_au ..))

theorem attends_onBus {f : State → State} (s : State) (h : s.Attends (f s)) : s.Attends (onBus f s) := .ite (.refl s) h

theorem attends_whenRunning {f : State → State} (s : State) (h : s.Attends (f s)) : s.Attends (whenRunning f s) :=
  .ite h (.refl s)

end Sys2Proof.Machine

/-! PROOF. Every row keeps the pending sets and the hold sets free of equal pairs (O58). -/

namespace Sys2Proof.Machine

/-- The next state, when there is one, comes from `s` by steps of the attention unit. -/
def Attending (s : State) (o : Host.Outcome State Fault Refusal) : Prop := ∀ t, o = .next t → s.Attends t

theorem Attending.next {s t : State} (h : s.Attends t) : Attending s (.next t) := fun _ e => by
  cases e
  exact h

/-- A row that does not touch the attention unit. -/
theorem Attending.apart {s t : State} (h : t.au = s.au) : Attending s (.next t) := .next (.of_eq h)

/-- A row of both masters. -/
theorem attending_via {s : State} (row : Via → Instr) (via : Via) {c : EdCommand} {f : State → State}
    (editorial : ∀ h, exec (row (.editorial h)) s = .next (edCommand h c s))
    (panel : exec (row .panel) s = .next (whenRunning f s)) (h : s.Attends (f s)) : Attending s (exec (row via) s) := by
  cases via with
  | editorial header =>
    rw [editorial]
    exact .next (attends_edCommand ..)
  | panel =>
    rw [panel]
    exact .next (attends_whenRunning s h)

/-- Data bytes, unless they would reach outside glyph memory. -/
theorem attending_images {s t : State} (h : s.Attends t) :
    Attending s (if imagesOutside s then .fault .glyphAddress else .next t) := by
  split
  · exact fun _ e => nomatch e
  · exact .next h

theorem attending_exec (i : Instr) (s : State) : Attending s (exec i s) := by
  cases i with
  | powerOn levels time => exact .next (.one .reset)
  | resetAsserted => exact .next (.one .reset)
  | initDone => exact .next (.ite (.raised rfl) (.refl s))
  | deviceResetStart => exact .next (.ite (.one .reset) (.refl s))
  | referencePulse time => exact .next (.ite (.ite (.refl s) (attends_timed ..)) (attends_timedAnew ..))
  | lossLimit => exact .next (.ite (attends_timedAnew ..) (.refl s))
  | freeRunPeriod => exact .next (.ite (.refl s) (attends_timed ..))
  | flashExpired index => exact .apart rfl
  | laneSilent lane => exact .next (.ite (attends_countSilence ..) (.refl s))
  | drainEnd band => exact .next (attends_drainEndStep ..)
  | clearingEnd band => exact .next (attends_clearingEndStep ..)
  | holdExpired band => exact .next (attends_flipAlone s (attends_expirePage · band s))
  | rollEnd band => exact .next (attends_flipAlone s (attends_endRoll · band s))
  | leavingEnd band => exact .next (attends_flipAlone s (attends_endLeaving · band s))
  | fadeOutComplete band => exact .next (.ite (.of_eq (moveBand_au ..)) (.refl s))
  | fadeInComplete band =>
    refine .next ?_
    split
    · exact .refl s
    · exact .ite (.of_eq (moveBand_au ..)) (.refl s)
  | bankSwap band => exact .next (attends_whenRunning s (attends_swapBanks ..))
  | retiringRecordFreed index => exact .apart rfl
  | deletingStoryFreed id => exact .apart (freeStoryIfGone_au id s)
  | cleanRequest level => exact .apart rfl
  | feedPacket bytes => exact .next (.ite (.refl s) (attends_feedBytes bytes s))
  | feedStatusRecordSent =>
    refine .next ?_
    split
    · exact .refl s
    · exact attends_sent ..
  | updateEngineTurn => exact .next (attends_engineTurn s)
  | commandFrame bytes => exact .next (attends_commandFrame ..)
  | dataOutFrame bytes => exact attending_images (attends_dataOut ..)
  | dataInFrame count => exact .next (attends_dataIn ..)
  | statusFrame count => exact .next (attends_statusFrame ..)
  | linkReset => exact .next (attends_linkReset s)
  | setSourceDataComplete last => exact .next (attends_lastByte ..)
  | laneHold via lane => exact attending_via (.laneHold · lane) via (fun _ => rfl) rfl (attends_panelLaneCommand lane s (fun _ => rfl))
  | laneRelease via lane => exact attending_via (.laneRelease · lane) via (fun _ => rfl) rfl (attends_panelLaneCommand lane s (fun _ => rfl))
  | linkRelease via => exact attending_via Instr.linkRelease via (fun _ => rfl) rfl (.of_eq (releaseLink_au s))
  | loadStoryComplete last => exact .next (attends_lastByte ..)
  | loadFaceComplete last => exact .next (attends_lastByte ..)
  | loadGlyphImagesComplete last => exact attending_images (attends_lastByte ..)
  | editDataComplete last => exact .next (attends_lastByte ..)
  | softClean via value => exact attending_via (.softClean · value) via (fun _ => rfl) rfl (attends_panelSoftClean value s)
  | setThreshold via value => exact attending_via (.setThreshold · value) via (fun _ => rfl) rfl (attends_panelThreshold value s)
  | readEventsComplete => exact .next (.ite (attends_dataIn ..) (.refl s))
  | bandRequestQueued a =>
    cases a with
    | editorial h band r => exact .next (attends_edCommand ..)
    | panel band r => exact .next (attends_whenRunning s (attends_panelRequest ..))
  | allTakeOff cut => exact .next (attends_whenRunning s (attends_panelBroadcast ..))
  | allHalt => exact .next (attends_whenRunning s (attends_panelBroadcast ..))
  | allResume => exact .next (attends_whenRunning s (attends_panelBroadcast ..))
  | panelWrite bytes => exact .next (attends_onBus s (attends_writeBytes ..))
  | startCondition => exact .next (attends_onBus s (attends_restart ..))
  | stopCondition => exact .next (attends_onBus s (attends_restart ..))
  | panelStatusRead clocked => exact .next (attends_onBus s ((attends_writeBytes ..).trans (attends_clockRead ..)))
  | panelStatusReadComplete => exact .next (.ite (.refl s) (attends_clockRead ..))
  | frameOfUnknownKind kind => exact .next (attends_edFrame ..)
  | configure ticket band record => exact .next (attends_takeAlone ..)
  | release ticket band => exact .next (attends_takeAlone ..)
  | takeOn origin band fromTop => exact .next (attends_takeAlone ..)
  | takeOffDrain origin band => exact .next (attends_takeAlone ..)
  | takeOffCut origin band => exact .next (attends_takeAlone ..)
  | halt origin band => exact .next (attends_takeAlone ..)
  | resume origin band => exact .next (attends_takeAlone ..)
  | setSpeed ticket band value => exact .next (attends_takeAlone ..)
  | nudge band up => exact .next (attends_takeAlone ..)
  | commit ticket band mode => exact .next (attends_takeAlone ..)
  | breakNext ticket band story repeats => exact .next (attends_takeAlone ..)
  | breakNow ticket band story repeats => exact .next (attends_takeAlone ..)
  | breakClear ticket band => exact .next (attends_takeAlone ..)
  | _ => exact .next (attends_edCommand ..)

/-- Whatever a step does to the attention unit is a chain of its steps. -/
theorem attends_of_step {s t : State} (h : step s = .next t) : s.Attends t := by
  unfold step at h
  split at h
  · cases h
    exact attends_sendFeedByte s
  · next i rest _ =>
    have waiting : s.Attends (s.withPending rest) := .of_eq rfl
    exact waiting.trans (attending_exec i _ t h)

/-- Settles O58: every step of the attention unit keeps its sets in order, and a step of the device is a chain of such steps. -/
theorem everyStepKeepsAttention : Obligations.EveryStepKeepsAttention := by
  unfold Obligations.EveryStepKeepsAttention
  intro s t ok stepped
  exact (attends_of_step stepped).attentionOk ok

end Sys2Proof.Machine

/-! PROOF. The values that a reset gives the blocks, and POWER ON (O2). -/

namespace Sys2Proof.Machine

/-! ### The values of a reset (R24, R65, R83, R100, R101, R139, R159 to R165, R176, R180, R187) -/

/-- Every block that a reset touches stands at its reset value. -/
structure State.Renewed (t : State) : Prop where
  quotes : t.quotes = Vector.replicate 1024 (Quote.free 0)
  flashSetting : t.flashSetting = 25
  fault : t.fli.fault = false
  bad : t.fli.bad = 0
  lanes : t.fli.lanes = Vector.replicate 4 Lane.reset
  uePointer : t.uePointer = 3
  ts : ∃ text, t.ts = TextStore.reset text
  staging : t.gs.staging = []
  rls : t.rls = Vector.replicate 4 RunLists.reset
  editStaging : t.editStaging = []
  bands : t.bands = Vector.replicate 4 Band.reset
  cmp : t.cmp = Compositor.reset
  pins : t.pins = Pin.initial t.straps.tallyMode
  au : t.au = Au.reset
  eli : t.eli.phase = .idle ∧ t.eli.command = none ∧ t.eli.counter = 0 ∧ t.eli.status = none
  pbi : t.pbi.transfer = .notAddressed

theorem MasterSet.defaultLevel_eq (m : Master) (k : EventKind) : (MasterSet.reset m).level k = defaultLevel m k := by
  cases m <;> cases k <;> rfl

theorem Au.reset_get (m : Master) : Au.reset.get m = MasterSet.reset m := by cases m <;> rfl

theorem Pin.initial_get (mode : Bool) (n : Fin 4) : tget (Pin.initial mode) n = ⟨mode, .tally n, false⟩ := by
  fin_cases n <;> rfl

theorem State.Renewed.atReset {t : State} (h : t.Renewed) : t.atReset := by
  obtain ⟨text, ts⟩ := h.ts
  obtain ⟨phase, command, counter, status⟩ := h.eli
  have attends : ∀ m, t.au.get m = MasterSet.reset m := fun m => by rw [h.au, Au.reset_get]
  refine ⟨fun i => ?_, h.flashSetting, h.fault, h.bad, fun n => ?_, h.uePointer, fun i => ?_, ?_, ?_, h.staging, fun b => ?_,
    h.editStaging, fun b => ?_, ?_, ?_, ?_, ?_, fun b => ?_, fun n => ?_, fun m k => ?_, fun m => ?_, phase, command, counter,
    status, h.pbi⟩
  · rw [State.quote, h.quotes, tget_replicate]
  · rw [State.lane, h.lanes, tget_replicate, Lane.reset]
  · rw [State.story, ts, TextStore.reset, tget_replicate]
  · rw [ts, TextStore.reset, Config.blockCount]
  · rw [ts, TextStore.reset]
  · rw [State.lists, h.rls, tget_replicate, RunLists.reset]
  · rw [State.band, h.bands, tget_replicate, Band.reset, Page.initial]
  · rw [h.cmp, Compositor.reset]
  · rw [h.cmp, Compositor.reset]
  · rw [h.cmp, Compositor.reset]
  · rw [h.cmp, Compositor.reset]
  · rw [State.vis, h.cmp, Compositor.reset, tget_replicate, Visibility.off]
  · rw [State.pin, h.pins, Pin.initial_get]
  · rw [attends, MasterSet.defaultLevel_eq]
  · rw [attends]
    exact ⟨rfl, rfl, rfl, rfl⟩

theorem powerOnValues_renewed (run : RunMode) (straps : Straps) (time : Nat) (cleanPin : Bool) (freeIndex : Nat)
    (pending : List Instr) : (State.powerOnValues run straps time cleanPin freeIndex pending).Renewed := by
  constructor
  case ts => exact ⟨[], rfl⟩
  case eli => exact ⟨rfl, rfl, rfl, rfl⟩
  all_goals rfl

/-- Settles O2: every block has its power-on value, and `State.reset` is one such state. -/
theorem powerOnValues : Obligations.PowerOnValues := by
  unfold Obligations.PowerOnValues
  refine ⟨fun straps time selected s => ⟨_, rfl, rfl, rfl, rfl, ?_, fun _ => tget_replicate .., fun _ => rfl, rfl, rfl, rfl, rfl, rfl⟩, rfl⟩
  have renewed := powerOnValues_renewed .initialising straps time s.cleanPin s.freeIndex s.pending
  exact State.Renewed.atReset { renewed with eli := ⟨rfl, rfl, rfl, rfl⟩ }

end Sys2Proof.Machine

/-! PROOF. The links and the pixel port during a reset, and the frame that began before the release of RESET (O3). -/

namespace Sys2Proof.Machine

/-! ### Frames by the phase, while the RESET pin is held and across its release (R169, R191) -/

theorem inPhase_held {s : State} (p : EdPhase) (n : Nat) (f : State → State) (held : s.run = .held) : inPhase p n f s = s :=
  inFrame_held _ _ held

theorem inPhase_straddles {s : State} (p : EdPhase) (n : Nat) (f : State → State) (free : s.run ≠ .held)
    (straddles : s.eli.straddles = true) :
    inPhase p n f s = s.updEli (fun e => { e with straddles := false, dout := List.replicate (n + 1) 0 }) :=
  inFrame_straddles _ _ free straddles

/-- Image data is in flight in DATA OUT alone, so that in every other phase its end is not looked at (R77). -/
theorem exec_dataOutFrame_of_phase {s : State} (bytes : List Byte) (h : s.eli.phase ≠ .dataOut) :
    exec (.dataOutFrame bytes) s = .next (dataOut bytes s) := if_neg (by simp [imagesOutside_of_other h])

theorem onBus_held {s : State} (f : State → State) (held : s.run = .held) : onBus f s = s := if_pos held

/-! ### The initialisation period (R176, R177) -/

/-- The frames of the three kinds that begin or carry a command drive 00h, and nothing more. -/
theorem inPhase_initialising {s : State} (p : EdPhase) (n : Nat) (f : State → State) (run : s.run = .initialising)
    (acts : s.eli.straddles = false) : inPhase p n f s = driveZeros n s := by
  simp [inPhase, inFrame, run, acts]

/-- R176: a STATUS frame returns NOT READY with tag 0. -/
theorem statusFrame_initialising {s : State} (n : Nat) (run : s.run = .initialising) (acts : s.eli.straddles = false) :
    statusFrame n s = driveBlock (statusBlock 0 .notReady 0 noValues) n s := by
  simp [statusFrame, inFrame, run, acts]

/-- R177: no address is acknowledged. -/
theorem exec_panelWrite_initialising {s : State} (address : Byte) (bytes : List Byte) (run : s.run = .initialising)
    (transfer : s.pbi.transfer = .address) : exec (.panelWrite (address :: bytes)) s =
      .next { s with pbi :=
        { s.pbi with transfer := .notAddressed, acks := List.replicate (bytes.length + 1) false } } := by
  have passed : panelByte address s = (false, setTransfer .notAddressed s) := by simp [panelByte, transfer, run]
  refine congrArg Host.Outcome.next ((if_neg (by rw [run]; nofun)).trans ?_)
  rw [writeBytes, panelBytes, passed]
  dsimp only
  rw [panelBytes_notAddressed bytes rfl]
  rfl

/-- Settles O3: the RESET pin held, the frame that began before its release, and the initialisation period. -/
theorem linksInReset : Obligations.LinksInReset := by
  unfold Obligations.LinksInReset
  refine ⟨⟨fun s => ?_, fun s held => ?_⟩, fun s free straddles idle => ?_, fun s run acts idle => ?_⟩
  · exact ⟨_, rfl, rfl, rfl, (powerOnValues_renewed ..).atReset, fun _ => tget_replicate .., fun _ => rfl, rfl, rfl, rfl, rfl⟩
  · have ignored : ∀ p n f, Host.Outcome.next (ρ := Refusal) (φ := Fault) (inPhase p n f s) = .next s := fun p n f =>
      congrArg Host.Outcome.next (inPhase_held p n f held)
    have silent : ∀ f, Host.Outcome.next (ρ := Refusal) (φ := Fault) (onBus f s) = .next s := fun f =>
      congrArg Host.Outcome.next (onBus_held f held)
    refine ⟨fun x y => pixel_none (.inl held), fun bytes => congrArg Host.Outcome.next (if_pos held), fun bytes => ignored _ _ _,
      fun bytes idle => ?_, fun n => ignored _ _ _, fun n => congrArg Host.Outcome.next (inFrame_held _ _ held),
      congrArg Host.Outcome.next (inFrame_held _ _ held), fun bytes => silent _, fun n => silent _, silent _, silent _⟩
    rw [exec_dataOutFrame_of_phase bytes (by rw [idle]; nofun)]
    exact ignored _ _ _
  · intro ignored
    have passed : ∀ p n f, Host.Outcome.next (ρ := Refusal) (φ := Fault) (inPhase p n f s) = .next (ignored n) := fun p n f =>
      congrArg Host.Outcome.next (inPhase_straddles p n f free straddles)
    have ended : ∀ n f, Host.Outcome.next (ρ := Refusal) (φ := Fault) (inFrame n f s) = .next (ignored n) := fun n f =>
      congrArg Host.Outcome.next (inFrame_straddles n f free straddles)
    refine ⟨fun bytes => passed _ _ _, fun bytes => ?_, fun n => passed _ _ _, fun n => ended _ _, ended _ _, fun kind => ?_,
      fun h c => inPhase_straddles _ _ _ free straddles⟩
    · rw [exec_dataOutFrame_of_phase bytes (by rw [idle]; nofun)]
      exact passed _ _ _
    · show Host.Outcome.next (edFrame [kind] s) = .next (ignored 0)
      unfold edFrame
      dsimp only
      split
      · exact passed .idle 0 _
      · exact passed .dataOut 0 _
      · exact passed .dataIn 0 _
      all_goals exact ended 0 _
  · have driven : ∀ p n f, ∃ t, Host.Outcome.next (ρ := Refusal) (φ := Fault) (inPhase p n f s) = .next t ∧
        t = { s with eli := { s.eli with dout := t.eli.dout } } := fun p n f =>
      ⟨_, congrArg Host.Outcome.next (inPhase_initialising p n f run acts), rfl⟩
    refine ⟨fun bytes => driven _ _ _, fun bytes => ?_, fun n => driven _ _ _,
      congrArg Host.Outcome.next (statusFrame_initialising 12 run acts), fun address bytes transfer => ?_⟩
    · rw [exec_dataOutFrame_of_phase bytes (by rw [idle]; nofun)]
      exact driven _ _ _
    · exact ⟨_, exec_panelWrite_initialising address bytes run transfer, rfl, rfl, rfl⟩

end Sys2Proof.Machine

/-! PROOF. The end of the initialisation period, and the device reset with the status read that begins it (O4). -/

namespace Sys2Proof.Machine

/-! ### INIT DONE (R186, R188) -/

/-- R187: every master gives INIT DONE level 1 by default. -/
theorem defaultLevel_initDone (m : Master) : defaultLevel m .initDone = 1 := by cases m <;> rfl

theorem exec_initDone {s : State} (run : s.run = .initialising) :
    exec .initDone s = .next ({ s with run := .running }.raise .initDone .none) :=
  congrArg Host.Outcome.next (if_pos run)

/-- R187: the levels and the sets of every master after a reset. -/
theorem State.atReset.master {s : State} (h : s.atReset) (m : Master) :
    (∀ k, (s.au.get m).level k = defaultLevel m k) ∧ (s.au.get m).threshold = 0 ∧ (s.au.get m).pending = [] ∧
      (s.au.get m).latch = none := by
  obtain ⟨-, -, -, -, -, -, -, -, -, -, -, -, -, -, -, -, -, -, -, level, sets, -⟩ := h
  obtain ⟨threshold, pending, -, latch⟩ := sets m
  exact ⟨level m, threshold, pending, latch⟩

/-- R188: with the levels and the sets of a reset, INIT DONE is pending with each master, and its attention line is high. -/
theorem raise_initDone_of_reset {s : State} (m : Master) (level : (s.au.get m).level .initDone = 1)
    (threshold : (s.au.get m).threshold = 0) (pending : (s.au.get m).pending = []) (latch : (s.au.get m).latch = none) :
    ((s.raise .initDone .none).au.get m).pending = [⟨.initDone, .none⟩] ∧ (s.raise .initDone .none).attention m = true := by
  have recorded : (s.raise .initDone .none).au.get m = { s.au.get m with pending := [⟨.initDone, .none⟩] } := by
    rw [State.raise_get, MasterSet.record_of_idle (by rw [level]; exact Nat.one_pos) latch, pending]
    rfl
  rw [State.attention_iff, recorded]
  refine ⟨rfl, _, List.mem_singleton_self _, ?_⟩
  rw [threshold]
  exact level ▸ Nat.one_pos

/-! ### The device reset (R192) -/

theorem deviceReset_renewed (s : State) : (deviceReset s).Renewed := by
  constructor
  case ts => exact ⟨s.ts.text, rfl⟩
  case eli => exact ⟨rfl, rfl, rfl, rfl⟩
  all_goals rfl

theorem exec_deviceResetStart {s : State} (run : s.run = .running) : exec .deviceResetStart s = .next (deviceReset s) :=
  congrArg Host.Outcome.next (if_pos run)

/-- R170: DEVICE RESET, which carries no data, is answered GOOD. -/
theorem exec_deviceReset {s : State} {h : EdHeader} (k : s.takesCommand) (none : h.dataLength = 0) :
    exec (.deviceReset h) s = .next (s.answers h .deviceReset .good noValues) :=
  congrArg Host.Outcome.next (edCommand_of_lengthOk k (lengthOk_none rfl none))

/-- R173, R192: the twelfth byte of the status of a DEVICE RESET that was answered GOOD begins the reset. -/
theorem consumeStatus_deviceReset {s : State} (command : s.eli.command = some .deviceReset)
    (answer : s.eli.status.map Status.result = some .good) : consumeStatus s = deviceReset (s.updEli Eli.toIdle) :=
  if_pos ⟨command, answer⟩

/-- Settles O4: INIT DONE, the values and the rows of a device reset, and the three ends of an answered DEVICE RESET. -/
theorem initDoneAndDeviceReset : Obligations.InitDoneAndDeviceReset := by
  unfold Obligations.InitDoneAndDeviceReset
  refine ⟨⟨fun s run => exec_initDone run, fun s run => congrArg Host.Outcome.next (if_neg run), fun s m run reset => ?_⟩,
    fun s run => ?_, ⟨rfl, fun _ _ => rfl, fun _ _ _ => rfl⟩, fun s run => congrArg Host.Outcome.next (if_neg run),
    fun s h k none => exec_deviceReset k none, fun s h n k => ?_⟩
  · obtain ⟨level, threshold, pending, latch⟩ := reset.master m
    exact ⟨_, exec_initDone run, raise_initDone_of_reset (s := { s with run := .running }) m
      ((level .initDone).trans (defaultLevel_initDone m)) threshold pending latch⟩
  · exact ⟨_, exec_deviceResetStart run, rfl, (deviceReset_renewed s).atReset, rfl, rfl, rfl, rfl, rfl, rfl, rfl, rfl, rfl⟩
  · intro waiting
    have answered := fun n => exec_statusFrame_ready (s := waiting) (st := ⟨.good, h.dataLength, noValues⟩) n k rfl rfl
    refine ⟨fun few => ?_, fun whole => ?_, ?_⟩
    · rw [answered, if_neg (by omega)]
      exact ⟨_, rfl, rfl⟩
    · rw [answered, if_pos whole, consumeStatus_deviceReset rfl rfl]
      exact ⟨_, _, rfl, exec_deviceResetStart k.1, rfl, rfl⟩
    · refine ⟨_, exec_linkReset (s := waiting) (by rw [show waiting.run = .running from k.1]; nofun) k.2, ?_, rfl⟩
      rw [abandon_other (by nofun) (by rintro ⟨⟨⟩, -⟩)]
      rfl

end Sys2Proof.Machine

/-! PROOF. The step at the queue of commands: the front command, and the idle step (O1). -/

namespace Sys2Proof.Machine

/-! ### The queue of commands (log entries 1 and 2) -/

/-- Only the last queue given to a state stands. -/
@[simp] theorem State.withPending_withPending (s : State) (l l' : List Instr) :
    (s.withPending l).withPending l' = s.withPending l' := rfl

theorem step_front {s : State} {c : Instr} {rest : List Instr} (h : s.pending = c :: rest) :
    step s = exec c (s.withPending rest) := by
  unfold step
  rw [h]

/-- R168: FEED TX with nothing waiting sends nothing. -/
theorem sendFeedByte_nil {s : State} (h : s.fli.tx = []) : sendFeedByte s = s := by
  unfold sendFeedByte
  rw [h]

/-- Settles O1: a step takes the front command off the queue; with the queue empty it is FEED TX's, which has nothing to send. -/
theorem stepRunsFrontCommand : Obligations.StepRunsFrontCommand := by
  unfold Obligations.StepRunsFrontCommand
  refine ⟨fun s c rest => ?_, fun s silent => ?_⟩
  · rw [step_front (s.withPending_pending (c :: rest)), State.withPending_withPending]
  · rw [step_idle (s.withPending_pending []), sendFeedByte_nil ((s.withPending_fli []).symm ▸ silent)]

end Sys2Proof.Machine
